-- ==== Sys2Proof/Word.lean ====
section
/-!
DEFINITION. The word types of UltraSPARC Architecture 2005 (10_state.md R20, 20_memory.md R1300). A BitVec is used for
what the manual treats as bits: register contents, addresses being computed, instruction fields.
-/

namespace Sys2Proof

/-- A 64-bit register or virtual address. -/
abbrev Word := BitVec 64

/-- A 32-bit word: a single F register, an instruction, a memory word. -/
abbrev HWord := BitVec 32

/-- One byte of memory. -/
abbrev Byte := BitVec 8

/-- A 5-bit register field of an instruction word (30_encoding.md R302). -/
abbrev RegField := BitVec 5

/-- A trap type, 9 bits (11_state_privileged.md R173). -/
abbrev TrapType := BitVec 9

end Sys2Proof
end

