-- ==== Sys2Proof/Syntax.lean ====
section
/-!
DEFINITION. Abstract syntax: one constructor of `Instr` for each row of spec/opcode_table.json, named by the row's
mnemonic in lower case (`for_` and `return_` because `for` and `return` are Lean keywords). A constructor carries every
bit of the word that the row's mask and its reserved-field rule leave open (30_encoding.md R302, R313 to R326), those
the instruction ignores included, so that a word and its instruction determine each other.
-/

namespace Sys2Proof

/-- The integer condition codes a selector may name (30_encoding.md R348, TABLE A-11; 01 and 11 are reserved). -/
inductive IntCC where
  | icc
  | xcc
  deriving DecidableEq, Repr

/-- fcc0 to fcc3, selected by two bits (30_encoding.md R348, TABLE A-10). -/
abbrev FccSel := BitVec 2

/-- A second operand that is a register or an immediate of `n` bits (30_encoding.md R310). -/
inductive RegOrImm (n : Nat) where
  | reg (rs2 : RegField)
  | imm (value : BitVec n)
  deriving DecidableEq, Repr

/-- R[rs2] or simm13 (30_encoding.md R310, R320). -/
abbrev Op2 := RegOrImm 13
/-- R[rs2] or simm11, of MOVcc (30_encoding.md R322). -/
abbrev Op2x11 := RegOrImm 11
/-- R[rs2] or simm10, of MOVr (30_encoding.md R322). -/
abbrev Op2x10 := RegOrImm 10
/-- R[rs2] or imm_trap_#, of Tcc (30_encoding.md R323). -/
abbrev Op2x8 := RegOrImm 8
/-- R[rs2] or shcnt32 (30_encoding.md R321). -/
abbrev Shift32 := RegOrImm 5
/-- R[rs2] or shcnt64 (30_encoding.md R321). -/
abbrev Shift64 := RegOrImm 6

/-- The operands of an alternate-space access: an explicit imm_asi with R[rs2] (i = 0), or the ASI register with simm13
(i = 1) (30_encoding.md R320). FLUSH uses the same shape for the bits 12:5 it does not check (42_loadstore.md R622). -/
inductive AsiOp2 where
  | reg (asi : BitVec 8) (rs2 : RegField)
  | imm (simm13 : BitVec 13)
  deriving DecidableEq, Repr

/-- The ASI of CASA and CASXA: imm_asi (i = 0) or the ASI register (i = 1) (30_encoding.md R324). -/
inductive CasAsi where
  | immAsi (asi : BitVec 8)
  | asiReg
  deriving DecidableEq, Repr

/-- The privileged registers RDPR and WRPR name (30_encoding.md R326, 44_window_state.md R776). -/
inductive PrivReg where
  | tpc | tnpc | tstate | tt | tick | tba | pstate | tl | pil | cwp | cansave | canrestore | cleanwin | otherwin | wstate
  | gl
  deriving DecidableEq, Repr

/-- The hyperprivileged registers RDHPR and WRHPR name (30_encoding.md R326, 44_window_state.md R786). -/
inductive HyperReg where
  | hpstate | htstate | hintp | htba | hver | hstickCmpr
  deriving DecidableEq, Repr

/-- The instructions: one constructor for each row of spec/opcode_table.json. -/
inductive Instr where
  | illtrap (bits29_25 : RegField) (const22 : BitVec 22)
  | bpa (a : Bool) (cc : IntCC) (p : Bool) (disp19 : BitVec 19)
  | bpn (a : Bool) (cc : IntCC) (p : Bool) (disp19 : BitVec 19)
  | bpne (a : Bool) (cc : IntCC) (p : Bool) (disp19 : BitVec 19)
  | bpe (a : Bool) (cc : IntCC) (p : Bool) (disp19 : BitVec 19)
  | bpg (a : Bool) (cc : IntCC) (p : Bool) (disp19 : BitVec 19)
  | bple (a : Bool) (cc : IntCC) (p : Bool) (disp19 : BitVec 19)
  | bpge (a : Bool) (cc : IntCC) (p : Bool) (disp19 : BitVec 19)
  | bpl (a : Bool) (cc : IntCC) (p : Bool) (disp19 : BitVec 19)
  | bpgu (a : Bool) (cc : IntCC) (p : Bool) (disp19 : BitVec 19)
  | bpleu (a : Bool) (cc : IntCC) (p : Bool) (disp19 : BitVec 19)
  | bpcc (a : Bool) (cc : IntCC) (p : Bool) (disp19 : BitVec 19)
  | bpcs (a : Bool) (cc : IntCC) (p : Bool) (disp19 : BitVec 19)
  | bppos (a : Bool) (cc : IntCC) (p : Bool) (disp19 : BitVec 19)
  | bpneg (a : Bool) (cc : IntCC) (p : Bool) (disp19 : BitVec 19)
  | bpvc (a : Bool) (cc : IntCC) (p : Bool) (disp19 : BitVec 19)
  | bpvs (a : Bool) (cc : IntCC) (p : Bool) (disp19 : BitVec 19)
  | ba (a : Bool) (disp22 : BitVec 22)
  | bn (a : Bool) (disp22 : BitVec 22)
  | bne (a : Bool) (disp22 : BitVec 22)
  | be (a : Bool) (disp22 : BitVec 22)
  | bg (a : Bool) (disp22 : BitVec 22)
  | ble (a : Bool) (disp22 : BitVec 22)
  | bge (a : Bool) (disp22 : BitVec 22)
  | bl (a : Bool) (disp22 : BitVec 22)
  | bgu (a : Bool) (disp22 : BitVec 22)
  | bleu (a : Bool) (disp22 : BitVec 22)
  | bcc (a : Bool) (disp22 : BitVec 22)
  | bcs (a : Bool) (disp22 : BitVec 22)
  | bpos (a : Bool) (disp22 : BitVec 22)
  | bneg (a : Bool) (disp22 : BitVec 22)
  | bvc (a : Bool) (disp22 : BitVec 22)
  | bvs (a : Bool) (disp22 : BitVec 22)
  | brz (a : Bool) (p : Bool) (rs1 : RegField) (disp16 : BitVec 16)
  | brlez (a : Bool) (p : Bool) (rs1 : RegField) (disp16 : BitVec 16)
  | brlz (a : Bool) (p : Bool) (rs1 : RegField) (disp16 : BitVec 16)
  | brnz (a : Bool) (p : Bool) (rs1 : RegField) (disp16 : BitVec 16)
  | brgz (a : Bool) (p : Bool) (rs1 : RegField) (disp16 : BitVec 16)
  | brgez (a : Bool) (p : Bool) (rs1 : RegField) (disp16 : BitVec 16)
  | sethi (rd : RegField) (imm22 : BitVec 22)
  | nop
  | fbpa (a : Bool) (fcc : FccSel) (p : Bool) (disp19 : BitVec 19)
  | fbpn (a : Bool) (fcc : FccSel) (p : Bool) (disp19 : BitVec 19)
  | fbpu (a : Bool) (fcc : FccSel) (p : Bool) (disp19 : BitVec 19)
  | fbpg (a : Bool) (fcc : FccSel) (p : Bool) (disp19 : BitVec 19)
  | fbpug (a : Bool) (fcc : FccSel) (p : Bool) (disp19 : BitVec 19)
  | fbpl (a : Bool) (fcc : FccSel) (p : Bool) (disp19 : BitVec 19)
  | fbpul (a : Bool) (fcc : FccSel) (p : Bool) (disp19 : BitVec 19)
  | fbplg (a : Bool) (fcc : FccSel) (p : Bool) (disp19 : BitVec 19)
  | fbpne (a : Bool) (fcc : FccSel) (p : Bool) (disp19 : BitVec 19)
  | fbpe (a : Bool) (fcc : FccSel) (p : Bool) (disp19 : BitVec 19)
  | fbpue (a : Bool) (fcc : FccSel) (p : Bool) (disp19 : BitVec 19)
  | fbpge (a : Bool) (fcc : FccSel) (p : Bool) (disp19 : BitVec 19)
  | fbpuge (a : Bool) (fcc : FccSel) (p : Bool) (disp19 : BitVec 19)
  | fbple (a : Bool) (fcc : FccSel) (p : Bool) (disp19 : BitVec 19)
  | fbpule (a : Bool) (fcc : FccSel) (p : Bool) (disp19 : BitVec 19)
  | fbpo (a : Bool) (fcc : FccSel) (p : Bool) (disp19 : BitVec 19)
  | fba (a : Bool) (disp22 : BitVec 22)
  | fbn (a : Bool) (disp22 : BitVec 22)
  | fbu (a : Bool) (disp22 : BitVec 22)
  | fbg (a : Bool) (disp22 : BitVec 22)
  | fbug (a : Bool) (disp22 : BitVec 22)
  | fbl (a : Bool) (disp22 : BitVec 22)
  | fbul (a : Bool) (disp22 : BitVec 22)
  | fblg (a : Bool) (disp22 : BitVec 22)
  | fbne (a : Bool) (disp22 : BitVec 22)
  | fbe (a : Bool) (disp22 : BitVec 22)
  | fbue (a : Bool) (disp22 : BitVec 22)
  | fbge (a : Bool) (disp22 : BitVec 22)
  | fbuge (a : Bool) (disp22 : BitVec 22)
  | fble (a : Bool) (disp22 : BitVec 22)
  | fbule (a : Bool) (disp22 : BitVec 22)
  | fbo (a : Bool) (disp22 : BitVec 22)
  | call (disp30 : BitVec 30)
  | add (rd : RegField) (rs1 : RegField) (op2 : Op2)
  | and (rd : RegField) (rs1 : RegField) (op2 : Op2)
  | or (rd : RegField) (rs1 : RegField) (op2 : Op2)
  | xor (rd : RegField) (rs1 : RegField) (op2 : Op2)
  | sub (rd : RegField) (rs1 : RegField) (op2 : Op2)
  | andn (rd : RegField) (rs1 : RegField) (op2 : Op2)
  | orn (rd : RegField) (rs1 : RegField) (op2 : Op2)
  | xnor (rd : RegField) (rs1 : RegField) (op2 : Op2)
  | addc (rd : RegField) (rs1 : RegField) (op2 : Op2)
  | mulx (rd : RegField) (rs1 : RegField) (op2 : Op2)
  | umul (rd : RegField) (rs1 : RegField) (op2 : Op2)
  | smul (rd : RegField) (rs1 : RegField) (op2 : Op2)
  | subc (rd : RegField) (rs1 : RegField) (op2 : Op2)
  | udivx (rd : RegField) (rs1 : RegField) (op2 : Op2)
  | udiv (rd : RegField) (rs1 : RegField) (op2 : Op2)
  | sdiv (rd : RegField) (rs1 : RegField) (op2 : Op2)
  | addcc (rd : RegField) (rs1 : RegField) (op2 : Op2)
  | andcc (rd : RegField) (rs1 : RegField) (op2 : Op2)
  | orcc (rd : RegField) (rs1 : RegField) (op2 : Op2)
  | xorcc (rd : RegField) (rs1 : RegField) (op2 : Op2)
  | subcc (rd : RegField) (rs1 : RegField) (op2 : Op2)
  | andncc (rd : RegField) (rs1 : RegField) (op2 : Op2)
  | orncc (rd : RegField) (rs1 : RegField) (op2 : Op2)
  | xnorcc (rd : RegField) (rs1 : RegField) (op2 : Op2)
  | addccc (rd : RegField) (rs1 : RegField) (op2 : Op2)
  | umulcc (rd : RegField) (rs1 : RegField) (op2 : Op2)
  | smulcc (rd : RegField) (rs1 : RegField) (op2 : Op2)
  | subccc (rd : RegField) (rs1 : RegField) (op2 : Op2)
  | udivcc (rd : RegField) (rs1 : RegField) (op2 : Op2)
  | sdivcc (rd : RegField) (rs1 : RegField) (op2 : Op2)
  | taddcc (rd : RegField) (rs1 : RegField) (op2 : Op2)
  | tsubcc (rd : RegField) (rs1 : RegField) (op2 : Op2)
  | taddcctv (rd : RegField) (rs1 : RegField) (op2 : Op2)
  | tsubcctv (rd : RegField) (rs1 : RegField) (op2 : Op2)
  | mulscc (rd : RegField) (rs1 : RegField) (op2 : Op2)
  | sdivx (rd : RegField) (rs1 : RegField) (op2 : Op2)
  | jmpl (rd : RegField) (rs1 : RegField) (op2 : Op2)
  | save (rd : RegField) (rs1 : RegField) (op2 : Op2)
  | restore (rd : RegField) (rs1 : RegField) (op2 : Op2)
  | return_ (bits29_25 : RegField) (rs1 : RegField) (op2 : Op2)
  | flush (rs1 : RegField) (op2 : AsiOp2)
  | flushw (i : Bool)
  | popc (rd : RegField) (op2 : Op2)
  | sll (rd : RegField) (rs1 : RegField) (cnt : Shift32)
  | srl (rd : RegField) (rs1 : RegField) (cnt : Shift32)
  | sra (rd : RegField) (rs1 : RegField) (cnt : Shift32)
  | sllx (rd : RegField) (rs1 : RegField) (cnt : Shift64)
  | srlx (rd : RegField) (rs1 : RegField) (cnt : Shift64)
  | srax (rd : RegField) (rs1 : RegField) (cnt : Shift64)
  | rdy (rd : RegField)
  | rdccr (rd : RegField)
  | rdasi (rd : RegField)
  | rdtick (rd : RegField)
  | rdpc (rd : RegField)
  | rdfprs (rd : RegField)
  | rdpcr (rd : RegField)
  | rdpic (rd : RegField)
  | rdgsr (rd : RegField)
  | rdsoftint (rd : RegField)
  | rdtick_cmpr (rd : RegField)
  | rdstick (rd : RegField)
  | rdstick_cmpr (rd : RegField)
  | membar (cmask : BitVec 3) (mmask : BitVec 4)
  | stbar
  | rdhpr (rd : RegField) (hpr : HyperReg)
  | rdpr (rd : RegField) (pr : PrivReg)
  | mova (rd : RegField) (cc : IntCC) (op2 : Op2x11)
  | movn (rd : RegField) (cc : IntCC) (op2 : Op2x11)
  | movne (rd : RegField) (cc : IntCC) (op2 : Op2x11)
  | move (rd : RegField) (cc : IntCC) (op2 : Op2x11)
  | movg (rd : RegField) (cc : IntCC) (op2 : Op2x11)
  | movle (rd : RegField) (cc : IntCC) (op2 : Op2x11)
  | movge (rd : RegField) (cc : IntCC) (op2 : Op2x11)
  | movl (rd : RegField) (cc : IntCC) (op2 : Op2x11)
  | movgu (rd : RegField) (cc : IntCC) (op2 : Op2x11)
  | movleu (rd : RegField) (cc : IntCC) (op2 : Op2x11)
  | movcc (rd : RegField) (cc : IntCC) (op2 : Op2x11)
  | movcs (rd : RegField) (cc : IntCC) (op2 : Op2x11)
  | movpos (rd : RegField) (cc : IntCC) (op2 : Op2x11)
  | movneg (rd : RegField) (cc : IntCC) (op2 : Op2x11)
  | movvc (rd : RegField) (cc : IntCC) (op2 : Op2x11)
  | movvs (rd : RegField) (cc : IntCC) (op2 : Op2x11)
  | movfa (rd : RegField) (fcc : FccSel) (op2 : Op2x11)
  | movfn (rd : RegField) (fcc : FccSel) (op2 : Op2x11)
  | movfu (rd : RegField) (fcc : FccSel) (op2 : Op2x11)
  | movfg (rd : RegField) (fcc : FccSel) (op2 : Op2x11)
  | movfug (rd : RegField) (fcc : FccSel) (op2 : Op2x11)
  | movfl (rd : RegField) (fcc : FccSel) (op2 : Op2x11)
  | movful (rd : RegField) (fcc : FccSel) (op2 : Op2x11)
  | movflg (rd : RegField) (fcc : FccSel) (op2 : Op2x11)
  | movfne (rd : RegField) (fcc : FccSel) (op2 : Op2x11)
  | movfe (rd : RegField) (fcc : FccSel) (op2 : Op2x11)
  | movfue (rd : RegField) (fcc : FccSel) (op2 : Op2x11)
  | movfge (rd : RegField) (fcc : FccSel) (op2 : Op2x11)
  | movfuge (rd : RegField) (fcc : FccSel) (op2 : Op2x11)
  | movfle (rd : RegField) (fcc : FccSel) (op2 : Op2x11)
  | movfule (rd : RegField) (fcc : FccSel) (op2 : Op2x11)
  | movfo (rd : RegField) (fcc : FccSel) (op2 : Op2x11)
  | movrz (rd : RegField) (rs1 : RegField) (op2 : Op2x10)
  | movrlez (rd : RegField) (rs1 : RegField) (op2 : Op2x10)
  | movrlz (rd : RegField) (rs1 : RegField) (op2 : Op2x10)
  | movrnz (rd : RegField) (rs1 : RegField) (op2 : Op2x10)
  | movrgz (rd : RegField) (rs1 : RegField) (op2 : Op2x10)
  | movrgez (rd : RegField) (rs1 : RegField) (op2 : Op2x10)
  | wry (rs1 : RegField) (op2 : Op2)
  | wrccr (rs1 : RegField) (op2 : Op2)
  | wrasi (rs1 : RegField) (op2 : Op2)
  | wrfprs (rs1 : RegField) (op2 : Op2)
  | wrpcr (rs1 : RegField) (op2 : Op2)
  | wrpic (rs1 : RegField) (op2 : Op2)
  | wrgsr (rs1 : RegField) (op2 : Op2)
  | wrsoftint_set (rs1 : RegField) (op2 : Op2)
  | wrsoftint_clr (rs1 : RegField) (op2 : Op2)
  | wrsoftint (rs1 : RegField) (op2 : Op2)
  | wrtick_cmpr (rs1 : RegField) (op2 : Op2)
  | wrstick (rs1 : RegField) (op2 : Op2)
  | wrstick_cmpr (rs1 : RegField) (op2 : Op2)
  | sir (simm13 : BitVec 13)
  | saved
  | restored
  | allclean
  | otherw
  | normalw
  | invalw
  | wrpr (pr : PrivReg) (rs1 : RegField) (op2 : Op2)
  | wrhpr (hpr : HyperReg) (rs1 : RegField) (op2 : Op2)
  | fmovs (rd : RegField) (rs2 : RegField)
  | fmovd (rd : RegField) (rs2 : RegField)
  | fmovq (rd : RegField) (rs2 : RegField)
  | fnegs (rd : RegField) (rs2 : RegField)
  | fnegd (rd : RegField) (rs2 : RegField)
  | fnegq (rd : RegField) (rs2 : RegField)
  | fabss (rd : RegField) (rs2 : RegField)
  | fabsd (rd : RegField) (rs2 : RegField)
  | fabsq (rd : RegField) (rs2 : RegField)
  | fsqrts (rd : RegField) (rs2 : RegField)
  | fsqrtd (rd : RegField) (rs2 : RegField)
  | fsqrtq (rd : RegField) (rs2 : RegField)
  | fadds (rd : RegField) (rs1 : RegField) (rs2 : RegField)
  | faddd (rd : RegField) (rs1 : RegField) (rs2 : RegField)
  | faddq (rd : RegField) (rs1 : RegField) (rs2 : RegField)
  | fsubs (rd : RegField) (rs1 : RegField) (rs2 : RegField)
  | fsubd (rd : RegField) (rs1 : RegField) (rs2 : RegField)
  | fsubq (rd : RegField) (rs1 : RegField) (rs2 : RegField)
  | fmuls (rd : RegField) (rs1 : RegField) (rs2 : RegField)
  | fmuld (rd : RegField) (rs1 : RegField) (rs2 : RegField)
  | fmulq (rd : RegField) (rs1 : RegField) (rs2 : RegField)
  | fdivs (rd : RegField) (rs1 : RegField) (rs2 : RegField)
  | fdivd (rd : RegField) (rs1 : RegField) (rs2 : RegField)
  | fdivq (rd : RegField) (rs1 : RegField) (rs2 : RegField)
  | fsmuld (rd : RegField) (rs1 : RegField) (rs2 : RegField)
  | fdmulq (rd : RegField) (rs1 : RegField) (rs2 : RegField)
  | fstox (rd : RegField) (rs2 : RegField)
  | fdtox (rd : RegField) (rs2 : RegField)
  | fqtox (rd : RegField) (rs2 : RegField)
  | fxtos (rd : RegField) (rs2 : RegField)
  | fxtod (rd : RegField) (rs2 : RegField)
  | fxtoq (rd : RegField) (rs2 : RegField)
  | fitos (rd : RegField) (rs2 : RegField)
  | fdtos (rd : RegField) (rs2 : RegField)
  | fqtos (rd : RegField) (rs2 : RegField)
  | fitod (rd : RegField) (rs2 : RegField)
  | fstod (rd : RegField) (rs2 : RegField)
  | fqtod (rd : RegField) (rs2 : RegField)
  | fitoq (rd : RegField) (rs2 : RegField)
  | fstoq (rd : RegField) (rs2 : RegField)
  | fdtoq (rd : RegField) (rs2 : RegField)
  | fstoi (rd : RegField) (rs2 : RegField)
  | fdtoi (rd : RegField) (rs2 : RegField)
  | fqtoi (rd : RegField) (rs2 : RegField)
  | fmovsicc (rd : RegField) (cond : BitVec 4) (rs2 : RegField)
  | fmovsxcc (rd : RegField) (cond : BitVec 4) (rs2 : RegField)
  | fmovsfcc (rd : RegField) (fcc : FccSel) (cond : BitVec 4) (rs2 : RegField)
  | fmovdicc (rd : RegField) (cond : BitVec 4) (rs2 : RegField)
  | fmovdxcc (rd : RegField) (cond : BitVec 4) (rs2 : RegField)
  | fmovdfcc (rd : RegField) (fcc : FccSel) (cond : BitVec 4) (rs2 : RegField)
  | fmovqicc (rd : RegField) (cond : BitVec 4) (rs2 : RegField)
  | fmovqxcc (rd : RegField) (cond : BitVec 4) (rs2 : RegField)
  | fmovqfcc (rd : RegField) (fcc : FccSel) (cond : BitVec 4) (rs2 : RegField)
  | fmovrsz (rd : RegField) (rs1 : RegField) (rs2 : RegField)
  | fmovrslez (rd : RegField) (rs1 : RegField) (rs2 : RegField)
  | fmovrslz (rd : RegField) (rs1 : RegField) (rs2 : RegField)
  | fmovrsnz (rd : RegField) (rs1 : RegField) (rs2 : RegField)
  | fmovrsgz (rd : RegField) (rs1 : RegField) (rs2 : RegField)
  | fmovrsgez (rd : RegField) (rs1 : RegField) (rs2 : RegField)
  | fmovrdz (rd : RegField) (rs1 : RegField) (rs2 : RegField)
  | fmovrdlez (rd : RegField) (rs1 : RegField) (rs2 : RegField)
  | fmovrdlz (rd : RegField) (rs1 : RegField) (rs2 : RegField)
  | fmovrdnz (rd : RegField) (rs1 : RegField) (rs2 : RegField)
  | fmovrdgz (rd : RegField) (rs1 : RegField) (rs2 : RegField)
  | fmovrdgez (rd : RegField) (rs1 : RegField) (rs2 : RegField)
  | fmovrqz (rd : RegField) (rs1 : RegField) (rs2 : RegField)
  | fmovrqlez (rd : RegField) (rs1 : RegField) (rs2 : RegField)
  | fmovrqlz (rd : RegField) (rs1 : RegField) (rs2 : RegField)
  | fmovrqnz (rd : RegField) (rs1 : RegField) (rs2 : RegField)
  | fmovrqgz (rd : RegField) (rs1 : RegField) (rs2 : RegField)
  | fmovrqgez (rd : RegField) (rs1 : RegField) (rs2 : RegField)
  | fcmps (fcc : FccSel) (rs1 : RegField) (rs2 : RegField)
  | fcmpd (fcc : FccSel) (rs1 : RegField) (rs2 : RegField)
  | fcmpq (fcc : FccSel) (rs1 : RegField) (rs2 : RegField)
  | fcmpes (fcc : FccSel) (rs1 : RegField) (rs2 : RegField)
  | fcmped (fcc : FccSel) (rs1 : RegField) (rs2 : RegField)
  | fcmpeq (fcc : FccSel) (rs1 : RegField) (rs2 : RegField)
  | edge8cc (rd : RegField) (rs1 : RegField) (rs2 : RegField)
  | edge8n (rd : RegField) (rs1 : RegField) (rs2 : RegField)
  | edge8lcc (rd : RegField) (rs1 : RegField) (rs2 : RegField)
  | edge8ln (rd : RegField) (rs1 : RegField) (rs2 : RegField)
  | edge16cc (rd : RegField) (rs1 : RegField) (rs2 : RegField)
  | edge16n (rd : RegField) (rs1 : RegField) (rs2 : RegField)
  | edge16lcc (rd : RegField) (rs1 : RegField) (rs2 : RegField)
  | edge16ln (rd : RegField) (rs1 : RegField) (rs2 : RegField)
  | edge32cc (rd : RegField) (rs1 : RegField) (rs2 : RegField)
  | edge32n (rd : RegField) (rs1 : RegField) (rs2 : RegField)
  | edge32lcc (rd : RegField) (rs1 : RegField) (rs2 : RegField)
  | edge32ln (rd : RegField) (rs1 : RegField) (rs2 : RegField)
  | array8 (rd : RegField) (rs1 : RegField) (rs2 : RegField)
  | array16 (rd : RegField) (rs1 : RegField) (rs2 : RegField)
  | array32 (rd : RegField) (rs1 : RegField) (rs2 : RegField)
  | alignaddress (rd : RegField) (rs1 : RegField) (rs2 : RegField)
  | bmask (rd : RegField) (rs1 : RegField) (rs2 : RegField)
  | alignaddress_little (rd : RegField) (rs1 : RegField) (rs2 : RegField)
  | fcmple16 (rd : RegField) (rs1 : RegField) (rs2 : RegField)
  | fcmpne16 (rd : RegField) (rs1 : RegField) (rs2 : RegField)
  | fcmple32 (rd : RegField) (rs1 : RegField) (rs2 : RegField)
  | fcmpne32 (rd : RegField) (rs1 : RegField) (rs2 : RegField)
  | fcmpgt16 (rd : RegField) (rs1 : RegField) (rs2 : RegField)
  | fcmpeq16 (rd : RegField) (rs1 : RegField) (rs2 : RegField)
  | fcmpgt32 (rd : RegField) (rs1 : RegField) (rs2 : RegField)
  | fcmpeq32 (rd : RegField) (rs1 : RegField) (rs2 : RegField)
  | fmul8x16 (rd : RegField) (rs1 : RegField) (rs2 : RegField)
  | fmul8x16au (rd : RegField) (rs1 : RegField) (rs2 : RegField)
  | fmul8x16al (rd : RegField) (rs1 : RegField) (rs2 : RegField)
  | fmul8sux16 (rd : RegField) (rs1 : RegField) (rs2 : RegField)
  | fmul8ulx16 (rd : RegField) (rs1 : RegField) (rs2 : RegField)
  | fmuld8sux16 (rd : RegField) (rs1 : RegField) (rs2 : RegField)
  | fmuld8ulx16 (rd : RegField) (rs1 : RegField) (rs2 : RegField)
  | fpack32 (rd : RegField) (rs1 : RegField) (rs2 : RegField)
  | fpack16 (rd : RegField) (rs1 : RegField) (rs2 : RegField)
  | fpackfix (rd : RegField) (rs1 : RegField) (rs2 : RegField)
  | pdist (rd : RegField) (rs1 : RegField) (rs2 : RegField)
  | faligndata (rd : RegField) (rs1 : RegField) (rs2 : RegField)
  | fpmerge (rd : RegField) (rs1 : RegField) (rs2 : RegField)
  | bshuffle (rd : RegField) (rs1 : RegField) (rs2 : RegField)
  | fexpand (rd : RegField) (rs1 : RegField) (rs2 : RegField)
  | fpadd16 (rd : RegField) (rs1 : RegField) (rs2 : RegField)
  | fpadd16s (rd : RegField) (rs1 : RegField) (rs2 : RegField)
  | fpadd32 (rd : RegField) (rs1 : RegField) (rs2 : RegField)
  | fpadd32s (rd : RegField) (rs1 : RegField) (rs2 : RegField)
  | fpsub16 (rd : RegField) (rs1 : RegField) (rs2 : RegField)
  | fpsub16s (rd : RegField) (rs1 : RegField) (rs2 : RegField)
  | fpsub32 (rd : RegField) (rs1 : RegField) (rs2 : RegField)
  | fpsub32s (rd : RegField) (rs1 : RegField) (rs2 : RegField)
  | fzero (rd : RegField)
  | fzeros (rd : RegField)
  | fnor (rd : RegField) (rs1 : RegField) (rs2 : RegField)
  | fnors (rd : RegField) (rs1 : RegField) (rs2 : RegField)
  | fandnot2 (rd : RegField) (rs1 : RegField) (rs2 : RegField)
  | fandnot2s (rd : RegField) (rs1 : RegField) (rs2 : RegField)
  | fnot2 (rd : RegField) (rs2 : RegField)
  | fnot2s (rd : RegField) (rs2 : RegField)
  | fandnot1 (rd : RegField) (rs1 : RegField) (rs2 : RegField)
  | fandnot1s (rd : RegField) (rs1 : RegField) (rs2 : RegField)
  | fnot1 (rd : RegField) (rs1 : RegField)
  | fnot1s (rd : RegField) (rs1 : RegField)
  | fxor (rd : RegField) (rs1 : RegField) (rs2 : RegField)
  | fxors (rd : RegField) (rs1 : RegField) (rs2 : RegField)
  | fnand (rd : RegField) (rs1 : RegField) (rs2 : RegField)
  | fnands (rd : RegField) (rs1 : RegField) (rs2 : RegField)
  | fand (rd : RegField) (rs1 : RegField) (rs2 : RegField)
  | fands (rd : RegField) (rs1 : RegField) (rs2 : RegField)
  | fxnor (rd : RegField) (rs1 : RegField) (rs2 : RegField)
  | fxnors (rd : RegField) (rs1 : RegField) (rs2 : RegField)
  | fsrc1 (rd : RegField) (rs1 : RegField)
  | fsrc1s (rd : RegField) (rs1 : RegField)
  | fornot2 (rd : RegField) (rs1 : RegField) (rs2 : RegField)
  | fornot2s (rd : RegField) (rs1 : RegField) (rs2 : RegField)
  | fsrc2 (rd : RegField) (rs2 : RegField)
  | fsrc2s (rd : RegField) (rs2 : RegField)
  | fornot1 (rd : RegField) (rs1 : RegField) (rs2 : RegField)
  | fornot1s (rd : RegField) (rs1 : RegField) (rs2 : RegField)
  | for_ (rd : RegField) (rs1 : RegField) (rs2 : RegField)
  | fors (rd : RegField) (rs1 : RegField) (rs2 : RegField)
  | fone (rd : RegField)
  | fones (rd : RegField)
  | shutdown (rd : RegField) (rs1 : RegField) (rs2 : RegField)
  | siam (mode : BitVec 3)
  | impdep2a (bits29_25 : RegField) (bits18_7 : BitVec 12) (bits4_0 : BitVec 5)
  | impdep2b (bits29_25 : RegField) (bits18_7 : BitVec 12) (op4 : BitVec 2) (bits4_0 : BitVec 5)
  | ta (cc : IntCC) (rs1 : RegField) (op2 : Op2x8)
  | tn (cc : IntCC) (rs1 : RegField) (op2 : Op2x8)
  | tne (cc : IntCC) (rs1 : RegField) (op2 : Op2x8)
  | te (cc : IntCC) (rs1 : RegField) (op2 : Op2x8)
  | tg (cc : IntCC) (rs1 : RegField) (op2 : Op2x8)
  | tle (cc : IntCC) (rs1 : RegField) (op2 : Op2x8)
  | tge (cc : IntCC) (rs1 : RegField) (op2 : Op2x8)
  | tl (cc : IntCC) (rs1 : RegField) (op2 : Op2x8)
  | tgu (cc : IntCC) (rs1 : RegField) (op2 : Op2x8)
  | tleu (cc : IntCC) (rs1 : RegField) (op2 : Op2x8)
  | tcc (cc : IntCC) (rs1 : RegField) (op2 : Op2x8)
  | tcs (cc : IntCC) (rs1 : RegField) (op2 : Op2x8)
  | tpos (cc : IntCC) (rs1 : RegField) (op2 : Op2x8)
  | tneg (cc : IntCC) (rs1 : RegField) (op2 : Op2x8)
  | tvc (cc : IntCC) (rs1 : RegField) (op2 : Op2x8)
  | tvs (cc : IntCC) (rs1 : RegField) (op2 : Op2x8)
  | done
  | retry
  | lduw (rd : RegField) (rs1 : RegField) (op2 : Op2)
  | ldub (rd : RegField) (rs1 : RegField) (op2 : Op2)
  | lduh (rd : RegField) (rs1 : RegField) (op2 : Op2)
  | ldtw (rd : RegField) (rs1 : RegField) (op2 : Op2)
  | stw (rd : RegField) (rs1 : RegField) (op2 : Op2)
  | stb (rd : RegField) (rs1 : RegField) (op2 : Op2)
  | sth (rd : RegField) (rs1 : RegField) (op2 : Op2)
  | sttw (rd : RegField) (rs1 : RegField) (op2 : Op2)
  | ldsw (rd : RegField) (rs1 : RegField) (op2 : Op2)
  | ldsb (rd : RegField) (rs1 : RegField) (op2 : Op2)
  | ldsh (rd : RegField) (rs1 : RegField) (op2 : Op2)
  | ldx (rd : RegField) (rs1 : RegField) (op2 : Op2)
  | ldstub (rd : RegField) (rs1 : RegField) (op2 : Op2)
  | stx (rd : RegField) (rs1 : RegField) (op2 : Op2)
  | swap (rd : RegField) (rs1 : RegField) (op2 : Op2)
  | ldf (rd : RegField) (rs1 : RegField) (op2 : Op2)
  | ldqf (rd : RegField) (rs1 : RegField) (op2 : Op2)
  | lddf (rd : RegField) (rs1 : RegField) (op2 : Op2)
  | stf (rd : RegField) (rs1 : RegField) (op2 : Op2)
  | stqf (rd : RegField) (rs1 : RegField) (op2 : Op2)
  | stdf (rd : RegField) (rs1 : RegField) (op2 : Op2)
  | lduwa (rd : RegField) (rs1 : RegField) (op2 : AsiOp2)
  | lduba (rd : RegField) (rs1 : RegField) (op2 : AsiOp2)
  | lduha (rd : RegField) (rs1 : RegField) (op2 : AsiOp2)
  | ldtwa (rd : RegField) (rs1 : RegField) (op2 : AsiOp2)
  | stwa (rd : RegField) (rs1 : RegField) (op2 : AsiOp2)
  | stba (rd : RegField) (rs1 : RegField) (op2 : AsiOp2)
  | stha (rd : RegField) (rs1 : RegField) (op2 : AsiOp2)
  | sttwa (rd : RegField) (rs1 : RegField) (op2 : AsiOp2)
  | ldswa (rd : RegField) (rs1 : RegField) (op2 : AsiOp2)
  | ldsba (rd : RegField) (rs1 : RegField) (op2 : AsiOp2)
  | ldsha (rd : RegField) (rs1 : RegField) (op2 : AsiOp2)
  | ldxa (rd : RegField) (rs1 : RegField) (op2 : AsiOp2)
  | ldstuba (rd : RegField) (rs1 : RegField) (op2 : AsiOp2)
  | stxa (rd : RegField) (rs1 : RegField) (op2 : AsiOp2)
  | swapa (rd : RegField) (rs1 : RegField) (op2 : AsiOp2)
  | ldfa (rd : RegField) (rs1 : RegField) (op2 : AsiOp2)
  | ldqfa (rd : RegField) (rs1 : RegField) (op2 : AsiOp2)
  | lddfa (rd : RegField) (rs1 : RegField) (op2 : AsiOp2)
  | stfa (rd : RegField) (rs1 : RegField) (op2 : AsiOp2)
  | stqfa (rd : RegField) (rs1 : RegField) (op2 : AsiOp2)
  | stdfa (rd : RegField) (rs1 : RegField) (op2 : AsiOp2)
  | ldtxa (rd : RegField) (rs1 : RegField) (asi : BitVec 8) (rs2 : RegField)
  | ldblockf (rd : RegField) (rs1 : RegField) (asi : BitVec 8) (rs2 : RegField)
  | ldshortf (rd : RegField) (rs1 : RegField) (asi : BitVec 8) (rs2 : RegField)
  | stblockf (rd : RegField) (rs1 : RegField) (asi : BitVec 8) (rs2 : RegField)
  | stpartialf (rd : RegField) (rs1 : RegField) (asi : BitVec 8) (rs2 : RegField)
  | stshortf (rd : RegField) (rs1 : RegField) (asi : BitVec 8) (rs2 : RegField)
  | ldfsr (rs1 : RegField) (op2 : Op2)
  | ldxfsr (rs1 : RegField) (op2 : Op2)
  | stfsr (rs1 : RegField) (op2 : Op2)
  | stxfsr (rs1 : RegField) (op2 : Op2)
  | prefetch (fcn : BitVec 5) (rs1 : RegField) (op2 : Op2)
  | prefetcha (fcn : BitVec 5) (rs1 : RegField) (op2 : AsiOp2)
  | casa (rd : RegField) (rs1 : RegField) (asi : CasAsi) (rs2 : RegField)
  | casxa (rd : RegField) (rs1 : RegField) (asi : CasAsi) (rs2 : RegField)
  deriving DecidableEq, Repr

end Sys2Proof
end

