-- ==== Sys2Proof/WellFormed.lean ====
section
/-!
DEFINITION. Well-formed instructions: the checks on operands that 30_encoding.md R324, R330 and the ASI lists of
spec/opcode_table.json put on a word and that the types of Syntax.lean do not already make. A word that fails one of
them is no instance of the instruction: the decoder refuses it, or reads it as the row that does own it.
-/

namespace Sys2Proof

/-- The ASIs with which the LDTWA opcode is LDTXA (30_encoding.md R343, 42_loadstore.md R592). -/
def isTwinAsi (asi : BitVec 8) : Bool :=
  asi ∈ [0x22#8, 0x23#8, 0x26#8, 0x27#8, 0x2A#8, 0x2B#8, 0x2E#8, 0x2F#8, 0xE2#8, 0xE3#8, 0xEA#8, 0xEB#8]

/-- The block-transfer ASIs (43_fp_loadstore.md R690). -/
def isBlockAsi (asi : BitVec 8) : Bool :=
  asi ∈ [0x16#8, 0x17#8, 0x1E#8, 0x1F#8, 0xF0#8, 0xF1#8, 0xF8#8, 0xF9#8]

/-- The short floating-point ASIs (43_fp_loadstore.md R695). -/
def isShortAsi (asi : BitVec 8) : Bool :=
  asi ∈ [0xD0#8, 0xD1#8, 0xD2#8, 0xD3#8, 0xD8#8, 0xD9#8, 0xDA#8, 0xDB#8]

/-- The partial-store ASIs (43_fp_loadstore.md R697). -/
def isPartialAsi (asi : BitVec 8) : Bool :=
  asi ∈ [0xC0#8, 0xC1#8, 0xC2#8, 0xC3#8, 0xC4#8, 0xC5#8, 0xC8#8, 0xC9#8, 0xCA#8, 0xCB#8, 0xCC#8, 0xCD#8]

/-- An even register number, required of the twin-word instructions (30_encoding.md R324). -/
def isEven (rd : RegField) : Bool := rd.extractLsb' 0 1 == 0#1

/-- PREFETCH and PREFETCHA: fcn 5 to 15 are reserved (30_encoding.md R343, 42_loadstore.md R616). -/
def prefetchFcnOk (fcn : BitVec 5) : Bool := decide (fcn.toNat < 5 ∨ 15 < fcn.toNat)

/-- An immediate ASI satisfies `p`; the register form (i = 1) always does, its ASI being chosen at execution. -/
def AsiOp2.immAsiOk (p : BitVec 8 → Bool) : AsiOp2 → Bool
  | .reg asi _ => p asi
  | .imm _ => true

/-- The operand checks of each instruction; every instruction not listed is well formed with any operands. -/
def Instr.wellFormed : Instr → Bool
  | .sethi rd imm22 => !(rd == 0#5 && imm22 == 0#22)      -- that word is NOP (30_encoding.md R313)
  | .ldtw rd _ _ => isEven rd
  | .sttw rd _ _ => isEven rd
  | .ldtwa rd _ o => isEven rd && o.immAsiOk (fun a => !isTwinAsi a)
  | .sttwa rd _ _ => isEven rd
  | .ldtxa rd _ asi _ => isEven rd && isTwinAsi asi
  | .lddfa _ _ o => o.immAsiOk (fun a => !isBlockAsi a && !isShortAsi a)
  | .ldblockf _ _ asi _ => isBlockAsi asi
  | .ldshortf _ _ asi _ => isShortAsi asi
  | .stdfa _ _ o => o.immAsiOk (fun a => !isBlockAsi a && !isShortAsi a && !isPartialAsi a)
  | .stblockf _ _ asi _ => isBlockAsi asi
  | .stpartialf _ _ asi _ => isPartialAsi asi
  | .stshortf _ _ asi _ => isShortAsi asi
  | .impdep2b _ _ op4 _ => op4 != 0#2                      -- op4 = 0 is IMPDEP2A (44_window_state.md R796)
  | .prefetch fcn _ _ => prefetchFcnOk fcn
  | .prefetcha fcn _ _ => prefetchFcnOk fcn
  | .wrhpr hpr _ _ => hpr != .hver                         -- HVER is read-only (44_window_state.md R790)
  | _ => true

end Sys2Proof
end

