-- ==== Sys2Proof/Decode.lean ====
section
/-!
DEFINITION. From a 32-bit instruction word to an instruction, total, refusing by name, and the encoder back
(30_encoding.md R301 to R349). `decode` is a pure function of the word. A refused word is no instruction: the step then
takes the exception 30_encoding.md R330 gives it.
The definitions that build an instruction are `noncomputable` only because Lean's compiler gives no code to an inductive
type of more than 244 constructors; the kernel evaluates them.
-/

namespace Sys2Proof

/-- Why a word is no instruction (30_encoding.md R330). -/
inductive DecodeError where
  /-- Reserved opcode, reserved selector or nonzero reserved field: the machine takes illegal_instruction. -/
  | illegalInstruction
  /-- An undefined opf of FPop1 or FPop2: the machine takes fp_disabled or fp_exception_other with ftt = 3. -/
  | unimplementedFPop
  /-- An FMOVcc or FMOVr word with a reserved opf_cc or rcond: as unimplementedFPop, but the F register rd, a single or a
  double (or quad) one, is its destination (45_fp.md R832, R842). -/
  | unimplementedFMove (double : Bool) (rd : RegField)
  deriving DecidableEq, Repr

/-- One Boolean bit of a word. -/
def bit (b : Bool) : BitVec 1 := BitVec.ofBool b

/-! ## Selectors -/

/-- cc1 :: cc0 of BPcc, Tcc and MOVcc (30_encoding.md R348, TABLE A-11). -/
def IntCC.bits : IntCC → BitVec 2
  | .icc => 0#2
  | .xcc => 2#2

/-- The reverse of `IntCC.bits`; 01 and 11 are reserved. -/
def IntCC.ofBits (b : BitVec 2) : Option IntCC :=
  match b with
  | 0#2 => some .icc
  | 2#2 => some .xcc
  | _ => none

/-- PR numbers (30_encoding.md R326). -/
def PrivReg.number : PrivReg → BitVec 5
  | .tpc => 0#5 | .tnpc => 1#5 | .tstate => 2#5 | .tt => 3#5 | .tick => 4#5 | .tba => 5#5 | .pstate => 6#5
  | .tl => 7#5 | .pil => 8#5 | .cwp => 9#5 | .cansave => 10#5 | .canrestore => 11#5 | .cleanwin => 12#5
  | .otherwin => 13#5 | .wstate => 14#5 | .gl => 16#5

/-- The reverse of `PrivReg.number`; 15 and 17 to 31 are reserved (44_window_state.md R775). -/
def PrivReg.ofNumber (n : BitVec 5) : Option PrivReg :=
  match n with
  | 0#5 => some .tpc | 1#5 => some .tnpc | 2#5 => some .tstate | 3#5 => some .tt | 4#5 => some .tick
  | 5#5 => some .tba | 6#5 => some .pstate | 7#5 => some .tl | 8#5 => some .pil | 9#5 => some .cwp
  | 10#5 => some .cansave | 11#5 => some .canrestore | 12#5 => some .cleanwin | 13#5 => some .otherwin
  | 14#5 => some .wstate | 16#5 => some .gl
  | _ => none

/-- HPR numbers (30_encoding.md R326). -/
def HyperReg.number : HyperReg → BitVec 5
  | .hpstate => 0#5 | .htstate => 1#5 | .hintp => 3#5 | .htba => 5#5 | .hver => 6#5 | .hstickCmpr => 31#5

/-- The reverse of `HyperReg.number`; 2, 4 and 7 to 30 are reserved (44_window_state.md R785). -/
def HyperReg.ofNumber (n : BitVec 5) : Option HyperReg :=
  match n with
  | 0#5 => some .hpstate | 1#5 => some .htstate | 3#5 => some .hintp | 5#5 => some .htba | 6#5 => some .hver
  | 31#5 => some .hstickCmpr
  | _ => none

/-! ## Fields of a word (30_encoding.md R302) -/

def fOp (w : HWord) : BitVec 2 := w.extractLsb' 30 2
def fRd (w : HWord) : RegField := w.extractLsb' 25 5
def fOp2 (w : HWord) : BitVec 3 := w.extractLsb' 22 3
def fOp3 (w : HWord) : BitVec 6 := w.extractLsb' 19 6
def fRs1 (w : HWord) : RegField := w.extractLsb' 14 5
def fLow14 (w : HWord) : BitVec 14 := w.extractLsb' 0 14
def fImm22 (w : HWord) : BitVec 22 := w.extractLsb' 0 22
def fDisp30 (w : HWord) : BitVec 30 := w.extractLsb' 0 30
/-- The annul bit, bit 29. -/
def fAnnul (w : HWord) : Bool := w.getLsbD 29
/-- The condition of a branch, bits 28:25. -/
def fCond (w : HWord) : BitVec 4 := w.extractLsb' 25 4
/-- rcond of BPr, bits 27:25. -/
def fRcond (w : HWord) : BitVec 3 := w.extractLsb' 25 3
/-- cc1 :: cc0 of BPcc and FBPfcc, bits 21:20. -/
def fCc (w : HWord) : BitVec 2 := w.extractLsb' 20 2
/-- The prediction bit p, bit 19. -/
def fPredict (w : HWord) : Bool := w.getLsbD 19
def fDisp19 (w : HWord) : BitVec 19 := w.extractLsb' 0 19
/-- d16hi :: d16lo of BPr. -/
def fDisp16 (w : HWord) : BitVec 16 := w.extractLsb' 20 2 ++ w.extractLsb' 0 14

/-- opf of a 14-bit low part, bits 13:5. -/
def lOpf (l : BitVec 14) : BitVec 9 := l.extractLsb' 5 9
/-- rs2, bits 4:0. -/
def lRs2 (l : BitVec 14) : RegField := l.extractLsb' 0 5
/-- imm_asi, bits 12:5. -/
def lAsi (l : BitVec 14) : BitVec 8 := l.extractLsb' 5 8
/-- i, bit 13. -/
def lI (l : BitVec 14) : Bool := l.getLsbD 13

/-! ## Second operands: the low 14 bits of formats F3 -/

/-- R[rs2] with bits 12:5 zero, or simm13 (30_encoding.md R320). -/
def lowOp2 : Op2 → BitVec 14
  | .reg rs2 => 0#1 ++ 0#8 ++ rs2
  | .imm v => 1#1 ++ v

/-- imm_asi and R[rs2], or simm13 with the ASI register (30_encoding.md R320). -/
def lowAsi : AsiOp2 → BitVec 14
  | .reg asi rs2 => 0#1 ++ asi ++ rs2
  | .imm v => 1#1 ++ v

/-- CASA and CASXA (30_encoding.md R324). -/
def lowCas (asi : CasAsi) (rs2 : RegField) : BitVec 14 :=
  match asi with
  | .immAsi a => 0#1 ++ a ++ rs2
  | .asiReg => 1#1 ++ 0#8 ++ rs2

/-- SLL, SRL, SRA: x = 0, bits 11:5 zero (30_encoding.md R321). -/
def lowShift32 : Shift32 → BitVec 14
  | .reg rs2 => 0#1 ++ 0#1 ++ 0#7 ++ rs2
  | .imm c => 1#1 ++ 0#1 ++ 0#7 ++ c

/-- SLLX, SRLX, SRAX: x = 1, bits 11:5 zero (i = 0) or 11:6 zero (i = 1) (30_encoding.md R321). -/
def lowShift64 : Shift64 → BitVec 14
  | .reg rs2 => 0#1 ++ 1#1 ++ 0#7 ++ rs2
  | .imm c => 1#1 ++ 1#1 ++ 0#6 ++ c

/-- MOVcc: i, cc1, cc0, then bits 10:5 zero and rs2, or simm11 (30_encoding.md R322). -/
def lowCC11 (cc : BitVec 2) : Op2x11 → BitVec 14
  | .reg rs2 => 0#1 ++ cc ++ 0#6 ++ rs2
  | .imm v => 1#1 ++ cc ++ v

/-- MOVr: i, rcond, then bits 9:5 zero and rs2, or simm10 (30_encoding.md R322). -/
def lowRcond10 (rcond : BitVec 3) : Op2x10 → BitVec 14
  | .reg rs2 => 0#1 ++ rcond ++ 0#5 ++ rs2
  | .imm v => 1#1 ++ rcond ++ v

/-- Tcc: i, cc1, cc0, then bits 10:5 zero and rs2, or bits 10:8 zero and imm_trap_# (30_encoding.md R323). -/
def lowTcc (cc : BitVec 2) : Op2x8 → BitVec 14
  | .reg rs2 => 0#1 ++ cc ++ 0#6 ++ rs2
  | .imm v => 1#1 ++ cc ++ 0#3 ++ v

/-- The reverse of `lowOp2`; none where a reserved bit is set. -/
def op2Of (l : BitVec 14) : Option Op2 :=
  if lI l then some (.imm (l.extractLsb' 0 13))
  else if l.extractLsb' 5 8 = 0#8 then some (.reg (lRs2 l)) else none

/-- The reverse of `lowAsi`. -/
def asiOp2Of (l : BitVec 14) : AsiOp2 :=
  if lI l then .imm (l.extractLsb' 0 13) else .reg (lAsi l) (lRs2 l)

/-- The reverse of `lowCas`; none where i = 1 and bits 12:5 are not zero. -/
def casAsiOf (l : BitVec 14) : Option CasAsi :=
  if lI l then (if lAsi l = 0#8 then some .asiReg else none) else some (.immAsi (lAsi l))

/-- The reverse of `lowShift32` (ShiftCheck, 40_integer.md R448). -/
def shift32Of (l : BitVec 14) : Option Shift32 :=
  if l.extractLsb' 5 7 = 0#7 then
    some (if lI l then .imm (lRs2 l) else .reg (lRs2 l))
  else none

/-- The reverse of `lowShift64` (ShiftCheck, 40_integer.md R448). -/
def shift64Of (l : BitVec 14) : Option Shift64 :=
  if lI l then (if l.extractLsb' 6 6 = 0#6 then some (.imm (l.extractLsb' 0 6)) else none)
  else if l.extractLsb' 5 7 = 0#7 then some (.reg (lRs2 l)) else none

/-- The operand of MOVcc; none where a reserved bit is set. -/
def op2x11Of (l : BitVec 14) : Option Op2x11 :=
  if lI l then some (.imm (l.extractLsb' 0 11))
  else if l.extractLsb' 5 6 = 0#6 then some (.reg (lRs2 l)) else none

/-- The operand of MOVr; none where a reserved bit is set. -/
def op2x10Of (l : BitVec 14) : Option Op2x10 :=
  if lI l then some (.imm (l.extractLsb' 0 10))
  else if l.extractLsb' 5 5 = 0#5 then some (.reg (lRs2 l)) else none

/-- The operand of Tcc; none where a reserved bit is set. -/
def op2x8Of (l : BitVec 14) : Option Op2x8 :=
  if lI l then (if l.extractLsb' 8 3 = 0#3 then some (.imm (l.extractLsb' 0 8)) else none)
  else if l.extractLsb' 5 6 = 0#6 then some (.reg (lRs2 l)) else none

/-! ## Formats: a word from its fields (30_encoding.md R313 to R325) -/

def f1 (disp30 : BitVec 30) : HWord := 1#2 ++ disp30
def fSethi (rd : RegField) (op2 : BitVec 3) (imm22 : BitVec 22) : HWord := 0#2 ++ rd ++ op2 ++ imm22
def fBicc (a : Bool) (cond : BitVec 4) (op2 : BitVec 3) (disp22 : BitVec 22) : HWord :=
  0#2 ++ bit a ++ cond ++ op2 ++ disp22
def fBpcc (a : Bool) (cond : BitVec 4) (op2 : BitVec 3) (cc : BitVec 2) (p : Bool) (disp19 : BitVec 19) : HWord :=
  0#2 ++ bit a ++ cond ++ op2 ++ cc ++ bit p ++ disp19
def fBpr (a : Bool) (rcond : BitVec 3) (p : Bool) (rs1 : RegField) (disp16 : BitVec 16) : HWord :=
  0#2 ++ bit a ++ 0#1 ++ rcond ++ 3#3 ++ disp16.extractLsb' 14 2 ++ bit p ++ rs1 ++ disp16.extractLsb' 0 14
def f3 (op : BitVec 2) (rd : RegField) (op3 : BitVec 6) (rs1 : RegField) (low : BitVec 14) : HWord :=
  op ++ rd ++ op3 ++ rs1 ++ low
def fOpf (rd : RegField) (op3 : BitVec 6) (rs1 : RegField) (opf : BitVec 9) (rs2 : RegField) : HWord :=
  f3 2#2 rd op3 rs1 (opf ++ rs2)
def fImpdep2 (b29_25 : BitVec 5) (b18_7 : BitVec 12) (op4 : BitVec 2) (b4_0 : BitVec 5) : HWord :=
  f3 2#2 b29_25 0x37#6 (b18_7.extractLsb' 7 5) (b18_7.extractLsb' 0 7 ++ op4 ++ b4_0)

/-! ## Opcode maps (30_encoding.md R340 to R349): from a selector to the instruction it names -/

/-- BPcc by cond (R346). -/
def bpccOf (cond : BitVec 4) : Bool → IntCC → Bool → BitVec 19 → Instr :=
  match cond with
  | 0x0#4 => .bpn
  | 0x1#4 => .bpe
  | 0x2#4 => .bple
  | 0x3#4 => .bpl
  | 0x4#4 => .bpleu
  | 0x5#4 => .bpcs
  | 0x6#4 => .bpneg
  | 0x7#4 => .bpvs
  | 0x8#4 => .bpa
  | 0x9#4 => .bpne
  | 0xA#4 => .bpg
  | 0xB#4 => .bpge
  | 0xC#4 => .bpgu
  | 0xD#4 => .bpcc
  | 0xE#4 => .bppos
  | _ => .bpvc

/-- Bicc by cond (R346). -/
def biccOf (cond : BitVec 4) : Bool → BitVec 22 → Instr :=
  match cond with
  | 0x0#4 => .bn
  | 0x1#4 => .be
  | 0x2#4 => .ble
  | 0x3#4 => .bl
  | 0x4#4 => .bleu
  | 0x5#4 => .bcs
  | 0x6#4 => .bneg
  | 0x7#4 => .bvs
  | 0x8#4 => .ba
  | 0x9#4 => .bne
  | 0xA#4 => .bg
  | 0xB#4 => .bge
  | 0xC#4 => .bgu
  | 0xD#4 => .bcc
  | 0xE#4 => .bpos
  | _ => .bvc

/-- FBPfcc by cond (R346). -/
def fbpfccOf (cond : BitVec 4) : Bool → FccSel → Bool → BitVec 19 → Instr :=
  match cond with
  | 0x0#4 => .fbpn
  | 0x1#4 => .fbpne
  | 0x2#4 => .fbplg
  | 0x3#4 => .fbpul
  | 0x4#4 => .fbpl
  | 0x5#4 => .fbpug
  | 0x6#4 => .fbpg
  | 0x7#4 => .fbpu
  | 0x8#4 => .fbpa
  | 0x9#4 => .fbpe
  | 0xA#4 => .fbpue
  | 0xB#4 => .fbpge
  | 0xC#4 => .fbpuge
  | 0xD#4 => .fbple
  | 0xE#4 => .fbpule
  | _ => .fbpo

/-- FBfcc by cond (R346). -/
def fbfccOf (cond : BitVec 4) : Bool → BitVec 22 → Instr :=
  match cond with
  | 0x0#4 => .fbn
  | 0x1#4 => .fbne
  | 0x2#4 => .fblg
  | 0x3#4 => .fbul
  | 0x4#4 => .fbl
  | 0x5#4 => .fbug
  | 0x6#4 => .fbg
  | 0x7#4 => .fbu
  | 0x8#4 => .fba
  | 0x9#4 => .fbe
  | 0xA#4 => .fbue
  | 0xB#4 => .fbge
  | 0xC#4 => .fbuge
  | 0xD#4 => .fble
  | 0xE#4 => .fbule
  | _ => .fbo

/-- BPr by rcond (R347); 000 and 100 reserved. -/
def bprOf (rcond : BitVec 3) : Option (Bool → Bool → RegField → BitVec 16 → Instr) :=
  match rcond with
  | 0x1#3 => some .brz
  | 0x2#3 => some .brlez
  | 0x3#3 => some .brlz
  | 0x5#3 => some .brnz
  | 0x6#3 => some .brgz
  | 0x7#3 => some .brgez
  | _ => none

/-- The op = 10 instructions with the operands rd, rs1, Op2, by op3 (R341). -/
def aluOf (op3 : BitVec 6) : Option (RegField → RegField → Op2 → Instr) :=
  match op3 with
  | 0x0#6 => some .add
  | 0x1#6 => some .and
  | 0x2#6 => some .or
  | 0x3#6 => some .xor
  | 0x4#6 => some .sub
  | 0x5#6 => some .andn
  | 0x6#6 => some .orn
  | 0x7#6 => some .xnor
  | 0x8#6 => some .addc
  | 0x9#6 => some .mulx
  | 0xA#6 => some .umul
  | 0xB#6 => some .smul
  | 0xC#6 => some .subc
  | 0xD#6 => some .udivx
  | 0xE#6 => some .udiv
  | 0xF#6 => some .sdiv
  | 0x10#6 => some .addcc
  | 0x11#6 => some .andcc
  | 0x12#6 => some .orcc
  | 0x13#6 => some .xorcc
  | 0x14#6 => some .subcc
  | 0x15#6 => some .andncc
  | 0x16#6 => some .orncc
  | 0x17#6 => some .xnorcc
  | 0x18#6 => some .addccc
  | 0x1A#6 => some .umulcc
  | 0x1B#6 => some .smulcc
  | 0x1C#6 => some .subccc
  | 0x1E#6 => some .udivcc
  | 0x1F#6 => some .sdivcc
  | 0x20#6 => some .taddcc
  | 0x21#6 => some .tsubcc
  | 0x22#6 => some .taddcctv
  | 0x23#6 => some .tsubcctv
  | 0x24#6 => some .mulscc
  | 0x2D#6 => some .sdivx
  | 0x38#6 => some .jmpl
  | 0x3C#6 => some .save
  | 0x3D#6 => some .restore
  | _ => none

/-- SLL, SRL, SRA by op3 (R341). -/
def shift32Op (op3 : BitVec 6) : Option (RegField → RegField → Shift32 → Instr) :=
  match op3 with
  | 0x25#6 => some .sll
  | 0x26#6 => some .srl
  | 0x27#6 => some .sra
  | _ => none

/-- SLLX, SRLX, SRAX by op3 (R341). -/
def shift64Op (op3 : BitVec 6) : Option (RegField → RegField → Shift64 → Instr) :=
  match op3 with
  | 0x25#6 => some .sllx
  | 0x26#6 => some .srlx
  | 0x27#6 => some .srax
  | _ => none

/-- RDasr by the ASR number in rs1 (R342). -/
def rdasrOf (rs1 : BitVec 5) : Option (RegField → Instr) :=
  match rs1 with
  | 0x0#5 => some .rdy
  | 0x2#5 => some .rdccr
  | 0x3#5 => some .rdasi
  | 0x4#5 => some .rdtick
  | 0x5#5 => some .rdpc
  | 0x6#5 => some .rdfprs
  | 0x10#5 => some .rdpcr
  | 0x11#5 => some .rdpic
  | 0x13#5 => some .rdgsr
  | 0x16#5 => some .rdsoftint
  | 0x17#5 => some .rdtick_cmpr
  | 0x18#5 => some .rdstick
  | 0x19#5 => some .rdstick_cmpr
  | _ => none

/-- WRasr by the ASR number in rd (R342). -/
def wrasrOf (rd : BitVec 5) : Option (RegField → Op2 → Instr) :=
  match rd with
  | 0x0#5 => some .wry
  | 0x2#5 => some .wrccr
  | 0x3#5 => some .wrasi
  | 0x6#5 => some .wrfprs
  | 0x10#5 => some .wrpcr
  | 0x11#5 => some .wrpic
  | 0x13#5 => some .wrgsr
  | 0x14#5 => some .wrsoftint_set
  | 0x15#5 => some .wrsoftint_clr
  | 0x16#5 => some .wrsoftint
  | 0x17#5 => some .wrtick_cmpr
  | 0x18#5 => some .wrstick
  | 0x19#5 => some .wrstick_cmpr
  | _ => none

/-- MOVcc on integer condition codes, by cond (R346). -/
def movccOf (cond : BitVec 4) : RegField → IntCC → Op2x11 → Instr :=
  match cond with
  | 0x0#4 => .movn
  | 0x1#4 => .move
  | 0x2#4 => .movle
  | 0x3#4 => .movl
  | 0x4#4 => .movleu
  | 0x5#4 => .movcs
  | 0x6#4 => .movneg
  | 0x7#4 => .movvs
  | 0x8#4 => .mova
  | 0x9#4 => .movne
  | 0xA#4 => .movg
  | 0xB#4 => .movge
  | 0xC#4 => .movgu
  | 0xD#4 => .movcc
  | 0xE#4 => .movpos
  | _ => .movvc

/-- MOVcc on floating-point condition codes, by cond (R346). -/
def movfccOf (cond : BitVec 4) : RegField → FccSel → Op2x11 → Instr :=
  match cond with
  | 0x0#4 => .movfn
  | 0x1#4 => .movfne
  | 0x2#4 => .movflg
  | 0x3#4 => .movful
  | 0x4#4 => .movfl
  | 0x5#4 => .movfug
  | 0x6#4 => .movfg
  | 0x7#4 => .movfu
  | 0x8#4 => .movfa
  | 0x9#4 => .movfe
  | 0xA#4 => .movfue
  | 0xB#4 => .movfge
  | 0xC#4 => .movfuge
  | 0xD#4 => .movfle
  | 0xE#4 => .movfule
  | _ => .movfo

/-- MOVr by rcond (R347); 000 and 100 reserved. -/
def movrOf (rcond : BitVec 3) : Option (RegField → RegField → Op2x10 → Instr) :=
  match rcond with
  | 0x1#3 => some .movrz
  | 0x2#3 => some .movrlez
  | 0x3#3 => some .movrlz
  | 0x5#3 => some .movrnz
  | 0x6#3 => some .movrgz
  | 0x7#3 => some .movrgez
  | _ => none

/-- The window-state group by fcn (R342). -/
def windowOf (fcn : BitVec 5) : Option (Instr) :=
  match fcn with
  | 0x0#5 => some .saved
  | 0x1#5 => some .restored
  | 0x2#5 => some .allclean
  | 0x3#5 => some .otherw
  | 0x4#5 => some .normalw
  | 0x5#5 => some .invalw
  | _ => none

/-- DONE and RETRY by fcn (R342). -/
def doneRetryOf (fcn : BitVec 5) : Option (Instr) :=
  match fcn with
  | 0x0#5 => some .done
  | 0x1#5 => some .retry
  | _ => none

/-- FPop1 with one source, by opf (R344). -/
def fp1uOf (opf : BitVec 9) : Option (RegField → RegField → Instr) :=
  match opf with
  | 0x1#9 => some .fmovs
  | 0x2#9 => some .fmovd
  | 0x3#9 => some .fmovq
  | 0x5#9 => some .fnegs
  | 0x6#9 => some .fnegd
  | 0x7#9 => some .fnegq
  | 0x9#9 => some .fabss
  | 0xA#9 => some .fabsd
  | 0xB#9 => some .fabsq
  | 0x29#9 => some .fsqrts
  | 0x2A#9 => some .fsqrtd
  | 0x2B#9 => some .fsqrtq
  | 0x81#9 => some .fstox
  | 0x82#9 => some .fdtox
  | 0x83#9 => some .fqtox
  | 0x84#9 => some .fxtos
  | 0x88#9 => some .fxtod
  | 0x8C#9 => some .fxtoq
  | 0xC4#9 => some .fitos
  | 0xC6#9 => some .fdtos
  | 0xC7#9 => some .fqtos
  | 0xC8#9 => some .fitod
  | 0xC9#9 => some .fstod
  | 0xCB#9 => some .fqtod
  | 0xCC#9 => some .fitoq
  | 0xCD#9 => some .fstoq
  | 0xCE#9 => some .fdtoq
  | 0xD1#9 => some .fstoi
  | 0xD2#9 => some .fdtoi
  | 0xD3#9 => some .fqtoi
  | _ => none

/-- FPop1 with two sources, by opf (R344). -/
def fp1bOf (opf : BitVec 9) : Option (RegField → RegField → RegField → Instr) :=
  match opf with
  | 0x41#9 => some .fadds
  | 0x42#9 => some .faddd
  | 0x43#9 => some .faddq
  | 0x45#9 => some .fsubs
  | 0x46#9 => some .fsubd
  | 0x47#9 => some .fsubq
  | 0x49#9 => some .fmuls
  | 0x4A#9 => some .fmuld
  | 0x4B#9 => some .fmulq
  | 0x4D#9 => some .fdivs
  | 0x4E#9 => some .fdivd
  | 0x4F#9 => some .fdivq
  | 0x69#9 => some .fsmuld
  | 0x6E#9 => some .fdmulq
  | _ => none

/-- FMOVcc on icc and xcc, by opf (R345). -/
noncomputable def fmoviccOf (opf : BitVec 9) : Option (RegField → BitVec 4 → RegField → Instr) :=
  match opf with
  | 0x101#9 => some .fmovsicc
  | 0x102#9 => some .fmovdicc
  | 0x103#9 => some .fmovqicc
  | 0x181#9 => some .fmovsxcc
  | 0x182#9 => some .fmovdxcc
  | 0x183#9 => some .fmovqxcc
  | _ => none

/-- FMOVcc on fccn, by opf_low (R345). -/
noncomputable def fmovfccOf (opfLow : BitVec 6) : Option (RegField → FccSel → BitVec 4 → RegField → Instr) :=
  match opfLow with
  | 0x1#6 => some .fmovsfcc
  | 0x2#6 => some .fmovdfcc
  | 0x3#6 => some .fmovqfcc
  | _ => none

/-- FMOVr, by opf (R345). -/
noncomputable def fmovrOf (opf : BitVec 9) : Option (RegField → RegField → RegField → Instr) :=
  match opf with
  | 0x25#9 => some .fmovrsz
  | 0x26#9 => some .fmovrdz
  | 0x27#9 => some .fmovrqz
  | 0x45#9 => some .fmovrslez
  | 0x46#9 => some .fmovrdlez
  | 0x47#9 => some .fmovrqlez
  | 0x65#9 => some .fmovrslz
  | 0x66#9 => some .fmovrdlz
  | 0x67#9 => some .fmovrqlz
  | 0xA5#9 => some .fmovrsnz
  | 0xA6#9 => some .fmovrdnz
  | 0xA7#9 => some .fmovrqnz
  | 0xC5#9 => some .fmovrsgz
  | 0xC6#9 => some .fmovrdgz
  | 0xC7#9 => some .fmovrqgz
  | 0xE5#9 => some .fmovrsgez
  | 0xE6#9 => some .fmovrdgez
  | 0xE7#9 => some .fmovrqgez
  | _ => none

/-- FCMP and FCMPE, by opf (R345). -/
noncomputable def fcmpOf (opf : BitVec 9) : Option (FccSel → RegField → RegField → Instr) :=
  match opf with
  | 0x51#9 => some .fcmps
  | 0x52#9 => some .fcmpd
  | 0x53#9 => some .fcmpq
  | 0x55#9 => some .fcmpes
  | 0x56#9 => some .fcmped
  | 0x57#9 => some .fcmpeq
  | _ => none

/-- IMPDEP1 instructions that use or ignore rd, rs1 and rs2 whole, by opf (R349). -/
noncomputable def visOf (opf : BitVec 9) : Option (RegField → RegField → RegField → Instr) :=
  match opf with
  | 0x0#9 => some .edge8cc
  | 0x1#9 => some .edge8n
  | 0x2#9 => some .edge8lcc
  | 0x3#9 => some .edge8ln
  | 0x4#9 => some .edge16cc
  | 0x5#9 => some .edge16n
  | 0x6#9 => some .edge16lcc
  | 0x7#9 => some .edge16ln
  | 0x8#9 => some .edge32cc
  | 0x9#9 => some .edge32n
  | 0xA#9 => some .edge32lcc
  | 0xB#9 => some .edge32ln
  | 0x10#9 => some .array8
  | 0x12#9 => some .array16
  | 0x14#9 => some .array32
  | 0x18#9 => some .alignaddress
  | 0x19#9 => some .bmask
  | 0x1A#9 => some .alignaddress_little
  | 0x20#9 => some .fcmple16
  | 0x22#9 => some .fcmpne16
  | 0x24#9 => some .fcmple32
  | 0x26#9 => some .fcmpne32
  | 0x28#9 => some .fcmpgt16
  | 0x2A#9 => some .fcmpeq16
  | 0x2C#9 => some .fcmpgt32
  | 0x2E#9 => some .fcmpeq32
  | 0x31#9 => some .fmul8x16
  | 0x33#9 => some .fmul8x16au
  | 0x35#9 => some .fmul8x16al
  | 0x36#9 => some .fmul8sux16
  | 0x37#9 => some .fmul8ulx16
  | 0x38#9 => some .fmuld8sux16
  | 0x39#9 => some .fmuld8ulx16
  | 0x3A#9 => some .fpack32
  | 0x3B#9 => some .fpack16
  | 0x3D#9 => some .fpackfix
  | 0x3E#9 => some .pdist
  | 0x48#9 => some .faligndata
  | 0x4B#9 => some .fpmerge
  | 0x4C#9 => some .bshuffle
  | 0x4D#9 => some .fexpand
  | 0x50#9 => some .fpadd16
  | 0x51#9 => some .fpadd16s
  | 0x52#9 => some .fpadd32
  | 0x53#9 => some .fpadd32s
  | 0x54#9 => some .fpsub16
  | 0x55#9 => some .fpsub16s
  | 0x56#9 => some .fpsub32
  | 0x57#9 => some .fpsub32s
  | 0x62#9 => some .fnor
  | 0x63#9 => some .fnors
  | 0x64#9 => some .fandnot2
  | 0x65#9 => some .fandnot2s
  | 0x68#9 => some .fandnot1
  | 0x69#9 => some .fandnot1s
  | 0x6C#9 => some .fxor
  | 0x6D#9 => some .fxors
  | 0x6E#9 => some .fnand
  | 0x6F#9 => some .fnands
  | 0x70#9 => some .fand
  | 0x71#9 => some .fands
  | 0x72#9 => some .fxnor
  | 0x73#9 => some .fxnors
  | 0x76#9 => some .fornot2
  | 0x77#9 => some .fornot2s
  | 0x7A#9 => some .fornot1
  | 0x7B#9 => some .fornot1s
  | 0x7C#9 => some .for_
  | 0x7D#9 => some .fors
  | 0x80#9 => some .shutdown
  | _ => none

/-- IMPDEP1 instructions with rs2 reserved, by opf (R349). -/
noncomputable def visRs1Of (opf : BitVec 9) : Option (RegField → RegField → Instr) :=
  match opf with
  | 0x6A#9 => some .fnot1
  | 0x6B#9 => some .fnot1s
  | 0x74#9 => some .fsrc1
  | 0x75#9 => some .fsrc1s
  | _ => none

/-- IMPDEP1 instructions with rs1 reserved, by opf (R349). -/
noncomputable def visRs2Of (opf : BitVec 9) : Option (RegField → RegField → Instr) :=
  match opf with
  | 0x66#9 => some .fnot2
  | 0x67#9 => some .fnot2s
  | 0x78#9 => some .fsrc2
  | 0x79#9 => some .fsrc2s
  | _ => none

/-- IMPDEP1 instructions with rs1 and rs2 reserved, by opf (R349). -/
noncomputable def visRdOf (opf : BitVec 9) : Option (RegField → Instr) :=
  match opf with
  | 0x60#9 => some .fzero
  | 0x61#9 => some .fzeros
  | 0x7E#9 => some .fone
  | 0x7F#9 => some .fones
  | _ => none

/-- Tcc by cond (R346). -/
noncomputable def tccOf (cond : BitVec 4) : IntCC → RegField → Op2x8 → Instr :=
  match cond with
  | 0x0#4 => .tn
  | 0x1#4 => .te
  | 0x2#4 => .tle
  | 0x3#4 => .tl
  | 0x4#4 => .tleu
  | 0x5#4 => .tcs
  | 0x6#4 => .tneg
  | 0x7#4 => .tvs
  | 0x8#4 => .ta
  | 0x9#4 => .tne
  | 0xA#4 => .tg
  | 0xB#4 => .tge
  | 0xC#4 => .tgu
  | 0xD#4 => .tcc
  | 0xE#4 => .tpos
  | _ => .tvc

/-- The op = 11 instructions with the operands rd, rs1, Op2, by op3 (R343). -/
noncomputable def memOf (op3 : BitVec 6) : Option (RegField → RegField → Op2 → Instr) :=
  match op3 with
  | 0x0#6 => some .lduw
  | 0x1#6 => some .ldub
  | 0x2#6 => some .lduh
  | 0x3#6 => some .ldtw
  | 0x4#6 => some .stw
  | 0x5#6 => some .stb
  | 0x6#6 => some .sth
  | 0x7#6 => some .sttw
  | 0x8#6 => some .ldsw
  | 0x9#6 => some .ldsb
  | 0xA#6 => some .ldsh
  | 0xB#6 => some .ldx
  | 0xD#6 => some .ldstub
  | 0xE#6 => some .stx
  | 0xF#6 => some .swap
  | 0x20#6 => some .ldf
  | 0x22#6 => some .ldqf
  | 0x23#6 => some .lddf
  | 0x24#6 => some .stf
  | 0x26#6 => some .stqf
  | 0x27#6 => some .stdf
  | _ => none

/-- The alternate-space instructions, by op3 (R343). -/
noncomputable def altOf (op3 : BitVec 6) : Option (RegField → RegField → AsiOp2 → Instr) :=
  match op3 with
  | 0x10#6 => some .lduwa
  | 0x11#6 => some .lduba
  | 0x12#6 => some .lduha
  | 0x13#6 => some .ldtwa
  | 0x14#6 => some .stwa
  | 0x15#6 => some .stba
  | 0x16#6 => some .stha
  | 0x17#6 => some .sttwa
  | 0x18#6 => some .ldswa
  | 0x19#6 => some .ldsba
  | 0x1A#6 => some .ldsha
  | 0x1B#6 => some .ldxa
  | 0x1D#6 => some .ldstuba
  | 0x1E#6 => some .stxa
  | 0x1F#6 => some .swapa
  | 0x30#6 => some .ldfa
  | 0x32#6 => some .ldqfa
  | 0x33#6 => some .lddfa
  | 0x34#6 => some .stfa
  | 0x36#6 => some .stqfa
  | 0x37#6 => some .stdfa
  | _ => none

/-- CASA and CASXA, by op3 (R343). -/
noncomputable def casOf (op3 : BitVec 6) : Option (RegField → RegField → CasAsi → RegField → Instr) :=
  match op3 with
  | 0x3C#6 => some .casa
  | 0x3E#6 => some .casxa
  | _ => none

/-- The FSR loads and stores, by op3 and rd (R343). -/
noncomputable def fsrMemOf (op3 : BitVec 6) (rd : RegField) : Option (RegField → Op2 → Instr) :=
  match op3, rd with
  | 0x21#6, 0#5 => some .ldfsr
  | 0x21#6, 1#5 => some .ldxfsr
  | 0x25#6, 0#5 => some .stfsr
  | 0x25#6, 1#5 => some .stxfsr
  | _, _ => none

/-- The instruction an alternate-space word with an immediate ASI is, where the ASI selects it (R343, 43_fp_loadstore.md
R665, R678). -/
noncomputable def asiSelect (op3 : BitVec 6) (rd rs1 : RegField) (asi : BitVec 8) (rs2 : RegField) : Option Instr :=
  match op3 with
  | 0x13#6 => if isTwinAsi asi then some (.ldtxa rd rs1 asi rs2) else none
  | 0x33#6 =>
    if isBlockAsi asi then some (.ldblockf rd rs1 asi rs2)
    else if isShortAsi asi then some (.ldshortf rd rs1 asi rs2) else none
  | 0x37#6 =>
    if isBlockAsi asi then some (.stblockf rd rs1 asi rs2)
    else if isShortAsi asi then some (.stshortf rd rs1 asi rs2)
    else if isPartialAsi asi then some (.stpartialf rd rs1 asi rs2) else none
  | _ => none

/-! ## Decoding -/

/-- The instruction a successful operand extraction gives, or illegal_instruction. -/
def orIllegal (o : Option Instr) : Except DecodeError Instr :=
  match o with
  | some i => .ok i
  | none => .error .illegalInstruction

/-- op = 00 (R340). -/
def decodeOp0 (w : HWord) : Except DecodeError Instr :=
  match fOp2 w with
  | 0#3 => .ok (.illtrap (fRd w) (fImm22 w))
  | 1#3 => orIllegal ((IntCC.ofBits (fCc w)).map fun cc => bpccOf (fCond w) (fAnnul w) cc (fPredict w) (fDisp19 w))
  | 2#3 => .ok (biccOf (fCond w) (fAnnul w) (fImm22 w))
  | 3#3 =>
    if w.getLsbD 28 then .error .illegalInstruction
    else orIllegal ((bprOf (fRcond w)).map fun k => k (fAnnul w) (fPredict w) (fRs1 w) (fDisp16 w))
  | 4#3 => .ok (if fRd w = 0#5 ∧ fImm22 w = 0#22 then .nop else .sethi (fRd w) (fImm22 w))
  | 5#3 => .ok (fbpfccOf (fCond w) (fAnnul w) (fCc w) (fPredict w) (fDisp19 w))
  | 6#3 => .ok (fbfccOf (fCond w) (fAnnul w) (fImm22 w))
  | _ => .error .illegalInstruction

/-- RDasr, MEMBAR and STBAR (R342, 44_window_state.md R739). -/
def decodeRdasr (rd rs1 : RegField) (l : BitVec 14) : Except DecodeError Instr :=
  if rs1 = 15#5 then
    if rd ≠ 0#5 then .error .illegalInstruction
    else if lI l then
      if l.extractLsb' 7 6 = 0#6 then .ok (.membar (l.extractLsb' 4 3) (l.extractLsb' 0 4))
      else .error .illegalInstruction
    else if l = 0#14 then .ok .stbar else .error .illegalInstruction
  else if l ≠ 0#14 then .error .illegalInstruction
  else orIllegal ((rdasrOf rs1).map fun k => k rd)

/-- WRasr and SIR (R342, 44_window_state.md R759). -/
def decodeWrasr (rd rs1 : RegField) (l : BitVec 14) : Except DecodeError Instr :=
  if rd = 15#5 then
    if rs1 = 0#5 ∧ lI l = true then .ok (.sir (l.extractLsb' 0 13)) else .error .illegalInstruction
  else orIllegal ((wrasrOf rd).bind fun k => (op2Of l).map fun o => k rs1 o)

/-- FPop1 (R344): an undefined opf is an unimplemented FPop; bits 18:14 of a one-source FPop are reserved. -/
def decodeFpop1 (rd rs1 : RegField) (l : BitVec 14) : Except DecodeError Instr :=
  match fp1bOf (lOpf l) with
  | some k => .ok (k rd rs1 (lRs2 l))
  | none =>
    match fp1uOf (lOpf l) with
    | some k => if rs1 = 0#5 then .ok (k rd (lRs2 l)) else .error .illegalInstruction
    | none => .error .unimplementedFPop

/-- An FMOVcc word, reserved opf_cc included: opf_low is single, double or quad (45_fp.md R832). -/
def isFmovccLow (l : BitVec 14) : Bool :=
  l.extractLsb' 5 6 == 1#6 || l.extractLsb' 5 6 == 2#6 || l.extractLsb' 5 6 == 3#6

/-- An FMOVr word, reserved rcond included: opf_low is single, double or quad (45_fp.md R842). -/
def isFmovrLow (l : BitVec 14) : Bool :=
  l.extractLsb' 5 5 == 5#5 || l.extractLsb' 5 5 == 6#5 || l.extractLsb' 5 5 == 7#5

/-- The FMOVcc word moves a double or a quad. -/
def isFmovccDouble (l : BitVec 14) : Bool := l.extractLsb' 5 6 != 1#6

/-- The FMOVr word moves a double or a quad. -/
def isFmovrDouble (l : BitVec 14) : Bool := l.extractLsb' 5 5 != 5#5

/-- FPop2 (R345): FMOVcc checks bit 18, FMOVr bit 13, FCMP bits 29:27 before anything else (45_fp.md R832, R842, R817);
a reserved opf_cc or rcond is an undefined opf of a known destination. -/
noncomputable def decodeFpop2 (rd rs1 : RegField) (l : BitVec 14) : Except DecodeError Instr :=
  if isFmovccLow l then
    if rs1.getLsbD 4 then .error .illegalInstruction
    else if lI l then
      match fmoviccOf (lOpf l) with
      | some k => .ok (k rd (rs1.extractLsb' 0 4) (lRs2 l))
      | none => .error (.unimplementedFMove (isFmovccDouble l) rd)
    else
      match fmovfccOf (l.extractLsb' 5 6) with
      | some k => .ok (k rd (l.extractLsb' 11 2) (rs1.extractLsb' 0 4) (lRs2 l))
      | none => .error (.unimplementedFMove (isFmovccDouble l) rd)
  else if isFmovrLow l then
    if lI l then .error .illegalInstruction
    else
      match fmovrOf (lOpf l) with
      | some k => .ok (k rd rs1 (lRs2 l))
      | none => .error (.unimplementedFMove (isFmovrDouble l) rd)
  else
    match fcmpOf (lOpf l) with
    | some k => if rd.extractLsb' 2 3 = 0#3 then .ok (k (rd.extractLsb' 0 2) rs1 (lRs2 l)) else .error .illegalInstruction
    | none => .error .unimplementedFPop

/-- IMPDEP1, the VIS instructions (R349). -/
noncomputable def decodeVis (rd rs1 : RegField) (l : BitVec 14) : Except DecodeError Instr :=
  match visOf (lOpf l) with
  | some k => .ok (k rd rs1 (lRs2 l))
  | none =>
    match visRs1Of (lOpf l) with
    | some k => if lRs2 l = 0#5 then .ok (k rd rs1) else .error .illegalInstruction
    | none =>
      match visRs2Of (lOpf l) with
      | some k => if rs1 = 0#5 then .ok (k rd (lRs2 l)) else .error .illegalInstruction
      | none =>
        match visRdOf (lOpf l) with
        | some k => if rs1 = 0#5 ∧ lRs2 l = 0#5 then .ok (k rd) else .error .illegalInstruction
        | none =>
          if lOpf l = 0x081#9 ∧ rd = 0#5 ∧ rs1 = 0#5 ∧ l.extractLsb' 3 2 = 0#2 then
            .ok (.siam (l.extractLsb' 0 3))
          else .error .illegalInstruction

/-- IMPDEP2A and IMPDEP2B by op4 (44_window_state.md R796). -/
noncomputable def decodeImpdep2 (rd rs1 : RegField) (l : BitVec 14) : Instr :=
  if l.extractLsb' 5 2 = 0#2 then .impdep2a rd (rs1 ++ l.extractLsb' 7 7) (lRs2 l)
  else .impdep2b rd (rs1 ++ l.extractLsb' 7 7) (l.extractLsb' 5 2) (lRs2 l)

/-- op = 10 (R341, R342). -/
noncomputable def decodeOp2 (w : HWord) : Except DecodeError Instr :=
  let rd := fRd w
  let rs1 := fRs1 w
  let l := fLow14 w
  match aluOf (fOp3 w) with
  | some k => orIllegal ((op2Of l).map fun o => k rd rs1 o)
  | none =>
    match fOp3 w with
    | 0x25#6 | 0x26#6 | 0x27#6 =>
      if l.getLsbD 12 then
        orIllegal ((shift64Op (fOp3 w)).bind fun k => (shift64Of l).map fun c => k rd rs1 c)
      else
        orIllegal ((shift32Op (fOp3 w)).bind fun k => (shift32Of l).map fun c => k rd rs1 c)
    | 0x28#6 => decodeRdasr rd rs1 l
    | 0x29#6 => if l = 0#14 then orIllegal ((HyperReg.ofNumber rs1).map fun h => .rdhpr rd h) else .error .illegalInstruction
    | 0x2A#6 => if l = 0#14 then orIllegal ((PrivReg.ofNumber rs1).map fun p => .rdpr rd p) else .error .illegalInstruction
    | 0x2B#6 =>
      if rd = 0#5 ∧ rs1 = 0#5 ∧ l.extractLsb' 0 13 = 0#13 then .ok (.flushw (lI l)) else .error .illegalInstruction
    | 0x2C#6 =>
      if rs1.getLsbD 4 then
        orIllegal ((IntCC.ofBits (l.extractLsb' 11 2)).bind fun cc =>
          (op2x11Of l).map fun o => movccOf (rs1.extractLsb' 0 4) rd cc o)
      else orIllegal ((op2x11Of l).map fun o => movfccOf (rs1.extractLsb' 0 4) rd (l.extractLsb' 11 2) o)
    | 0x2E#6 => if rs1 = 0#5 then orIllegal ((op2Of l).map fun o => .popc rd o) else .error .illegalInstruction
    | 0x2F#6 => orIllegal ((movrOf (l.extractLsb' 10 3)).bind fun k => (op2x10Of l).map fun o => k rd rs1 o)
    | 0x30#6 => decodeWrasr rd rs1 l
    | 0x31#6 => if rs1 = 0#5 ∧ l = 0#14 then orIllegal (windowOf rd) else .error .illegalInstruction
    | 0x32#6 => orIllegal ((PrivReg.ofNumber rd).bind fun p => (op2Of l).map fun o => .wrpr p rs1 o)
    | 0x33#6 =>
      orIllegal ((HyperReg.ofNumber rd).bind fun h => if h = .hver then none else (op2Of l).map fun o => .wrhpr h rs1 o)
    | 0x34#6 => decodeFpop1 rd rs1 l
    | 0x35#6 => decodeFpop2 rd rs1 l
    | 0x36#6 => decodeVis rd rs1 l
    | 0x37#6 => .ok (decodeImpdep2 rd rs1 l)
    | 0x39#6 => orIllegal ((op2Of l).map fun o => .return_ rd rs1 o)
    | 0x3A#6 =>
      if rd.getLsbD 4 then .error .illegalInstruction
      else orIllegal ((IntCC.ofBits (l.extractLsb' 11 2)).bind fun cc =>
        (op2x8Of l).map fun o => tccOf (rd.extractLsb' 0 4) cc rs1 o)
    | 0x3B#6 => if rd = 0#5 then .ok (.flush rs1 (asiOp2Of l)) else .error .illegalInstruction
    | 0x3E#6 => if rs1 = 0#5 ∧ l = 0#14 then orIllegal (doneRetryOf rd) else .error .illegalInstruction
    | _ => .error .illegalInstruction

/-- An alternate-space word: the ASI selects among the instructions that share op3 (R343). -/
noncomputable def decodeAlt (op3 : BitVec 6) (k : RegField → RegField → AsiOp2 → Instr) (rd rs1 : RegField) (l : BitVec 14) :
    Except DecodeError Instr :=
  if (op3 = 0x13#6 ∨ op3 = 0x17#6) ∧ isEven rd = false then .error .illegalInstruction
  else if lI l then .ok (k rd rs1 (asiOp2Of l))
  else
    match asiSelect op3 rd rs1 (lAsi l) (lRs2 l) with
    | some i => .ok i
    | none => .ok (k rd rs1 (asiOp2Of l))

/-- op = 11 (R343). -/
noncomputable def decodeOp3 (w : HWord) : Except DecodeError Instr :=
  let rd := fRd w
  let rs1 := fRs1 w
  let l := fLow14 w
  match memOf (fOp3 w) with
  | some k =>
    if (fOp3 w = 0x03#6 ∨ fOp3 w = 0x07#6) ∧ isEven rd = false then .error .illegalInstruction
    else orIllegal ((op2Of l).map fun o => k rd rs1 o)
  | none =>
    match altOf (fOp3 w) with
    | some k => decodeAlt (fOp3 w) k rd rs1 l
    | none =>
      match casOf (fOp3 w) with
      | some k => orIllegal ((casAsiOf l).map fun a => k rd rs1 a (lRs2 l))
      | none =>
        match fOp3 w with
        | 0x21#6 | 0x25#6 => orIllegal ((fsrMemOf (fOp3 w) rd).bind fun k => (op2Of l).map fun o => k rs1 o)
        | 0x2D#6 =>
          if prefetchFcnOk rd then orIllegal ((op2Of l).map fun o => .prefetch rd rs1 o) else .error .illegalInstruction
        | 0x3D#6 => if prefetchFcnOk rd then .ok (.prefetcha rd rs1 (asiOp2Of l)) else .error .illegalInstruction
        | _ => .error .illegalInstruction

/-- The instruction a word is, or why it is none (30_encoding.md R331). -/
noncomputable def decode (w : HWord) : Except DecodeError Instr :=
  match fOp w with
  | 0#2 => decodeOp0 w
  | 1#2 => .ok (.call (fDisp30 w))
  | 2#2 => decodeOp2 w
  | _ => decodeOp3 w

/-! ## Encoding -/

/-- The word of an instruction, from the encodings of its rule. -/
def encode : Instr → HWord
  | .illtrap bits29_25 const22 => fSethi bits29_25 0#3 const22
  | .bpa a cc p disp19 => fBpcc a 0x8#4 1#3 cc.bits p disp19
  | .bpn a cc p disp19 => fBpcc a 0x0#4 1#3 cc.bits p disp19
  | .bpne a cc p disp19 => fBpcc a 0x9#4 1#3 cc.bits p disp19
  | .bpe a cc p disp19 => fBpcc a 0x1#4 1#3 cc.bits p disp19
  | .bpg a cc p disp19 => fBpcc a 0xA#4 1#3 cc.bits p disp19
  | .bple a cc p disp19 => fBpcc a 0x2#4 1#3 cc.bits p disp19
  | .bpge a cc p disp19 => fBpcc a 0xB#4 1#3 cc.bits p disp19
  | .bpl a cc p disp19 => fBpcc a 0x3#4 1#3 cc.bits p disp19
  | .bpgu a cc p disp19 => fBpcc a 0xC#4 1#3 cc.bits p disp19
  | .bpleu a cc p disp19 => fBpcc a 0x4#4 1#3 cc.bits p disp19
  | .bpcc a cc p disp19 => fBpcc a 0xD#4 1#3 cc.bits p disp19
  | .bpcs a cc p disp19 => fBpcc a 0x5#4 1#3 cc.bits p disp19
  | .bppos a cc p disp19 => fBpcc a 0xE#4 1#3 cc.bits p disp19
  | .bpneg a cc p disp19 => fBpcc a 0x6#4 1#3 cc.bits p disp19
  | .bpvc a cc p disp19 => fBpcc a 0xF#4 1#3 cc.bits p disp19
  | .bpvs a cc p disp19 => fBpcc a 0x7#4 1#3 cc.bits p disp19
  | .ba a disp22 => fBicc a 0x8#4 2#3 disp22
  | .bn a disp22 => fBicc a 0x0#4 2#3 disp22
  | .bne a disp22 => fBicc a 0x9#4 2#3 disp22
  | .be a disp22 => fBicc a 0x1#4 2#3 disp22
  | .bg a disp22 => fBicc a 0xA#4 2#3 disp22
  | .ble a disp22 => fBicc a 0x2#4 2#3 disp22
  | .bge a disp22 => fBicc a 0xB#4 2#3 disp22
  | .bl a disp22 => fBicc a 0x3#4 2#3 disp22
  | .bgu a disp22 => fBicc a 0xC#4 2#3 disp22
  | .bleu a disp22 => fBicc a 0x4#4 2#3 disp22
  | .bcc a disp22 => fBicc a 0xD#4 2#3 disp22
  | .bcs a disp22 => fBicc a 0x5#4 2#3 disp22
  | .bpos a disp22 => fBicc a 0xE#4 2#3 disp22
  | .bneg a disp22 => fBicc a 0x6#4 2#3 disp22
  | .bvc a disp22 => fBicc a 0xF#4 2#3 disp22
  | .bvs a disp22 => fBicc a 0x7#4 2#3 disp22
  | .brz a p rs1 disp16 => fBpr a 0x1#3 p rs1 disp16
  | .brlez a p rs1 disp16 => fBpr a 0x2#3 p rs1 disp16
  | .brlz a p rs1 disp16 => fBpr a 0x3#3 p rs1 disp16
  | .brnz a p rs1 disp16 => fBpr a 0x5#3 p rs1 disp16
  | .brgz a p rs1 disp16 => fBpr a 0x6#3 p rs1 disp16
  | .brgez a p rs1 disp16 => fBpr a 0x7#3 p rs1 disp16
  | .sethi rd imm22 => fSethi rd 4#3 imm22
  | .nop => fSethi 0#5 4#3 0#22
  | .fbpa a fcc p disp19 => fBpcc a 0x8#4 5#3 fcc p disp19
  | .fbpn a fcc p disp19 => fBpcc a 0x0#4 5#3 fcc p disp19
  | .fbpu a fcc p disp19 => fBpcc a 0x7#4 5#3 fcc p disp19
  | .fbpg a fcc p disp19 => fBpcc a 0x6#4 5#3 fcc p disp19
  | .fbpug a fcc p disp19 => fBpcc a 0x5#4 5#3 fcc p disp19
  | .fbpl a fcc p disp19 => fBpcc a 0x4#4 5#3 fcc p disp19
  | .fbpul a fcc p disp19 => fBpcc a 0x3#4 5#3 fcc p disp19
  | .fbplg a fcc p disp19 => fBpcc a 0x2#4 5#3 fcc p disp19
  | .fbpne a fcc p disp19 => fBpcc a 0x1#4 5#3 fcc p disp19
  | .fbpe a fcc p disp19 => fBpcc a 0x9#4 5#3 fcc p disp19
  | .fbpue a fcc p disp19 => fBpcc a 0xA#4 5#3 fcc p disp19
  | .fbpge a fcc p disp19 => fBpcc a 0xB#4 5#3 fcc p disp19
  | .fbpuge a fcc p disp19 => fBpcc a 0xC#4 5#3 fcc p disp19
  | .fbple a fcc p disp19 => fBpcc a 0xD#4 5#3 fcc p disp19
  | .fbpule a fcc p disp19 => fBpcc a 0xE#4 5#3 fcc p disp19
  | .fbpo a fcc p disp19 => fBpcc a 0xF#4 5#3 fcc p disp19
  | .fba a disp22 => fBicc a 0x8#4 6#3 disp22
  | .fbn a disp22 => fBicc a 0x0#4 6#3 disp22
  | .fbu a disp22 => fBicc a 0x7#4 6#3 disp22
  | .fbg a disp22 => fBicc a 0x6#4 6#3 disp22
  | .fbug a disp22 => fBicc a 0x5#4 6#3 disp22
  | .fbl a disp22 => fBicc a 0x4#4 6#3 disp22
  | .fbul a disp22 => fBicc a 0x3#4 6#3 disp22
  | .fblg a disp22 => fBicc a 0x2#4 6#3 disp22
  | .fbne a disp22 => fBicc a 0x1#4 6#3 disp22
  | .fbe a disp22 => fBicc a 0x9#4 6#3 disp22
  | .fbue a disp22 => fBicc a 0xA#4 6#3 disp22
  | .fbge a disp22 => fBicc a 0xB#4 6#3 disp22
  | .fbuge a disp22 => fBicc a 0xC#4 6#3 disp22
  | .fble a disp22 => fBicc a 0xD#4 6#3 disp22
  | .fbule a disp22 => fBicc a 0xE#4 6#3 disp22
  | .fbo a disp22 => fBicc a 0xF#4 6#3 disp22
  | .call disp30 => f1 disp30
  | .add rd rs1 op2 => f3 2#2 rd 0x0#6 rs1 (lowOp2 op2)
  | .and rd rs1 op2 => f3 2#2 rd 0x1#6 rs1 (lowOp2 op2)
  | .or rd rs1 op2 => f3 2#2 rd 0x2#6 rs1 (lowOp2 op2)
  | .xor rd rs1 op2 => f3 2#2 rd 0x3#6 rs1 (lowOp2 op2)
  | .sub rd rs1 op2 => f3 2#2 rd 0x4#6 rs1 (lowOp2 op2)
  | .andn rd rs1 op2 => f3 2#2 rd 0x5#6 rs1 (lowOp2 op2)
  | .orn rd rs1 op2 => f3 2#2 rd 0x6#6 rs1 (lowOp2 op2)
  | .xnor rd rs1 op2 => f3 2#2 rd 0x7#6 rs1 (lowOp2 op2)
  | .addc rd rs1 op2 => f3 2#2 rd 0x8#6 rs1 (lowOp2 op2)
  | .mulx rd rs1 op2 => f3 2#2 rd 0x9#6 rs1 (lowOp2 op2)
  | .umul rd rs1 op2 => f3 2#2 rd 0xA#6 rs1 (lowOp2 op2)
  | .smul rd rs1 op2 => f3 2#2 rd 0xB#6 rs1 (lowOp2 op2)
  | .subc rd rs1 op2 => f3 2#2 rd 0xC#6 rs1 (lowOp2 op2)
  | .udivx rd rs1 op2 => f3 2#2 rd 0xD#6 rs1 (lowOp2 op2)
  | .udiv rd rs1 op2 => f3 2#2 rd 0xE#6 rs1 (lowOp2 op2)
  | .sdiv rd rs1 op2 => f3 2#2 rd 0xF#6 rs1 (lowOp2 op2)
  | .addcc rd rs1 op2 => f3 2#2 rd 0x10#6 rs1 (lowOp2 op2)
  | .andcc rd rs1 op2 => f3 2#2 rd 0x11#6 rs1 (lowOp2 op2)
  | .orcc rd rs1 op2 => f3 2#2 rd 0x12#6 rs1 (lowOp2 op2)
  | .xorcc rd rs1 op2 => f3 2#2 rd 0x13#6 rs1 (lowOp2 op2)
  | .subcc rd rs1 op2 => f3 2#2 rd 0x14#6 rs1 (lowOp2 op2)
  | .andncc rd rs1 op2 => f3 2#2 rd 0x15#6 rs1 (lowOp2 op2)
  | .orncc rd rs1 op2 => f3 2#2 rd 0x16#6 rs1 (lowOp2 op2)
  | .xnorcc rd rs1 op2 => f3 2#2 rd 0x17#6 rs1 (lowOp2 op2)
  | .addccc rd rs1 op2 => f3 2#2 rd 0x18#6 rs1 (lowOp2 op2)
  | .umulcc rd rs1 op2 => f3 2#2 rd 0x1A#6 rs1 (lowOp2 op2)
  | .smulcc rd rs1 op2 => f3 2#2 rd 0x1B#6 rs1 (lowOp2 op2)
  | .subccc rd rs1 op2 => f3 2#2 rd 0x1C#6 rs1 (lowOp2 op2)
  | .udivcc rd rs1 op2 => f3 2#2 rd 0x1E#6 rs1 (lowOp2 op2)
  | .sdivcc rd rs1 op2 => f3 2#2 rd 0x1F#6 rs1 (lowOp2 op2)
  | .taddcc rd rs1 op2 => f3 2#2 rd 0x20#6 rs1 (lowOp2 op2)
  | .tsubcc rd rs1 op2 => f3 2#2 rd 0x21#6 rs1 (lowOp2 op2)
  | .taddcctv rd rs1 op2 => f3 2#2 rd 0x22#6 rs1 (lowOp2 op2)
  | .tsubcctv rd rs1 op2 => f3 2#2 rd 0x23#6 rs1 (lowOp2 op2)
  | .mulscc rd rs1 op2 => f3 2#2 rd 0x24#6 rs1 (lowOp2 op2)
  | .sdivx rd rs1 op2 => f3 2#2 rd 0x2D#6 rs1 (lowOp2 op2)
  | .jmpl rd rs1 op2 => f3 2#2 rd 0x38#6 rs1 (lowOp2 op2)
  | .save rd rs1 op2 => f3 2#2 rd 0x3C#6 rs1 (lowOp2 op2)
  | .restore rd rs1 op2 => f3 2#2 rd 0x3D#6 rs1 (lowOp2 op2)
  | .return_ bits29_25 rs1 op2 => f3 2#2 bits29_25 0x39#6 rs1 (lowOp2 op2)
  | .flush rs1 op2 => f3 2#2 0#5 0x3B#6 rs1 (lowAsi op2)
  | .flushw i => f3 2#2 0#5 0x2B#6 0#5 (bit i ++ 0#13)
  | .popc rd op2 => f3 2#2 rd 0x2E#6 0#5 (lowOp2 op2)
  | .sll rd rs1 cnt => f3 2#2 rd 0x25#6 rs1 (lowShift32 cnt)
  | .srl rd rs1 cnt => f3 2#2 rd 0x26#6 rs1 (lowShift32 cnt)
  | .sra rd rs1 cnt => f3 2#2 rd 0x27#6 rs1 (lowShift32 cnt)
  | .sllx rd rs1 cnt => f3 2#2 rd 0x25#6 rs1 (lowShift64 cnt)
  | .srlx rd rs1 cnt => f3 2#2 rd 0x26#6 rs1 (lowShift64 cnt)
  | .srax rd rs1 cnt => f3 2#2 rd 0x27#6 rs1 (lowShift64 cnt)
  | .rdy rd => f3 2#2 rd 0x28#6 0x0#5 0#14
  | .rdccr rd => f3 2#2 rd 0x28#6 0x2#5 0#14
  | .rdasi rd => f3 2#2 rd 0x28#6 0x3#5 0#14
  | .rdtick rd => f3 2#2 rd 0x28#6 0x4#5 0#14
  | .rdpc rd => f3 2#2 rd 0x28#6 0x5#5 0#14
  | .rdfprs rd => f3 2#2 rd 0x28#6 0x6#5 0#14
  | .rdpcr rd => f3 2#2 rd 0x28#6 0x10#5 0#14
  | .rdpic rd => f3 2#2 rd 0x28#6 0x11#5 0#14
  | .rdgsr rd => f3 2#2 rd 0x28#6 0x13#5 0#14
  | .rdsoftint rd => f3 2#2 rd 0x28#6 0x16#5 0#14
  | .rdtick_cmpr rd => f3 2#2 rd 0x28#6 0x17#5 0#14
  | .rdstick rd => f3 2#2 rd 0x28#6 0x18#5 0#14
  | .rdstick_cmpr rd => f3 2#2 rd 0x28#6 0x19#5 0#14
  | .membar cmask mmask => f3 2#2 0#5 0x28#6 15#5 (1#1 ++ 0#6 ++ cmask ++ mmask)
  | .stbar => f3 2#2 0#5 0x28#6 15#5 0#14
  | .rdhpr rd hpr => f3 2#2 rd 0x29#6 hpr.number 0#14
  | .rdpr rd pr => f3 2#2 rd 0x2A#6 pr.number 0#14
  | .mova rd cc op2 => f3 2#2 rd 0x2C#6 (1#1 ++ 0x8#4) (lowCC11 cc.bits op2)
  | .movn rd cc op2 => f3 2#2 rd 0x2C#6 (1#1 ++ 0x0#4) (lowCC11 cc.bits op2)
  | .movne rd cc op2 => f3 2#2 rd 0x2C#6 (1#1 ++ 0x9#4) (lowCC11 cc.bits op2)
  | .move rd cc op2 => f3 2#2 rd 0x2C#6 (1#1 ++ 0x1#4) (lowCC11 cc.bits op2)
  | .movg rd cc op2 => f3 2#2 rd 0x2C#6 (1#1 ++ 0xA#4) (lowCC11 cc.bits op2)
  | .movle rd cc op2 => f3 2#2 rd 0x2C#6 (1#1 ++ 0x2#4) (lowCC11 cc.bits op2)
  | .movge rd cc op2 => f3 2#2 rd 0x2C#6 (1#1 ++ 0xB#4) (lowCC11 cc.bits op2)
  | .movl rd cc op2 => f3 2#2 rd 0x2C#6 (1#1 ++ 0x3#4) (lowCC11 cc.bits op2)
  | .movgu rd cc op2 => f3 2#2 rd 0x2C#6 (1#1 ++ 0xC#4) (lowCC11 cc.bits op2)
  | .movleu rd cc op2 => f3 2#2 rd 0x2C#6 (1#1 ++ 0x4#4) (lowCC11 cc.bits op2)
  | .movcc rd cc op2 => f3 2#2 rd 0x2C#6 (1#1 ++ 0xD#4) (lowCC11 cc.bits op2)
  | .movcs rd cc op2 => f3 2#2 rd 0x2C#6 (1#1 ++ 0x5#4) (lowCC11 cc.bits op2)
  | .movpos rd cc op2 => f3 2#2 rd 0x2C#6 (1#1 ++ 0xE#4) (lowCC11 cc.bits op2)
  | .movneg rd cc op2 => f3 2#2 rd 0x2C#6 (1#1 ++ 0x6#4) (lowCC11 cc.bits op2)
  | .movvc rd cc op2 => f3 2#2 rd 0x2C#6 (1#1 ++ 0xF#4) (lowCC11 cc.bits op2)
  | .movvs rd cc op2 => f3 2#2 rd 0x2C#6 (1#1 ++ 0x7#4) (lowCC11 cc.bits op2)
  | .movfa rd fcc op2 => f3 2#2 rd 0x2C#6 (0#1 ++ 0x8#4) (lowCC11 fcc op2)
  | .movfn rd fcc op2 => f3 2#2 rd 0x2C#6 (0#1 ++ 0x0#4) (lowCC11 fcc op2)
  | .movfu rd fcc op2 => f3 2#2 rd 0x2C#6 (0#1 ++ 0x7#4) (lowCC11 fcc op2)
  | .movfg rd fcc op2 => f3 2#2 rd 0x2C#6 (0#1 ++ 0x6#4) (lowCC11 fcc op2)
  | .movfug rd fcc op2 => f3 2#2 rd 0x2C#6 (0#1 ++ 0x5#4) (lowCC11 fcc op2)
  | .movfl rd fcc op2 => f3 2#2 rd 0x2C#6 (0#1 ++ 0x4#4) (lowCC11 fcc op2)
  | .movful rd fcc op2 => f3 2#2 rd 0x2C#6 (0#1 ++ 0x3#4) (lowCC11 fcc op2)
  | .movflg rd fcc op2 => f3 2#2 rd 0x2C#6 (0#1 ++ 0x2#4) (lowCC11 fcc op2)
  | .movfne rd fcc op2 => f3 2#2 rd 0x2C#6 (0#1 ++ 0x1#4) (lowCC11 fcc op2)
  | .movfe rd fcc op2 => f3 2#2 rd 0x2C#6 (0#1 ++ 0x9#4) (lowCC11 fcc op2)
  | .movfue rd fcc op2 => f3 2#2 rd 0x2C#6 (0#1 ++ 0xA#4) (lowCC11 fcc op2)
  | .movfge rd fcc op2 => f3 2#2 rd 0x2C#6 (0#1 ++ 0xB#4) (lowCC11 fcc op2)
  | .movfuge rd fcc op2 => f3 2#2 rd 0x2C#6 (0#1 ++ 0xC#4) (lowCC11 fcc op2)
  | .movfle rd fcc op2 => f3 2#2 rd 0x2C#6 (0#1 ++ 0xD#4) (lowCC11 fcc op2)
  | .movfule rd fcc op2 => f3 2#2 rd 0x2C#6 (0#1 ++ 0xE#4) (lowCC11 fcc op2)
  | .movfo rd fcc op2 => f3 2#2 rd 0x2C#6 (0#1 ++ 0xF#4) (lowCC11 fcc op2)
  | .movrz rd rs1 op2 => f3 2#2 rd 0x2F#6 rs1 (lowRcond10 0x1#3 op2)
  | .movrlez rd rs1 op2 => f3 2#2 rd 0x2F#6 rs1 (lowRcond10 0x2#3 op2)
  | .movrlz rd rs1 op2 => f3 2#2 rd 0x2F#6 rs1 (lowRcond10 0x3#3 op2)
  | .movrnz rd rs1 op2 => f3 2#2 rd 0x2F#6 rs1 (lowRcond10 0x5#3 op2)
  | .movrgz rd rs1 op2 => f3 2#2 rd 0x2F#6 rs1 (lowRcond10 0x6#3 op2)
  | .movrgez rd rs1 op2 => f3 2#2 rd 0x2F#6 rs1 (lowRcond10 0x7#3 op2)
  | .wry rs1 op2 => f3 2#2 0x0#5 0x30#6 rs1 (lowOp2 op2)
  | .wrccr rs1 op2 => f3 2#2 0x2#5 0x30#6 rs1 (lowOp2 op2)
  | .wrasi rs1 op2 => f3 2#2 0x3#5 0x30#6 rs1 (lowOp2 op2)
  | .wrfprs rs1 op2 => f3 2#2 0x6#5 0x30#6 rs1 (lowOp2 op2)
  | .wrpcr rs1 op2 => f3 2#2 0x10#5 0x30#6 rs1 (lowOp2 op2)
  | .wrpic rs1 op2 => f3 2#2 0x11#5 0x30#6 rs1 (lowOp2 op2)
  | .wrgsr rs1 op2 => f3 2#2 0x13#5 0x30#6 rs1 (lowOp2 op2)
  | .wrsoftint_set rs1 op2 => f3 2#2 0x14#5 0x30#6 rs1 (lowOp2 op2)
  | .wrsoftint_clr rs1 op2 => f3 2#2 0x15#5 0x30#6 rs1 (lowOp2 op2)
  | .wrsoftint rs1 op2 => f3 2#2 0x16#5 0x30#6 rs1 (lowOp2 op2)
  | .wrtick_cmpr rs1 op2 => f3 2#2 0x17#5 0x30#6 rs1 (lowOp2 op2)
  | .wrstick rs1 op2 => f3 2#2 0x18#5 0x30#6 rs1 (lowOp2 op2)
  | .wrstick_cmpr rs1 op2 => f3 2#2 0x19#5 0x30#6 rs1 (lowOp2 op2)
  | .sir simm13 => f3 2#2 15#5 0x30#6 0#5 (1#1 ++ simm13)
  | .saved => f3 2#2 0x0#5 0x31#6 0#5 0#14
  | .restored => f3 2#2 0x1#5 0x31#6 0#5 0#14
  | .allclean => f3 2#2 0x2#5 0x31#6 0#5 0#14
  | .otherw => f3 2#2 0x3#5 0x31#6 0#5 0#14
  | .normalw => f3 2#2 0x4#5 0x31#6 0#5 0#14
  | .invalw => f3 2#2 0x5#5 0x31#6 0#5 0#14
  | .wrpr pr rs1 op2 => f3 2#2 pr.number 0x32#6 rs1 (lowOp2 op2)
  | .wrhpr hpr rs1 op2 => f3 2#2 hpr.number 0x33#6 rs1 (lowOp2 op2)
  | .fmovs rd rs2 => fOpf rd 0x34#6 0#5 0x1#9 rs2
  | .fmovd rd rs2 => fOpf rd 0x34#6 0#5 0x2#9 rs2
  | .fmovq rd rs2 => fOpf rd 0x34#6 0#5 0x3#9 rs2
  | .fnegs rd rs2 => fOpf rd 0x34#6 0#5 0x5#9 rs2
  | .fnegd rd rs2 => fOpf rd 0x34#6 0#5 0x6#9 rs2
  | .fnegq rd rs2 => fOpf rd 0x34#6 0#5 0x7#9 rs2
  | .fabss rd rs2 => fOpf rd 0x34#6 0#5 0x9#9 rs2
  | .fabsd rd rs2 => fOpf rd 0x34#6 0#5 0xA#9 rs2
  | .fabsq rd rs2 => fOpf rd 0x34#6 0#5 0xB#9 rs2
  | .fsqrts rd rs2 => fOpf rd 0x34#6 0#5 0x29#9 rs2
  | .fsqrtd rd rs2 => fOpf rd 0x34#6 0#5 0x2A#9 rs2
  | .fsqrtq rd rs2 => fOpf rd 0x34#6 0#5 0x2B#9 rs2
  | .fadds rd rs1 rs2 => fOpf rd 0x34#6 rs1 0x41#9 rs2
  | .faddd rd rs1 rs2 => fOpf rd 0x34#6 rs1 0x42#9 rs2
  | .faddq rd rs1 rs2 => fOpf rd 0x34#6 rs1 0x43#9 rs2
  | .fsubs rd rs1 rs2 => fOpf rd 0x34#6 rs1 0x45#9 rs2
  | .fsubd rd rs1 rs2 => fOpf rd 0x34#6 rs1 0x46#9 rs2
  | .fsubq rd rs1 rs2 => fOpf rd 0x34#6 rs1 0x47#9 rs2
  | .fmuls rd rs1 rs2 => fOpf rd 0x34#6 rs1 0x49#9 rs2
  | .fmuld rd rs1 rs2 => fOpf rd 0x34#6 rs1 0x4A#9 rs2
  | .fmulq rd rs1 rs2 => fOpf rd 0x34#6 rs1 0x4B#9 rs2
  | .fdivs rd rs1 rs2 => fOpf rd 0x34#6 rs1 0x4D#9 rs2
  | .fdivd rd rs1 rs2 => fOpf rd 0x34#6 rs1 0x4E#9 rs2
  | .fdivq rd rs1 rs2 => fOpf rd 0x34#6 rs1 0x4F#9 rs2
  | .fsmuld rd rs1 rs2 => fOpf rd 0x34#6 rs1 0x69#9 rs2
  | .fdmulq rd rs1 rs2 => fOpf rd 0x34#6 rs1 0x6E#9 rs2
  | .fstox rd rs2 => fOpf rd 0x34#6 0#5 0x81#9 rs2
  | .fdtox rd rs2 => fOpf rd 0x34#6 0#5 0x82#9 rs2
  | .fqtox rd rs2 => fOpf rd 0x34#6 0#5 0x83#9 rs2
  | .fxtos rd rs2 => fOpf rd 0x34#6 0#5 0x84#9 rs2
  | .fxtod rd rs2 => fOpf rd 0x34#6 0#5 0x88#9 rs2
  | .fxtoq rd rs2 => fOpf rd 0x34#6 0#5 0x8C#9 rs2
  | .fitos rd rs2 => fOpf rd 0x34#6 0#5 0xC4#9 rs2
  | .fdtos rd rs2 => fOpf rd 0x34#6 0#5 0xC6#9 rs2
  | .fqtos rd rs2 => fOpf rd 0x34#6 0#5 0xC7#9 rs2
  | .fitod rd rs2 => fOpf rd 0x34#6 0#5 0xC8#9 rs2
  | .fstod rd rs2 => fOpf rd 0x34#6 0#5 0xC9#9 rs2
  | .fqtod rd rs2 => fOpf rd 0x34#6 0#5 0xCB#9 rs2
  | .fitoq rd rs2 => fOpf rd 0x34#6 0#5 0xCC#9 rs2
  | .fstoq rd rs2 => fOpf rd 0x34#6 0#5 0xCD#9 rs2
  | .fdtoq rd rs2 => fOpf rd 0x34#6 0#5 0xCE#9 rs2
  | .fstoi rd rs2 => fOpf rd 0x34#6 0#5 0xD1#9 rs2
  | .fdtoi rd rs2 => fOpf rd 0x34#6 0#5 0xD2#9 rs2
  | .fqtoi rd rs2 => fOpf rd 0x34#6 0#5 0xD3#9 rs2
  | .fmovsicc rd cond rs2 => fOpf rd 0x35#6 (0#1 ++ cond) 0x101#9 rs2
  | .fmovsxcc rd cond rs2 => fOpf rd 0x35#6 (0#1 ++ cond) 0x181#9 rs2
  | .fmovsfcc rd fcc cond rs2 => fOpf rd 0x35#6 (0#1 ++ cond) (0#1 ++ fcc ++ 0x1#6) rs2
  | .fmovdicc rd cond rs2 => fOpf rd 0x35#6 (0#1 ++ cond) 0x102#9 rs2
  | .fmovdxcc rd cond rs2 => fOpf rd 0x35#6 (0#1 ++ cond) 0x182#9 rs2
  | .fmovdfcc rd fcc cond rs2 => fOpf rd 0x35#6 (0#1 ++ cond) (0#1 ++ fcc ++ 0x2#6) rs2
  | .fmovqicc rd cond rs2 => fOpf rd 0x35#6 (0#1 ++ cond) 0x103#9 rs2
  | .fmovqxcc rd cond rs2 => fOpf rd 0x35#6 (0#1 ++ cond) 0x183#9 rs2
  | .fmovqfcc rd fcc cond rs2 => fOpf rd 0x35#6 (0#1 ++ cond) (0#1 ++ fcc ++ 0x3#6) rs2
  | .fmovrsz rd rs1 rs2 => fOpf rd 0x35#6 rs1 0x25#9 rs2
  | .fmovrslez rd rs1 rs2 => fOpf rd 0x35#6 rs1 0x45#9 rs2
  | .fmovrslz rd rs1 rs2 => fOpf rd 0x35#6 rs1 0x65#9 rs2
  | .fmovrsnz rd rs1 rs2 => fOpf rd 0x35#6 rs1 0xA5#9 rs2
  | .fmovrsgz rd rs1 rs2 => fOpf rd 0x35#6 rs1 0xC5#9 rs2
  | .fmovrsgez rd rs1 rs2 => fOpf rd 0x35#6 rs1 0xE5#9 rs2
  | .fmovrdz rd rs1 rs2 => fOpf rd 0x35#6 rs1 0x26#9 rs2
  | .fmovrdlez rd rs1 rs2 => fOpf rd 0x35#6 rs1 0x46#9 rs2
  | .fmovrdlz rd rs1 rs2 => fOpf rd 0x35#6 rs1 0x66#9 rs2
  | .fmovrdnz rd rs1 rs2 => fOpf rd 0x35#6 rs1 0xA6#9 rs2
  | .fmovrdgz rd rs1 rs2 => fOpf rd 0x35#6 rs1 0xC6#9 rs2
  | .fmovrdgez rd rs1 rs2 => fOpf rd 0x35#6 rs1 0xE6#9 rs2
  | .fmovrqz rd rs1 rs2 => fOpf rd 0x35#6 rs1 0x27#9 rs2
  | .fmovrqlez rd rs1 rs2 => fOpf rd 0x35#6 rs1 0x47#9 rs2
  | .fmovrqlz rd rs1 rs2 => fOpf rd 0x35#6 rs1 0x67#9 rs2
  | .fmovrqnz rd rs1 rs2 => fOpf rd 0x35#6 rs1 0xA7#9 rs2
  | .fmovrqgz rd rs1 rs2 => fOpf rd 0x35#6 rs1 0xC7#9 rs2
  | .fmovrqgez rd rs1 rs2 => fOpf rd 0x35#6 rs1 0xE7#9 rs2
  | .fcmps fcc rs1 rs2 => fOpf (0#3 ++ fcc) 0x35#6 rs1 0x51#9 rs2
  | .fcmpd fcc rs1 rs2 => fOpf (0#3 ++ fcc) 0x35#6 rs1 0x52#9 rs2
  | .fcmpq fcc rs1 rs2 => fOpf (0#3 ++ fcc) 0x35#6 rs1 0x53#9 rs2
  | .fcmpes fcc rs1 rs2 => fOpf (0#3 ++ fcc) 0x35#6 rs1 0x55#9 rs2
  | .fcmped fcc rs1 rs2 => fOpf (0#3 ++ fcc) 0x35#6 rs1 0x56#9 rs2
  | .fcmpeq fcc rs1 rs2 => fOpf (0#3 ++ fcc) 0x35#6 rs1 0x57#9 rs2
  | .edge8cc rd rs1 rs2 => fOpf rd 0x36#6 rs1 0x0#9 rs2
  | .edge8n rd rs1 rs2 => fOpf rd 0x36#6 rs1 0x1#9 rs2
  | .edge8lcc rd rs1 rs2 => fOpf rd 0x36#6 rs1 0x2#9 rs2
  | .edge8ln rd rs1 rs2 => fOpf rd 0x36#6 rs1 0x3#9 rs2
  | .edge16cc rd rs1 rs2 => fOpf rd 0x36#6 rs1 0x4#9 rs2
  | .edge16n rd rs1 rs2 => fOpf rd 0x36#6 rs1 0x5#9 rs2
  | .edge16lcc rd rs1 rs2 => fOpf rd 0x36#6 rs1 0x6#9 rs2
  | .edge16ln rd rs1 rs2 => fOpf rd 0x36#6 rs1 0x7#9 rs2
  | .edge32cc rd rs1 rs2 => fOpf rd 0x36#6 rs1 0x8#9 rs2
  | .edge32n rd rs1 rs2 => fOpf rd 0x36#6 rs1 0x9#9 rs2
  | .edge32lcc rd rs1 rs2 => fOpf rd 0x36#6 rs1 0xA#9 rs2
  | .edge32ln rd rs1 rs2 => fOpf rd 0x36#6 rs1 0xB#9 rs2
  | .array8 rd rs1 rs2 => fOpf rd 0x36#6 rs1 0x10#9 rs2
  | .array16 rd rs1 rs2 => fOpf rd 0x36#6 rs1 0x12#9 rs2
  | .array32 rd rs1 rs2 => fOpf rd 0x36#6 rs1 0x14#9 rs2
  | .alignaddress rd rs1 rs2 => fOpf rd 0x36#6 rs1 0x18#9 rs2
  | .bmask rd rs1 rs2 => fOpf rd 0x36#6 rs1 0x19#9 rs2
  | .alignaddress_little rd rs1 rs2 => fOpf rd 0x36#6 rs1 0x1A#9 rs2
  | .fcmple16 rd rs1 rs2 => fOpf rd 0x36#6 rs1 0x20#9 rs2
  | .fcmpne16 rd rs1 rs2 => fOpf rd 0x36#6 rs1 0x22#9 rs2
  | .fcmple32 rd rs1 rs2 => fOpf rd 0x36#6 rs1 0x24#9 rs2
  | .fcmpne32 rd rs1 rs2 => fOpf rd 0x36#6 rs1 0x26#9 rs2
  | .fcmpgt16 rd rs1 rs2 => fOpf rd 0x36#6 rs1 0x28#9 rs2
  | .fcmpeq16 rd rs1 rs2 => fOpf rd 0x36#6 rs1 0x2A#9 rs2
  | .fcmpgt32 rd rs1 rs2 => fOpf rd 0x36#6 rs1 0x2C#9 rs2
  | .fcmpeq32 rd rs1 rs2 => fOpf rd 0x36#6 rs1 0x2E#9 rs2
  | .fmul8x16 rd rs1 rs2 => fOpf rd 0x36#6 rs1 0x31#9 rs2
  | .fmul8x16au rd rs1 rs2 => fOpf rd 0x36#6 rs1 0x33#9 rs2
  | .fmul8x16al rd rs1 rs2 => fOpf rd 0x36#6 rs1 0x35#9 rs2
  | .fmul8sux16 rd rs1 rs2 => fOpf rd 0x36#6 rs1 0x36#9 rs2
  | .fmul8ulx16 rd rs1 rs2 => fOpf rd 0x36#6 rs1 0x37#9 rs2
  | .fmuld8sux16 rd rs1 rs2 => fOpf rd 0x36#6 rs1 0x38#9 rs2
  | .fmuld8ulx16 rd rs1 rs2 => fOpf rd 0x36#6 rs1 0x39#9 rs2
  | .fpack32 rd rs1 rs2 => fOpf rd 0x36#6 rs1 0x3A#9 rs2
  | .fpack16 rd rs1 rs2 => fOpf rd 0x36#6 rs1 0x3B#9 rs2
  | .fpackfix rd rs1 rs2 => fOpf rd 0x36#6 rs1 0x3D#9 rs2
  | .pdist rd rs1 rs2 => fOpf rd 0x36#6 rs1 0x3E#9 rs2
  | .faligndata rd rs1 rs2 => fOpf rd 0x36#6 rs1 0x48#9 rs2
  | .fpmerge rd rs1 rs2 => fOpf rd 0x36#6 rs1 0x4B#9 rs2
  | .bshuffle rd rs1 rs2 => fOpf rd 0x36#6 rs1 0x4C#9 rs2
  | .fexpand rd rs1 rs2 => fOpf rd 0x36#6 rs1 0x4D#9 rs2
  | .fpadd16 rd rs1 rs2 => fOpf rd 0x36#6 rs1 0x50#9 rs2
  | .fpadd16s rd rs1 rs2 => fOpf rd 0x36#6 rs1 0x51#9 rs2
  | .fpadd32 rd rs1 rs2 => fOpf rd 0x36#6 rs1 0x52#9 rs2
  | .fpadd32s rd rs1 rs2 => fOpf rd 0x36#6 rs1 0x53#9 rs2
  | .fpsub16 rd rs1 rs2 => fOpf rd 0x36#6 rs1 0x54#9 rs2
  | .fpsub16s rd rs1 rs2 => fOpf rd 0x36#6 rs1 0x55#9 rs2
  | .fpsub32 rd rs1 rs2 => fOpf rd 0x36#6 rs1 0x56#9 rs2
  | .fpsub32s rd rs1 rs2 => fOpf rd 0x36#6 rs1 0x57#9 rs2
  | .fzero rd => fOpf rd 0x36#6 0#5 0x60#9 0#5
  | .fzeros rd => fOpf rd 0x36#6 0#5 0x61#9 0#5
  | .fnor rd rs1 rs2 => fOpf rd 0x36#6 rs1 0x62#9 rs2
  | .fnors rd rs1 rs2 => fOpf rd 0x36#6 rs1 0x63#9 rs2
  | .fandnot2 rd rs1 rs2 => fOpf rd 0x36#6 rs1 0x64#9 rs2
  | .fandnot2s rd rs1 rs2 => fOpf rd 0x36#6 rs1 0x65#9 rs2
  | .fnot2 rd rs2 => fOpf rd 0x36#6 0#5 0x66#9 rs2
  | .fnot2s rd rs2 => fOpf rd 0x36#6 0#5 0x67#9 rs2
  | .fandnot1 rd rs1 rs2 => fOpf rd 0x36#6 rs1 0x68#9 rs2
  | .fandnot1s rd rs1 rs2 => fOpf rd 0x36#6 rs1 0x69#9 rs2
  | .fnot1 rd rs1 => fOpf rd 0x36#6 rs1 0x6A#9 0#5
  | .fnot1s rd rs1 => fOpf rd 0x36#6 rs1 0x6B#9 0#5
  | .fxor rd rs1 rs2 => fOpf rd 0x36#6 rs1 0x6C#9 rs2
  | .fxors rd rs1 rs2 => fOpf rd 0x36#6 rs1 0x6D#9 rs2
  | .fnand rd rs1 rs2 => fOpf rd 0x36#6 rs1 0x6E#9 rs2
  | .fnands rd rs1 rs2 => fOpf rd 0x36#6 rs1 0x6F#9 rs2
  | .fand rd rs1 rs2 => fOpf rd 0x36#6 rs1 0x70#9 rs2
  | .fands rd rs1 rs2 => fOpf rd 0x36#6 rs1 0x71#9 rs2
  | .fxnor rd rs1 rs2 => fOpf rd 0x36#6 rs1 0x72#9 rs2
  | .fxnors rd rs1 rs2 => fOpf rd 0x36#6 rs1 0x73#9 rs2
  | .fsrc1 rd rs1 => fOpf rd 0x36#6 rs1 0x74#9 0#5
  | .fsrc1s rd rs1 => fOpf rd 0x36#6 rs1 0x75#9 0#5
  | .fornot2 rd rs1 rs2 => fOpf rd 0x36#6 rs1 0x76#9 rs2
  | .fornot2s rd rs1 rs2 => fOpf rd 0x36#6 rs1 0x77#9 rs2
  | .fsrc2 rd rs2 => fOpf rd 0x36#6 0#5 0x78#9 rs2
  | .fsrc2s rd rs2 => fOpf rd 0x36#6 0#5 0x79#9 rs2
  | .fornot1 rd rs1 rs2 => fOpf rd 0x36#6 rs1 0x7A#9 rs2
  | .fornot1s rd rs1 rs2 => fOpf rd 0x36#6 rs1 0x7B#9 rs2
  | .for_ rd rs1 rs2 => fOpf rd 0x36#6 rs1 0x7C#9 rs2
  | .fors rd rs1 rs2 => fOpf rd 0x36#6 rs1 0x7D#9 rs2
  | .fone rd => fOpf rd 0x36#6 0#5 0x7E#9 0#5
  | .fones rd => fOpf rd 0x36#6 0#5 0x7F#9 0#5
  | .shutdown rd rs1 rs2 => fOpf rd 0x36#6 rs1 0x80#9 rs2
  | .siam mode => fOpf 0#5 0x36#6 0#5 0x81#9 (0#2 ++ mode)
  | .impdep2a bits29_25 bits18_7 bits4_0 => fImpdep2 bits29_25 bits18_7 0#2 bits4_0
  | .impdep2b bits29_25 bits18_7 op4 bits4_0 => fImpdep2 bits29_25 bits18_7 op4 bits4_0
  | .ta cc rs1 op2 => f3 2#2 (0#1 ++ 0x8#4) 0x3A#6 rs1 (lowTcc cc.bits op2)
  | .tn cc rs1 op2 => f3 2#2 (0#1 ++ 0x0#4) 0x3A#6 rs1 (lowTcc cc.bits op2)
  | .tne cc rs1 op2 => f3 2#2 (0#1 ++ 0x9#4) 0x3A#6 rs1 (lowTcc cc.bits op2)
  | .te cc rs1 op2 => f3 2#2 (0#1 ++ 0x1#4) 0x3A#6 rs1 (lowTcc cc.bits op2)
  | .tg cc rs1 op2 => f3 2#2 (0#1 ++ 0xA#4) 0x3A#6 rs1 (lowTcc cc.bits op2)
  | .tle cc rs1 op2 => f3 2#2 (0#1 ++ 0x2#4) 0x3A#6 rs1 (lowTcc cc.bits op2)
  | .tge cc rs1 op2 => f3 2#2 (0#1 ++ 0xB#4) 0x3A#6 rs1 (lowTcc cc.bits op2)
  | .tl cc rs1 op2 => f3 2#2 (0#1 ++ 0x3#4) 0x3A#6 rs1 (lowTcc cc.bits op2)
  | .tgu cc rs1 op2 => f3 2#2 (0#1 ++ 0xC#4) 0x3A#6 rs1 (lowTcc cc.bits op2)
  | .tleu cc rs1 op2 => f3 2#2 (0#1 ++ 0x4#4) 0x3A#6 rs1 (lowTcc cc.bits op2)
  | .tcc cc rs1 op2 => f3 2#2 (0#1 ++ 0xD#4) 0x3A#6 rs1 (lowTcc cc.bits op2)
  | .tcs cc rs1 op2 => f3 2#2 (0#1 ++ 0x5#4) 0x3A#6 rs1 (lowTcc cc.bits op2)
  | .tpos cc rs1 op2 => f3 2#2 (0#1 ++ 0xE#4) 0x3A#6 rs1 (lowTcc cc.bits op2)
  | .tneg cc rs1 op2 => f3 2#2 (0#1 ++ 0x6#4) 0x3A#6 rs1 (lowTcc cc.bits op2)
  | .tvc cc rs1 op2 => f3 2#2 (0#1 ++ 0xF#4) 0x3A#6 rs1 (lowTcc cc.bits op2)
  | .tvs cc rs1 op2 => f3 2#2 (0#1 ++ 0x7#4) 0x3A#6 rs1 (lowTcc cc.bits op2)
  | .done => f3 2#2 0x0#5 0x3E#6 0#5 0#14
  | .retry => f3 2#2 0x1#5 0x3E#6 0#5 0#14
  | .lduw rd rs1 op2 => f3 3#2 rd 0x0#6 rs1 (lowOp2 op2)
  | .ldub rd rs1 op2 => f3 3#2 rd 0x1#6 rs1 (lowOp2 op2)
  | .lduh rd rs1 op2 => f3 3#2 rd 0x2#6 rs1 (lowOp2 op2)
  | .ldtw rd rs1 op2 => f3 3#2 rd 0x3#6 rs1 (lowOp2 op2)
  | .stw rd rs1 op2 => f3 3#2 rd 0x4#6 rs1 (lowOp2 op2)
  | .stb rd rs1 op2 => f3 3#2 rd 0x5#6 rs1 (lowOp2 op2)
  | .sth rd rs1 op2 => f3 3#2 rd 0x6#6 rs1 (lowOp2 op2)
  | .sttw rd rs1 op2 => f3 3#2 rd 0x7#6 rs1 (lowOp2 op2)
  | .ldsw rd rs1 op2 => f3 3#2 rd 0x8#6 rs1 (lowOp2 op2)
  | .ldsb rd rs1 op2 => f3 3#2 rd 0x9#6 rs1 (lowOp2 op2)
  | .ldsh rd rs1 op2 => f3 3#2 rd 0xA#6 rs1 (lowOp2 op2)
  | .ldx rd rs1 op2 => f3 3#2 rd 0xB#6 rs1 (lowOp2 op2)
  | .ldstub rd rs1 op2 => f3 3#2 rd 0xD#6 rs1 (lowOp2 op2)
  | .stx rd rs1 op2 => f3 3#2 rd 0xE#6 rs1 (lowOp2 op2)
  | .swap rd rs1 op2 => f3 3#2 rd 0xF#6 rs1 (lowOp2 op2)
  | .ldf rd rs1 op2 => f3 3#2 rd 0x20#6 rs1 (lowOp2 op2)
  | .ldqf rd rs1 op2 => f3 3#2 rd 0x22#6 rs1 (lowOp2 op2)
  | .lddf rd rs1 op2 => f3 3#2 rd 0x23#6 rs1 (lowOp2 op2)
  | .stf rd rs1 op2 => f3 3#2 rd 0x24#6 rs1 (lowOp2 op2)
  | .stqf rd rs1 op2 => f3 3#2 rd 0x26#6 rs1 (lowOp2 op2)
  | .stdf rd rs1 op2 => f3 3#2 rd 0x27#6 rs1 (lowOp2 op2)
  | .lduwa rd rs1 op2 => f3 3#2 rd 0x10#6 rs1 (lowAsi op2)
  | .lduba rd rs1 op2 => f3 3#2 rd 0x11#6 rs1 (lowAsi op2)
  | .lduha rd rs1 op2 => f3 3#2 rd 0x12#6 rs1 (lowAsi op2)
  | .ldtwa rd rs1 op2 => f3 3#2 rd 0x13#6 rs1 (lowAsi op2)
  | .stwa rd rs1 op2 => f3 3#2 rd 0x14#6 rs1 (lowAsi op2)
  | .stba rd rs1 op2 => f3 3#2 rd 0x15#6 rs1 (lowAsi op2)
  | .stha rd rs1 op2 => f3 3#2 rd 0x16#6 rs1 (lowAsi op2)
  | .sttwa rd rs1 op2 => f3 3#2 rd 0x17#6 rs1 (lowAsi op2)
  | .ldswa rd rs1 op2 => f3 3#2 rd 0x18#6 rs1 (lowAsi op2)
  | .ldsba rd rs1 op2 => f3 3#2 rd 0x19#6 rs1 (lowAsi op2)
  | .ldsha rd rs1 op2 => f3 3#2 rd 0x1A#6 rs1 (lowAsi op2)
  | .ldxa rd rs1 op2 => f3 3#2 rd 0x1B#6 rs1 (lowAsi op2)
  | .ldstuba rd rs1 op2 => f3 3#2 rd 0x1D#6 rs1 (lowAsi op2)
  | .stxa rd rs1 op2 => f3 3#2 rd 0x1E#6 rs1 (lowAsi op2)
  | .swapa rd rs1 op2 => f3 3#2 rd 0x1F#6 rs1 (lowAsi op2)
  | .ldfa rd rs1 op2 => f3 3#2 rd 0x30#6 rs1 (lowAsi op2)
  | .ldqfa rd rs1 op2 => f3 3#2 rd 0x32#6 rs1 (lowAsi op2)
  | .lddfa rd rs1 op2 => f3 3#2 rd 0x33#6 rs1 (lowAsi op2)
  | .stfa rd rs1 op2 => f3 3#2 rd 0x34#6 rs1 (lowAsi op2)
  | .stqfa rd rs1 op2 => f3 3#2 rd 0x36#6 rs1 (lowAsi op2)
  | .stdfa rd rs1 op2 => f3 3#2 rd 0x37#6 rs1 (lowAsi op2)
  | .ldtxa rd rs1 asi rs2 => f3 3#2 rd 0x13#6 rs1 (0#1 ++ asi ++ rs2)
  | .ldblockf rd rs1 asi rs2 => f3 3#2 rd 0x33#6 rs1 (0#1 ++ asi ++ rs2)
  | .ldshortf rd rs1 asi rs2 => f3 3#2 rd 0x33#6 rs1 (0#1 ++ asi ++ rs2)
  | .stblockf rd rs1 asi rs2 => f3 3#2 rd 0x37#6 rs1 (0#1 ++ asi ++ rs2)
  | .stpartialf rd rs1 asi rs2 => f3 3#2 rd 0x37#6 rs1 (0#1 ++ asi ++ rs2)
  | .stshortf rd rs1 asi rs2 => f3 3#2 rd 0x37#6 rs1 (0#1 ++ asi ++ rs2)
  | .ldfsr rs1 op2 => f3 3#2 0x0#5 0x21#6 rs1 (lowOp2 op2)
  | .ldxfsr rs1 op2 => f3 3#2 0x1#5 0x21#6 rs1 (lowOp2 op2)
  | .stfsr rs1 op2 => f3 3#2 0x0#5 0x25#6 rs1 (lowOp2 op2)
  | .stxfsr rs1 op2 => f3 3#2 0x1#5 0x25#6 rs1 (lowOp2 op2)
  | .prefetch fcn rs1 op2 => f3 3#2 fcn 0x2D#6 rs1 (lowOp2 op2)
  | .prefetcha fcn rs1 op2 => f3 3#2 fcn 0x3D#6 rs1 (lowAsi op2)
  | .casa rd rs1 asi rs2 => f3 3#2 rd 0x3C#6 rs1 (lowCas asi rs2)
  | .casxa rd rs1 asi rs2 => f3 3#2 rd 0x3E#6 rs1 (lowCas asi rs2)

/-! ## The words as the hardware stores them (30_encoding.md R300) -/

/-- The four bytes of a word, the byte at the lowest address first (big-endian). -/
def wordBytes (w : HWord) : List Byte :=
  [w.extractLsb' 24 8, w.extractLsb' 16 8, w.extractLsb' 8 8, w.extractLsb' 0 8]

/-- The instruction word in the four bytes at an address, lowest address first. -/
def bytesWord (b0 b1 b2 b3 : Byte) : HWord := b0 ++ b1 ++ b2 ++ b3

/-- The instruction the decoder reads from four stored bytes; other lengths hold no instruction. -/
noncomputable def decodeBytes : List Byte → Except DecodeError Instr
  | [b0, b1, b2, b3] => decode (bytesWord b0 b1 b2 b3)
  | _ => .error .illegalInstruction

/-- The instruction in a word whose bits are numbered as spec/opcode_table.json numbers them (bit 0 the least
significant bit); every word has 32 bits. -/
noncomputable def decodeTableWord (_nbits w : Nat) : Option Instr :=
  match decodeBytes (wordBytes (BitVec.ofNat 32 w)) with
  | .ok i => some i
  | .error _ => none

end Sys2Proof
end

