-- ==== Sys2Proof/Config.lean ====
section
/-!
DEFINITION. What an implementation fixes: every parameter of 00_scope.md R6 at the spec's default, and the opaque source of
free values. A parameter is the spec's own (its default is stated there), not a choice of this model; notes/assumptions/8.md
lists them. The machine reads each by its name, so another implementation is this text with another value here. The three
parameters that are functions of the step (TickAdvance, StickAdvance, PicEvents) need State: they stand in Machine/Cycle.lean,
in this namespace.
-/

namespace Sys2Proof.Config

/-- N_STRANDS (00_scope.md R6). The machine is one strand, the configuration of 61_interrupts_cmt.md R1240. -/
def nStrands : Nat := 1
/-- STRAND_AVAILABLE (61_interrupts_cmt.md R1210). -/
def strandAvailable : Word := 1#64
/-- XIR_STEERING_WRITABLE: true for N_STRANDS > 1 (61_interrupts_cmt.md R1235). -/
def xirSteeringWritable : Bool := decide (1 < nStrands)
/-- ENABLE_ALL_ZERO_GUARD: a store that would disable every strand is ignored (61_interrupts_cmt.md R1212). -/
def enableAllZeroGuard : Bool := false

/-- N_REG_WINDOWS (00_scope.md R6, 10_state.md R21). -/
def nRegWindows : Nat := 8
/-- MAXTL, the highest trap level (00_scope.md R6). -/
def maxTL : Nat := 6
/-- MAXPTL, the highest trap level of privileged software (00_scope.md R6). -/
def maxPTL : Nat := 2
/-- MAXGL, the highest global level (00_scope.md R6). -/
def maxGL : Nat := 3
/-- MAXPGL, the highest global level of privileged software (00_scope.md R6). -/
def maxPGL : Nat := 2
/-- PA_BITS (00_scope.md R6, 22_mmu.md R1471). -/
def paBits : Nat := 56
/-- RSTVADDR, the RED_state trap vector base (00_scope.md R6, 70_reset_and_hazards.md R1252). -/
def rstvaddr : Word := 0xFFFFFFFFF0000000#64
/-- PAGE_256M_SUPPORTED (22_mmu.md R1454). -/
def page256M : Bool := true
/-- PID_BITS, at most 8 (22_mmu.md R1484). -/
def pidBits : Nat := 8
/-- INT_ID_BITS, at most 16 (61_interrupts_cmt.md R1206). -/
def intIdBits : Nat := 16
/-- FSR.ver (00_scope.md R6, 10_state.md R84). -/
def fsrVer : BitVec 3 := 0#3
/-- HVER_MANUF, impl. dep. #104-V9 (00_scope.md R6, 11_state_privileged.md R213). -/
def hverManuf : BitVec 16 := 0#16
/-- HVER_IMPL, impl. dep. #13-V8 (00_scope.md R6, 11_state_privileged.md R213). -/
def hverImpl : BitVec 16 := 0#16
/-- HVER_MASK (00_scope.md R6, 11_state_privileged.md R213). -/
def hverMask : BitVec 8 := 0#8
/-- HVER: manuf 63:48, impl 47:32, mask 31:24, maxgl 18:16, maxtl 15:8, maxwin 4:0, the last three following from MAXGL, MAXTL
and N_REG_WINDOWS (11_state_privileged.md R213). -/
def hver : Word :=
  hverManuf ++ hverImpl ++ hverMask ++ 0#5 ++ BitVec.ofNat 3 maxGL ++ BitVec.ofNat 8 maxTL ++ 0#3 ++
    BitVec.ofNat 5 (nRegWindows - 1)
/-- TICK_BITS, the implemented bits of TICK.counter, at most 63 (61_interrupts_cmt.md R1158). -/
def tickBits : Nat := 63
/-- STICK_BITS, the implemented bits of STICK.counter, at most 63 (61_interrupts_cmt.md R1158). -/
def stickBits : Nat := 63
/-- WMR_SAVES_TRAP_STATE, impl. dep. #419-S10 (D56). -/
def wmrSavesTrapState : Bool := true
/-- XIR_AT_MAXTL_ERROR_STATE (D40). -/
def xirAtMaxTLErrorState : Bool := false
/-- QUEUE_TAIL_PRIV_WRITABLE, impl. dep. #422-S10 (D54). -/
def queueTailPrivWritable : Bool := false

/-- IPE_PRIORITY in thousandths: the priority of internal_processor_error, 2.015 (62_exception_list.md R1126, D46). -/
def ipePriority : Nat := 2015

/-- What privileged scratchpad registers 4 to 7 can be (21_asi.md R1420). -/
inductive ScratchpadAccess where
  | accessible
  | emulated
  | inaccessible
  deriving DecidableEq, Repr

/-- SCRATCHPAD_4_7 (21_asi.md R1420, D34). -/
def scratchpad4to7 : ScratchpadAccess := .accessible
/-- HYP_SCRATCHPAD_ALIASED (21_asi.md R1421, D34). -/
def hypScratchpadAliased : Bool := false

/-- The C3 group ARRAY8, ARRAY16, ARRAY32 is in hardware (46_vis.md R881, D7). -/
def c3Array : Bool := true
/-- The C3 group of the EDGE instructions is in hardware (46_vis.md R881, D7). -/
def c3Edge : Bool := true
/-- The C3 instruction BMASK is in hardware (46_vis.md R881, D7). -/
def c3Bmask : Bool := true
/-- The C3 instruction BSHUFFLE is in hardware (46_vis.md R881, D7). -/
def c3Bshuffle : Bool := true
/-- The C3 group of the SIMD compares is in hardware (46_vis.md R881, D7). -/
def c3Compare : Bool := true

/-- The C3 group of the partitioned multiplies FMUL8 and FMULD8 is in hardware: its page says that it is not (46_vis.md 7.30,
R906 to R912, D7). -/
def c3Fmul8 : Bool := false
/-- The C3 group of FPACK16, FPACK32 and FPACKFIX is in hardware: its page says that it is not (46_vis.md 7.33, R913 to R915,
D7). -/
def c3Fpack : Bool := false
/-- The C3 instruction FPMERGE is in hardware: its page says that it is not (46_vis.md R920, D7). -/
def c3Fpmerge : Bool := false

/-- What the platform has at a physical address (20_memory.md R1302). -/
inductive Region where
  | memory
  | io
  | absent
  deriving DecidableEq, Repr

/-- The platform memory map: every physical address is real memory (20_memory.md R1302, D30). -/
def platformMap (_pa : Nat) : Region := .memory

/-- InstructionBreakpointMatch(pc, inst), the host predicate of 22_mmu.md R1470 step 5; never by default (D44). -/
def instrBreakpoint (_pc : Word) (_inst : HWord) : Bool := false
/-- VaWatch, the host predicate of 22_mmu.md R1450 step 5: address, size in bytes, whether it writes; never (D44). -/
def vaWatch (_addr : Word) (_size : Nat) (_write : Bool) : Bool := false
/-- PaWatch, the host predicate of 22_mmu.md R1450 step 11; never (D44). -/
def paWatch (_addr : Nat) (_size : Nat) (_write : Bool) : Bool := false
/-- The unfinished_FPop set (45_fp.md R804): opf and the two operands (a single operand zero-extended); empty (D6). -/
def unfinishedFPop (_opf : BitVec 9) (_a _b : Word) : Bool := false

/-- The free values: what the architecture leaves undefined while the machine goes on. No body, so nothing can be proved
of any of its values; the k-th draw of a run is `freeValue k` (State.freeCount is k). -/
opaque freeValue : Nat → Word

end Sys2Proof.Config
end

