-- ==== Sys2Proof/Machine/State.lean ====
section
/-!
DEFINITION. The state of one UltraSPARC Architecture 2005 virtual processor, its memory and the requests its host has
pending, as plain data; the reasons a step can stop; the state after power-on reset. INVENTORY.md lists every field with
its rule and reset value.
-/

namespace Sys2Proof.Machine

/-- TICK and STICK: npt in bit 63, the counter in 62:0 (10_state.md R110, R117). -/
structure CounterReg where
  npt : Bool
  counter : BitVec 63
  deriving DecidableEq, Repr

/-- TICK_CMPR, STICK_CMPR and HSTICK_CMPR: int_dis in bit 63, the compare value in 62:0 (10_state.md R116, R118;
11_state_privileged.md R214). -/
structure CompareReg where
  intDis : Bool
  value : BitVec 63
  deriving DecidableEq, Repr

/-- PCR: su 16:11, sl 9:4, ut 2, st 1, priv 0, and the implementation-dependent bits 47:32, 26:17 and 3, which are stored
without effect (10_state.md R111, impl. dep. #207 as U34 of 93_implementation_defined.md treats it, log 15); every other bit
reads 0. -/
structure Pcr where
  impl47 : BitVec 16
  impl26 : BitVec 10
  su : BitVec 6
  sl : BitVec 6
  impl3 : Bool
  ut : Bool
  st : Bool
  priv : Bool
  deriving DecidableEq, Repr

/-- PIC: picu 63:32, picl 31:0 (10_state.md R112). -/
structure Pic where
  picu : BitVec 32
  picl : BitVec 32
  deriving DecidableEq, Repr

/-- GSR: mask 63:32, im 27, irnd 26:25, scale 7:3, align 2:0 (10_state.md R125). -/
structure Gsr where
  mask : BitVec 32
  im : Bool
  irnd : BitVec 2
  scale : BitVec 5
  align : BitVec 3
  deriving DecidableEq, Repr

/-- FPRS: fef 2, du 1, dl 0 (10_state.md R108). -/
structure Fprs where
  fef : Bool
  du : Bool
  dl : Bool
  deriving DecidableEq, Repr

/-- FSR (10_state.md R80 to R92): fcc3 37:36, fcc2 35:34, fcc1 33:32, rd 31:30, tem 27:23, ftt 16:14, fcc0 11:10,
aexc 9:5, cexc 4:0. ns and qne read 0 and are not stored; ver is the constant Config.fsrVer. -/
structure Fsr where
  fcc0 : BitVec 2
  fcc1 : BitVec 2
  fcc2 : BitVec 2
  fcc3 : BitVec 2
  rd : BitVec 2
  tem : BitVec 5
  ftt : BitVec 3
  aexc : BitVec 5
  cexc : BitVec 5
  deriving DecidableEq, Repr

/-- The register-window registers (11_state_privileged.md R161 to R167). -/
structure WindowRegs where
  cwp : BitVec 3
  cansave : BitVec 3
  canrestore : BitVec 3
  cleanwin : BitVec 3
  otherwin : BitVec 3
  wstateOther : BitVec 3
  wstateNormal : BitVec 3
  deriving DecidableEq, Repr

/-- PSTATE: tct 12, cle 9, tle 8, pef 4, am 3, priv 2, ie 1; mm (7:6) and the rest read 0 (11_state_privileged.md
R180 to R188, D32). -/
structure PState where
  tct : Bool
  cle : Bool
  tle : Bool
  pef : Bool
  am : Bool
  priv : Bool
  ie : Bool
  deriving DecidableEq, Repr

/-- HPSTATE: ibe 10, red 5, hpriv 2, tlz 0; every other bit reads 0 (11_state_privileged.md R201 to R205). -/
structure HPState where
  ibe : Bool
  red : Bool
  hpriv : Bool
  tlz : Bool
  deriving DecidableEq, Repr

/-- TSTATE: gl 42:40, ccr 39:32, asi 31:24, pstate 20:8, cwp 4:0, each kept as written (11_state_privileged.md R172,
D50). -/
structure TState where
  gl : BitVec 3
  ccr : BitVec 8
  asi : BitVec 8
  pstate : BitVec 13
  cwp : BitVec 5
  deriving DecidableEq, Repr

/-- One level of the trap stack (11_state_privileged.md R170 to R173, R210). Bits 1:0 of tpc and tnpc are 0. -/
structure TrapEntry where
  tpc : Word
  tnpc : Word
  tstate : TState
  tt : TrapType
  htstate : BitVec 11
  deriving DecidableEq, Repr

/-- A TLB entry (22_mmu.md R1452): `data` is the TTE data word, its target address a physical one (R1455). -/
structure TlbEntry where
  real : Bool
  pid : BitVec 8
  ctx : BitVec 16
  vpn : Word
  data : Word
  deriving DecidableEq, Repr

/-- The MMU's registers, enables and TLBs (22_mmu.md R1452, R1463, R1481 to R1484). -/
structure MmuState where
  immuEnable : Bool
  dmmuEnable : Bool
  itlb : List TlbEntry
  dtlb : List TlbEntry
  primaryContext : BitVec 16
  secondaryContext : BitVec 16
  partitionId : BitVec 8
  itagAccess : Word
  dtagAccess : Word
  dsfar : Word
  isfsr : Word
  dsfsr : Word
  deriving DecidableEq, Repr

/-- The interrupt queue registers, head and tail pointers of the four queues (61_interrupts_cmt.md R1180). -/
structure Queues where
  cpuMondoHead : Word
  cpuMondoTail : Word
  devMondoHead : Word
  devMondoTail : Word
  resumableHead : Word
  resumableTail : Word
  nonresumableHead : Word
  nonresumableTail : Word
  deriving DecidableEq, Repr

/-- The writable shared CMT registers (61_interrupts_cmt.md R1211, R1212, R1235), one bit for each virtual processor. -/
structure Cmt where
  strandEnable : Word
  strandEnableStatus : Word
  xirSteering : Word
  deriving DecidableEq, Repr

/-- The MODEL's own: what the host asks of the next step, its reset pins and the hardware errors it injects (00_scope.md
R13). The step clears what it takes. D46 also names hw_corrected_error and sw_recoverable_error, to which no rule gives a
trap type, a priority or a delivery: the model has no request for them (log 32, DESIGN CHOICE). -/
structure HostRequests where
  por : Bool
  wmr : Bool
  xir : Bool
  storeError : Bool
  internalProcessorError : Bool
  instructionAccessError : Bool
  dataAccessError : Bool
  deriving DecidableEq, Repr

/-- Everything the spec gives the machine, with the model's own `requests` and `freeCount`. -/
structure State where
  /-- G[gl][n], n = 1 to 7, at index gl * 7 + (n - 1) (10_state.md R22). -/
  globals : Vector Word 28
  /-- W[0] to W[127], the windowed registers (10_state.md R22, R23). -/
  windows : Vector Word 128
  /-- The 32-bit halves of the F registers, F[0] to F[63] (10_state.md R70). -/
  fregs : Vector HWord 64
  pc : Word
  npc : Word
  win : WindowRegs
  y : BitVec 32
  /-- xcc 7:4 and icc 3:0, each n z v c (10_state.md R102). -/
  ccr : BitVec 8
  asi : BitVec 8
  fsr : Fsr
  fprs : Fprs
  gsr : Gsr
  pcr : Pcr
  pic : Pic
  tick : CounterReg
  stick : CounterReg
  tickCmpr : CompareReg
  stickCmpr : CompareReg
  hstickCmpr : CompareReg
  /-- sm 16, int_level 15:1, tm 0 (10_state.md R113). -/
  softint : BitVec 17
  pil : BitVec 4
  pstate : PState
  hpstate : HPState
  /-- TL, 0 to MAXTL (11_state_privileged.md R195). -/
  tl : Fin 7
  /-- GL, 0 to MAXGL (11_state_privileged.md R197). -/
  gl : Fin 4
  /-- The trap stack: level n at index n - 1 (11_state_privileged.md R220). -/
  traps : Vector TrapEntry 6
  /-- TBA bits 63:15 (11_state_privileged.md R174). -/
  tba : BitVec 49
  /-- HTBA bits 63:14 (11_state_privileged.md R212). -/
  htba : BitVec 50
  /-- HINTP.hsp (11_state_privileged.md R211). -/
  hsp : Bool
  scratchpad : Vector Word 8
  hyperScratchpad : Vector Word 8
  queues : Queues
  mmu : MmuState
  /-- STRAND_INTR_ID (61_interrupts_cmt.md R1206). -/
  strandIntrId : BitVec 16
  /-- STRAND_ENABLE, STRAND_ENABLE_STATUS and XIR_STEERING (61_interrupts_cmt.md R1230). -/
  cmt : Cmt
  /-- error_state and the trap type that caused it (60_exceptions.md R1004, R1047). -/
  errorState : Option TrapType
  requests : HostRequests
  /-- Physical memory, in the canonical form of `Memory.wf`. -/
  mem : List Host.Cell
  /-- How many free values have been drawn. -/
  freeCount : Nat
  deriving DecidableEq, Repr

/-- Why the model stops where the hardware's behaviour is not given. -/
inductive Fault where
  /-- Raised by the TLB lookup: more than one entry matches, an error whose exception the spec does not name (22_mmu.md
  R1486). SAFE: no behaviour is claimed. -/
  | multipleTlbHit
  /-- Raised by an access to an address that the platform map of another implementation gives to a device, whose behaviour the
  spec does not give (20_memory.md R1302); the default map has none. SAFE: no behaviour is claimed. -/
  | ioLocation
  /-- Raised by an access to an address that the platform map says does not exist (20_memory.md R1302); the default map has
  none. SAFE: no behaviour is claimed. -/
  | absentAddress
  deriving DecidableEq, Repr

/-- Why the model has no meaning for an instruction. -/
inductive Refusal where
  /-- Raised by an arm of exec that has no meaning yet. SAFE: nothing is claimed of the instruction. -/
  | notModelled (mnemonic : String)
  deriving DecidableEq, Repr

/-- What a step or a meaning answers. -/
abbrev Result := Host.Outcome State Fault Refusal

/-! ## Reset (70_reset_and_hazards.md R1255, 60_exceptions.md R1041) -/

/-- A trap stack entry whose registers the spec leaves undefined at power-on (log 1). -/
def TrapEntry.undefinedAtReset : TrapEntry where
  tpc := 0#64
  tnpc := 0#64
  tstate := { gl := 0#3, ccr := 0#8, asi := 0#8, pstate := 0#13, cwp := 0#5 }
  tt := 0#9
  htstate := 0#11

/-- The machine right after power-on reset: TL = MAXTL, GL = MAXGL, TT[TL] = 1, PSTATE with pef only, HPSTATE with red
and hpriv, pc at RSTVADDR + 0x20, the counters' npt and the comparators' int_dis at 1, MMU disabled and its TLBs empty.
Registers the spec leaves undefined are 0 (log 1, DESIGN CHOICE). -/
def State.reset : State where
  globals := Vector.replicate 28 0#64
  windows := Vector.replicate 128 0#64
  fregs := Vector.replicate 64 0#32
  pc := Config.rstvaddr + 0x20#64
  npc := Config.rstvaddr + 0x24#64
  win :=
    { cwp := 0#3, cansave := 0#3, canrestore := 0#3, cleanwin := 0#3, otherwin := 0#3, wstateOther := 0#3,
      wstateNormal := 0#3 }
  y := 0#32
  ccr := 0#8
  asi := 0#8
  fsr :=
    { fcc0 := 0#2, fcc1 := 0#2, fcc2 := 0#2, fcc3 := 0#2, rd := 0#2, tem := 0#5, ftt := 0#3, aexc := 0#5, cexc := 0#5 }
  fprs := { fef := false, du := false, dl := false }
  gsr := { mask := 0#32, im := false, irnd := 0#2, scale := 0#5, align := 0#3 }
  pcr := { impl47 := 0#16, impl26 := 0#10, su := 0#6, sl := 0#6, impl3 := false, ut := false, st := false, priv := false }
  pic := { picu := 0#32, picl := 0#32 }
  tick := { npt := true, counter := 0#63 }
  stick := { npt := true, counter := 0#63 }
  tickCmpr := { intDis := true, value := 0#63 }
  stickCmpr := { intDis := true, value := 0#63 }
  hstickCmpr := { intDis := true, value := 0#63 }
  softint := 0#17
  pil := 0#4
  pstate := { tct := false, cle := false, tle := false, pef := true, am := false, priv := false, ie := false }
  hpstate := { ibe := false, red := true, hpriv := true, tlz := false }
  tl := ⟨Config.maxTL, by decide⟩
  gl := ⟨Config.maxGL, by decide⟩
  traps :=
    (Vector.replicate 6 TrapEntry.undefinedAtReset).set (Config.maxTL - 1)
      { TrapEntry.undefinedAtReset with tt := 0x001#9 } (by decide)
  tba := 0#49
  htba := 0#50
  hsp := false
  scratchpad := Vector.replicate 8 0#64
  hyperScratchpad := Vector.replicate 8 0#64
  queues :=
    { cpuMondoHead := 0#64, cpuMondoTail := 0#64, devMondoHead := 0#64, devMondoTail := 0#64, resumableHead := 0#64,
      resumableTail := 0#64, nonresumableHead := 0#64, nonresumableTail := 0#64 }
  mmu :=
    { immuEnable := false, dmmuEnable := false, itlb := [], dtlb := [], primaryContext := 0#16,
      secondaryContext := 0#16, partitionId := 0#8, itagAccess := 0#64, dtagAccess := 0#64, dsfar := 0#64,
      isfsr := 0#64, dsfsr := 0#64 }
  strandIntrId := 0#16
  cmt :=
    { strandEnable := Config.strandAvailable, strandEnableStatus := Config.strandAvailable,
      xirSteering := Config.strandAvailable }
  errorState := none
  requests :=
    { por := false, wmr := false, xir := false, storeError := false, internalProcessorError := false,
      instructionAccessError := false, dataAccessError := false }
  mem := []
  freeCount := 0

end Sys2Proof.Machine
end

