-- ==== Sys2Proof/Machine/Ops.lean ====
section
/-!
DEFINITION. The named operations over the state that every meaning is built from: privilege mode, the R and F registers,
the program counters, memory, free values; taking an exception and returning from one.
-/

namespace Sys2Proof.Machine

/-! ## Implemented bits -/

/-- A register of which `bits` low bits are implemented: the others read 0 (61_interrupts_cmt.md R1158, R1206; 22_mmu.md
R1484). -/
def implemented {w : Nat} (bits : Nat) (v : BitVec w) : BitVec w := BitVec.ofNat w (v.toNat % 2 ^ bits)

/-! ## Privilege mode (60_exceptions.md R1002) -/

/-- The three privilege modes. -/
inductive Mode where
  | nonprivileged
  | privileged
  | hyperprivileged
  deriving DecidableEq, Repr

/-- Mode(): hpriv decides first, then priv (60_exceptions.md R1002). -/
def State.mode (s : State) : Mode :=
  if s.hpstate.hpriv then .hyperprivileged else if s.pstate.priv then .privileged else .nonprivileged

/-- PSTATE.priv = 0 and HPSTATE.hpriv = 0, the condition of privileged_opcode (62_exception_list.md R1093). -/
def State.isUser (s : State) : Bool := !s.hpstate.hpriv && !s.pstate.priv

/-- AmMask (11_state_privileged.md R190). -/
def State.amMask (s : State) (a : Word) : Word := if s.pstate.am then (a.setWidth 32).setWidth 64 else a

/-! ## Program counters (41_control.md R500) -/

/-- Advance(). -/
def State.advance (s : State) : State := { s with pc := s.npc, npc := s.npc + 4#64 }

/-- DelayedTransfer(EA). -/
def State.delayedTransfer (s : State) (ea : Word) : State := { s with pc := s.npc, npc := ea }

/-- AnnulDelay(). -/
def State.annulDelay (s : State) : State := { s with pc := s.npc + 4#64, npc := s.npc + 8#64 }

/-- TransferAnnul(EA). -/
def State.transferAnnul (s : State) (ea : Word) : State := { s with pc := ea, npc := ea + 4#64 }

/-! ## R registers (10_state.md R22, R23) -/

/-- Where G[gl][r] is kept, r = 1 to 7. -/
def globalIndex (gl : Fin 4) (r : RegField) : Fin 28 := ⟨gl.val * 7 + (r.toNat - 1) % 7, by omega⟩

/-- (w + n) mod N_REG_WINDOWS (10_state.md R22, 44_window_state.md R730). -/
def windowAdd (w : BitVec 3) (n : Nat) : BitVec 3 := BitVec.ofNat 3 ((w.toNat + n) % Config.nRegWindows)

/-- Where R[8] to R[31] are kept: outs of the current window are the ins of the next (10_state.md R22). -/
def windowIndex (cwp : BitVec 3) (r : RegField) : BitVec 7 :=
  if r.extractLsb' 3 2 = 1#2 then windowAdd cwp 1 ++ 0#1 ++ r.extractLsb' 0 3
  else if r.extractLsb' 3 2 = 2#2 then cwp ++ 1#1 ++ r.extractLsb' 0 3
  else cwp ++ 0#1 ++ r.extractLsb' 0 3

/-- Read R[r]; R[0] is 0 (10_state.md R22). -/
def State.readR (s : State) (r : RegField) : Word :=
  if r = 0#5 then 0#64
  else if r.toNat < 8 then s.globals.get (globalIndex s.gl r)
  else s.windows.get (windowIndex s.win.cwp r).toFin

/-- Write R[r]; a write of R[0] does nothing (10_state.md R22). -/
def State.writeR (s : State) (r : RegField) (v : Word) : State :=
  if r = 0#5 then s
  else if r.toNat < 8 then
    { s with globals := s.globals.set (globalIndex s.gl r).val v (globalIndex s.gl r).isLt }
  else
    { s with windows := s.windows.set (windowIndex s.win.cwp r).toFin.val v (windowIndex s.win.cwp r).toFin.isLt }

/-- The register after r in an even-odd pair (10_state.md R25). -/
def pairOdd (r : RegField) : RegField := r ||| 1#5

/-- Write an even-odd pair; with r = 0 only R[1] is written (42_loadstore.md R590). -/
def State.writePair (s : State) (r : RegField) (even odd : Word) : State := (s.writeR r even).writeR (pairOdd r) odd

/-! ## F registers (10_state.md R70 to R72, R108) -/

/-- FS[f]: F[f], f = 0 to 31. -/
def State.readFS (s : State) (f : RegField) : HWord := s.fregs.get (0#1 ++ f).toFin

/-- The upper half's index of the double register that the field f names: b4 b3 b2 b1 b5 (10_state.md R72). -/
def doubleHi (f : RegField) : BitVec 6 := f.extractLsb' 0 1 ++ f.extractLsb' 1 4 ++ 0#1

/-- The lower half's index of the double register that the field f names. -/
def doubleLo (f : RegField) : BitVec 6 := f.extractLsb' 0 1 ++ f.extractLsb' 1 4 ++ 1#1

/-- FD[dreg(f)]: F[n] :: F[n + 1] (10_state.md R71). -/
def State.readFD (s : State) (f : RegField) : Word :=
  s.fregs.get (doubleHi f).toFin ++ s.fregs.get (doubleLo f).toFin

/-- Mark the lower half dirty (10_state.md R108). -/
def State.markLower (s : State) : State := { s with fprs := { s.fprs with dl := true } }

/-- Mark the half that holds the double (or quad) register of field f (10_state.md R108). -/
def State.markDouble (s : State) (f : RegField) : State :=
  if f.getLsbD 0 then { s with fprs := { s.fprs with du := true } } else s.markLower

/-- Write FS[f] and mark its half dirty. -/
def State.writeFS (s : State) (f : RegField) (v : HWord) : State :=
  { s with fregs := s.fregs.set (0#1 ++ f).toFin.val v (0#1 ++ f).toFin.isLt }.markLower

/-- Write FD[dreg(f)] and mark its half dirty. -/
def State.writeFD (s : State) (f : RegField) (v : Word) : State :=
  { s with
    fregs :=
      (s.fregs.set (doubleHi f).toFin.val (v.extractLsb' 32 32) (doubleHi f).toFin.isLt).set (doubleLo f).toFin.val
        (v.extractLsb' 0 32) (doubleLo f).toFin.isLt }.markDouble f

/-- FPRS.fef and PSTATE.pef both 1 (45_fp.md R800). -/
def State.fpEnabled (s : State) : Bool := s.fprs.fef && s.pstate.pef

/-! ## Free values -/

/-- The free value the next draw gives (log 4). -/
def State.freeWord (s : State) : Word := Config.freeValue s.freeCount

/-- The state after one draw. -/
def State.drawn (s : State) : State := { s with freeCount := s.freeCount + 1 }

/-! ## Memory (20_memory.md R1300 to R1304) -/

/-- What a byte that is not listed reads as (log 2, DESIGN CHOICE). -/
def Memory.unlisted : Byte := 0#8

/-- One byte. -/
def Memory.read : List Host.Cell → Nat → Byte
  | [], _ => Memory.unlisted
  | c :: rest, a => if c.1 = a then c.2 else Memory.read rest a

/-- Write one byte, keeping the canonical form. -/
def Memory.write : List Host.Cell → Nat → Byte → List Host.Cell
  | [], a, v => if v = Memory.unlisted then [] else [(a, v)]
  | c :: rest, a, v =>
    if a < c.1 then (if v = Memory.unlisted then c :: rest else (a, v) :: c :: rest)
    else if a = c.1 then (if v = Memory.unlisted then rest else (a, v) :: rest)
    else c :: Memory.write rest a v

/-- The canonical form: addresses strictly rising, no cell equal to what an unlisted address reads as. -/
abbrev Memory.wf (m : List Host.Cell) : Prop :=
  m.Pairwise (fun c d => c.1 < d.1) ∧ ∀ c ∈ m, c.2 ≠ Memory.unlisted

/-- n bytes from address a upward. -/
def Memory.readBytes (m : List Host.Cell) (a : Nat) : Nat → List Byte
  | 0 => []
  | n + 1 => Memory.read m a :: Memory.readBytes m (a + 1) n

/-- Write bytes from address a upward. -/
def Memory.writeBytes (m : List Host.Cell) (a : Nat) : List Byte → List Host.Cell
  | [] => m
  | b :: bs => Memory.writeBytes (Memory.write m a b) (a + 1) bs

/-- The value whose most significant byte comes first. -/
def wordOfBytes (bs : List Byte) : Word := bs.foldl (fun acc b => (acc <<< 8) ||| b.setWidth 64) 0#64

/-- The n low bytes of a value, most significant first. -/
def bytesOfWord (v : Word) : Nat → List Byte
  | 0 => []
  | n + 1 => v.extractLsb' (8 * n) 8 :: bytesOfWord v n

/-- Bytes in the order memory holds them: big-endian, or reversed when little-endian (20_memory.md R1303, R1304). -/
def endianOrder (little : Bool) (bs : List Byte) : List Byte := if little then bs.reverse else bs

/-- The value of n bytes at a, n at most 8, zero-extended. -/
def Memory.readInt (m : List Host.Cell) (a n : Nat) (little : Bool) : Word :=
  wordOfBytes (endianOrder little (Memory.readBytes m a n))

/-- Store the n low bytes of v at a. -/
def Memory.writeInt (m : List Host.Cell) (a n : Nat) (little : Bool) (v : Word) : List Host.Cell :=
  Memory.writeBytes m a (endianOrder little (bytesOfWord v n))

/-! ## Status registers as words -/

/-- PSTATE as its 13 bits (11_state_privileged.md R180). -/
def PState.bits (p : PState) : BitVec 13 :=
  BitVec.ofBool p.tct ++ 0#2 ++ BitVec.ofBool p.cle ++ BitVec.ofBool p.tle ++ 0#3 ++ BitVec.ofBool p.pef ++
    BitVec.ofBool p.am ++ BitVec.ofBool p.priv ++ BitVec.ofBool p.ie ++ 0#1

/-- PSTATE from 13 bits; reserved bits and mm are dropped (11_state_privileged.md R180, D32). -/
def PState.ofBits (b : BitVec 13) : PState where
  tct := b.getLsbD 12
  cle := b.getLsbD 9
  tle := b.getLsbD 8
  pef := b.getLsbD 4
  am := b.getLsbD 3
  priv := b.getLsbD 2
  ie := b.getLsbD 1

/-- HPSTATE bits 10:0 (11_state_privileged.md R201). -/
def HPState.bits (h : HPState) : BitVec 11 :=
  BitVec.ofBool h.ibe ++ 0#4 ++ BitVec.ofBool h.red ++ 0#2 ++ BitVec.ofBool h.hpriv ++ 0#1 ++ BitVec.ofBool h.tlz

/-- HPSTATE from bits 10:0; reserved bits are dropped (11_state_privileged.md R201). -/
def HPState.ofBits (b : BitVec 11) : HPState where
  ibe := b.getLsbD 10
  red := b.getLsbD 5
  hpriv := b.getLsbD 2
  tlz := b.getLsbD 0

/-! ## Exceptions (60_exceptions.md R1005) -/

/-- The exceptions and interrupt requests the machine raises; resets are separate. `other` and `n` are the spill and fill
vectors of 60_exceptions.md R1025. -/
inductive Exc where
  | storeError
  | internalProcessorError
  | trapLevelZero
  | instructionRealTranslationMiss
  | fastInstructionAccessMMUMiss
  | instructionAccessException
  | instructionAccessError
  | instructionBreakpoint
  | illegalInstruction
  | privilegedOpcode
  | fpDisabled
  | spill (other : Bool) (n : BitVec 3)
  | fill (other : Bool) (n : BitVec 3)
  | cleanWindow
  | lddfMemAddressNotAligned
  | stdfMemAddressNotAligned
  | memAddressNotAligned
  | fpExceptionOther
  | fpExceptionIeee754
  | privilegedAction
  | vaWatchpoint
  | dataAccessException
  | dataRealTranslationMiss
  | fastDataAccessMMUMiss
  | fastDataAccessProtection
  | paWatchpoint
  | dataAccessError
  | tagOverflow
  | divisionByZero
  | hstickMatch
  | trapInstruction (n : BitVec 8)
  | htrapInstruction (n : BitVec 8)
  | cpuMondo
  | devMondo
  | interruptLevel (n : BitVec 4)
  | resumableError
  deriving DecidableEq, Repr

/-- The trap type of an exception (60_exceptions.md R1005, R1025). -/
def Exc.tt : Exc → TrapType
  | .storeError => 0x007#9
  | .internalProcessorError => 0x029#9
  | .trapLevelZero => 0x05F#9
  | .instructionRealTranslationMiss => 0x03E#9
  | .fastInstructionAccessMMUMiss => 0x064#9
  | .instructionAccessException => 0x008#9
  | .instructionAccessError => 0x00A#9
  | .instructionBreakpoint => 0x076#9
  | .illegalInstruction => 0x010#9
  | .privilegedOpcode => 0x011#9
  | .fpDisabled => 0x020#9
  | .spill other n => 0b010#3 ++ BitVec.ofBool other ++ n ++ 0#2
  | .fill other n => 0b011#3 ++ BitVec.ofBool other ++ n ++ 0#2
  | .cleanWindow => 0x024#9
  | .lddfMemAddressNotAligned => 0x035#9
  | .stdfMemAddressNotAligned => 0x036#9
  | .memAddressNotAligned => 0x034#9
  | .fpExceptionOther => 0x022#9
  | .fpExceptionIeee754 => 0x021#9
  | .privilegedAction => 0x037#9
  | .vaWatchpoint => 0x062#9
  | .dataAccessException => 0x030#9
  | .dataRealTranslationMiss => 0x03F#9
  | .fastDataAccessMMUMiss => 0x068#9
  | .fastDataAccessProtection => 0x06C#9
  | .paWatchpoint => 0x061#9
  | .dataAccessError => 0x032#9
  | .tagOverflow => 0x023#9
  | .divisionByZero => 0x028#9
  | .hstickMatch => 0x05E#9
  | .trapInstruction n => 1#1 ++ n
  | .htrapInstruction n => 1#1 ++ n
  | .cpuMondo => 0x07C#9
  | .devMondo => 0x07D#9
  | .interruptLevel n => 0x04#5 ++ n
  | .resumableError => 0x07E#9

/-- The priority of an exception in thousandths, the lower number the higher priority (60_exceptions.md R1005); that of
internal_processor_error is the implementation's (62_exception_list.md R1126). -/
def Exc.priority : Exc → Nat
  | .storeError => 2010
  | .internalProcessorError => Config.ipePriority
  | .trapLevelZero => 2020
  | .instructionRealTranslationMiss | .fastInstructionAccessMMUMiss => 2080
  | .instructionAccessException => 3000
  | .instructionAccessError => 4000
  | .instructionBreakpoint => 6100
  | .illegalInstruction => 6200
  | .privilegedOpcode => 7000
  | .fpDisabled => 8000
  | .spill _ _ | .fill _ _ => 9000
  | .cleanWindow | .lddfMemAddressNotAligned | .stdfMemAddressNotAligned => 10100
  | .memAddressNotAligned => 10200
  | .fpExceptionOther | .fpExceptionIeee754 | .privilegedAction => 11100
  | .vaWatchpoint => 11200
  | .dataAccessException => 12010
  | .dataRealTranslationMiss | .fastDataAccessMMUMiss => 12030
  | .fastDataAccessProtection => 12070
  | .paWatchpoint => 12090
  | .dataAccessError => 12100
  | .tagOverflow => 14000
  | .divisionByZero => 15000
  | .hstickMatch => 16010
  | .trapInstruction _ | .htrapInstruction _ => 16020
  | .cpuMondo => 16080
  | .devMondo => 16110
  | .interruptLevel n => (32 - n.toNat) * 1000
  | .resumableError => 33300

/-- The rows of 60_exceptions.md R1005 with P in the NP and Priv columns (privileged_opcode in NP only); every exception
detected in hyperprivileged mode is delivered there. -/
def Exc.privilegedRow : Exc → Bool
  | .privilegedOpcode | .fpDisabled | .spill _ _ | .fill _ _ | .cleanWindow | .fpExceptionOther | .fpExceptionIeee754
  | .vaWatchpoint | .tagOverflow | .divisionByZero | .trapInstruction _ | .cpuMondo | .devMondo | .interruptLevel _
  | .resumableError => true
  | .storeError | .internalProcessorError | .trapLevelZero | .instructionRealTranslationMiss
  | .fastInstructionAccessMMUMiss | .instructionAccessException | .instructionAccessError | .instructionBreakpoint
  | .illegalInstruction | .lddfMemAddressNotAligned | .stdfMemAddressNotAligned | .memAddressNotAligned
  | .privilegedAction | .dataAccessException | .dataRealTranslationMiss | .fastDataAccessMMUMiss
  | .fastDataAccessProtection | .paWatchpoint | .dataAccessError | .hstickMatch | .htrapInstruction _ => false

/-- Destination(exc, mode) = P (60_exceptions.md R1003). -/
def Exc.toPrivileged (e : Exc) (m : Mode) : Bool := e.privilegedRow && m ≠ .hyperprivileged

/-! ## Taking a trap (60_exceptions.md R1040 to R1047, R1051) -/

/-- The trap level above tl, at most MAXTL. -/
def nextLevel (tl : Fin 7) : Fin 7 := ⟨min (tl.val + 1) 6, by omega⟩

/-- Where level n (n ≥ 1) of the trap stack is kept. -/
def trapIndex (n : Fin 7) : Fin 6 := ⟨n.val - 1, by omega⟩

/-- The trap-stack entry of the current trap level (11_state_privileged.md R220). -/
def State.trapEntry (s : State) : TrapEntry := s.traps.get (trapIndex s.tl)

/-- Replace the trap-stack entry of the current trap level. -/
def State.setTrapEntry (s : State) (e : TrapEntry) : State :=
  { s with traps := s.traps.set (trapIndex s.tl).val e (trapIndex s.tl).isLt }

/-- min(GL + 1, limit) (60_exceptions.md R1040), limit at most MAXGL. -/
def nextGlobalLevel (gl : Fin 4) (limit : Nat) : Fin 4 := ⟨min (min (gl.val + 1) limit) 3, by omega⟩

/-- What SaveTrapState() and TT[TL] <- tt put into the trap stack (60_exceptions.md R1040). -/
def State.savedTrap (s : State) (tt : TrapType) : TrapEntry where
  tpc := s.amMask s.pc
  tnpc := s.amMask s.npc
  tstate :=
    { gl := BitVec.ofNat 3 s.gl.val, ccr := s.ccr, asi := s.asi, pstate := s.pstate.bits,
      cwp := s.win.cwp.setWidth 5 }
  tt := tt
  htstate := s.hpstate.bits

/-- WindowTrapCWP(tt) (60_exceptions.md R1051). -/
def windowTrapCwp (tt : TrapType) (w : WindowRegs) : BitVec 3 :=
  if tt = 0x024#9 then windowAdd w.cwp 1
  else if 0x080 ≤ tt.toNat ∧ tt.toNat ≤ 0x0BF then windowAdd w.cwp (w.cansave.toNat + 2)
  else if 0x0C0 ≤ tt.toNat ∧ tt.toNat ≤ 0x0FF then windowAdd w.cwp (Config.nRegWindows - 1)
  else w.cwp

/-- RedPstate(tle unchanged) (60_exceptions.md R1041). -/
def redPState (p : PState) : PState :=
  { tct := false, cle := false, tle := p.tle, pef := true, am := false, priv := false, ie := false }

/-- RedVector(offset) (60_exceptions.md R1023). -/
def redVector (offset : BitVec 8) : Word := Config.rstvaddr.extractLsb' 8 56 ++ offset

/-- PrivVector (60_exceptions.md R1020): TBA{63:15}, TL before the trap greater than 0, tt, 00000. -/
def privVector (tba : BitVec 49) (nested : Bool) (tt : TrapType) : Word := tba ++ BitVec.ofBool nested ++ tt ++ 0#5

/-- HyperVector (60_exceptions.md R1022). -/
def hyperVector (htba : BitVec 50) (tt : TrapType) : Word := htba ++ tt ++ 0#5

/-- GuestWatchdogVector() (60_exceptions.md R1022). -/
def guestWatchdogVector (htba : BitVec 50) : Word := htba ++ 0x040#14

/-- The changes common to every trap into RED_state (60_exceptions.md R1041 to R1046): trap state saved at `level`, then
GL, PSTATE, HPSTATE, the MMU enables, CWP and the program counters. -/
def State.enterRed (s : State) (level : Fin 7) (tt : TrapType) (cwp : BitVec 3) (tlz : Bool) (offset : BitVec 8) :
    State :=
  { s with
    tl := level
    traps := s.traps.set (trapIndex level).val (s.savedTrap tt) (trapIndex level).isLt
    gl := nextGlobalLevel s.gl Config.maxGL
    pstate := redPState s.pstate
    hpstate := { ibe := false, red := true, hpriv := true, tlz := tlz }
    win := { s.win with cwp := cwp }
    mmu := { s.mmu with immuEnable := false, dmmuEnable := false }
    pc := redVector offset
    npc := redVector offset + 4#64 }

/-- NormalTrap(exc) (60_exceptions.md R1040). -/
def State.normalTrap (s : State) (e : Exc) : State :=
  let toP := e.toPrivileged s.mode
  let gw := toP && decide (Config.maxPTL ≤ s.tl.val)
  let inP := toP && !gw
  let vector :=
    if inP then privVector s.tba (decide (0 < s.tl.val)) e.tt
    else if gw then guestWatchdogVector s.htba
    else hyperVector s.htba e.tt
  { s with
    tl := nextLevel s.tl
    traps := s.traps.set (trapIndex (nextLevel s.tl)).val (s.savedTrap e.tt) (trapIndex (nextLevel s.tl)).isLt
    gl := nextGlobalLevel s.gl (if inP then Config.maxPGL else Config.maxGL)
    pstate :=
      { tct := false, cle := inP && s.pstate.tle, tle := s.pstate.tle, pef := true, am := false, priv := inP,
        ie := false }
    hpstate := if inP then s.hpstate else { ibe := false, red := false, hpriv := true, tlz := s.hpstate.tlz }
    win := { s.win with cwp := windowTrapCwp e.tt s.win }
    pc := vector
    npc := vector + 4#64 }

/-- TakeTrap(exc) (60_exceptions.md R1040): error_state at MAXTL (R1047), RED_state processing in RED_state (R1046) and at
MAXTL - 1 (R1041), else a normal trap. -/
def takeTrap (e : Exc) (s : State) : State :=
  if s.tl.val = Config.maxTL then { s with errorState := some e.tt }
  else if s.hpstate.red then s.enterRed (nextLevel s.tl) e.tt (windowTrapCwp e.tt s.win) s.hpstate.tlz 0xA0#8
  else if s.tl.val + 1 = Config.maxTL then
    s.enterRed (nextLevel s.tl) e.tt (windowTrapCwp e.tt s.win) false 0xA0#8
  else s.normalTrap e

/-- An injected internal_processor_error that an implementation ranks below trap_level_zero, so that it competes with what the
instruction raises (62_exception_list.md R1126); never at the default IPE_PRIORITY. -/
def State.lateIpe (s : State) : Bool :=
  decide (Exc.trapLevelZero.priority ≤ Config.ipePriority) && s.requests.internalProcessorError

/-- The state in which an instruction's exception of this priority is taken: that it comes before a pending
internal_processor_error is noted in the request, which `settleIpe` reads and puts back. -/
def State.outrankIpe (s : State) (priority : Nat) : State :=
  if s.lateIpe && decide (priority ≤ Config.ipePriority) then
    { s with requests := { s.requests with internalProcessorError := false } }
  else s

/-- Take an exception that the instruction at pc raises. -/
def State.trapOf (s : State) (e : Exc) : State := takeTrap e (s.outrankIpe e.priority)

/-- What a meaning answers when its instruction raises an exception. -/
def raise (e : Exc) (s : State) : Result := .next (s.trapOf e)

/-! ## The shared CMT registers (61_interrupts_cmt.md R1210 to R1240) -/

/-- STRAND_ENABLE: with one strand the constant of 61_interrupts_cmt.md R1240. -/
def State.strandEnable (s : State) : Word := if 1 < Config.nStrands then s.cmt.strandEnable else Config.strandAvailable

/-- STRAND_ENABLE_STATUS (61_interrupts_cmt.md R1211, R1240). -/
def State.strandEnableStatus (s : State) : Word :=
  if 1 < Config.nStrands then s.cmt.strandEnableStatus else Config.strandAvailable

/-- XIR_STEERING: where it is read-only, 1 for each available strand (61_interrupts_cmt.md R1235). -/
def State.xirSteering (s : State) : Word :=
  if Config.xirSteeringWritable then s.cmt.xirSteering else Config.strandAvailable

/-- The shared CMT registers after a warm reset: STRAND_ENABLE takes effect (61_interrupts_cmt.md R1230). -/
def State.warmCmt (s : State) : Cmt :=
  { s.cmt with
    strandEnableStatus := if 1 < Config.nStrands then s.strandEnable else s.cmt.strandEnableStatus
    xirSteering := if Config.xirSteeringWritable then s.strandEnable else s.cmt.xirSteering }

/-! ## Resets (60_exceptions.md R1042 to R1045, 70_reset_and_hazards.md R1253) -/

/-- PowerOnReset(): every register at its reset value; memory is external and keeps its contents. -/
def State.powerOnReset (s : State) : State := { State.reset with mem := s.mem, freeCount := s.freeCount }

/-- WarmReset() (70_reset_and_hazards.md R1253, D56). Whether a request the host has pending survives it the spec does not
say: a pending XIR is dropped, a pending injected error stays (log 30, DESIGN CHOICE). -/
def State.warmReset (s : State) : State :=
  let r := s.enterRed ⟨Config.maxTL, by decide⟩ 0x001#9 s.win.cwp false 0x20#8
  { r with
    traps :=
      if Config.wmrSavesTrapState then r.traps else s.traps.set (Config.maxTL - 1) { s.traps.get ⟨Config.maxTL - 1, by decide⟩ with tt := 0x001#9 } (by decide)
    gl := ⟨Config.maxGL, by decide⟩
    tick := { s.tick with npt := true }
    cmt := s.warmCmt
    errorState := none
    requests := { s.requests with wmr := false, xir := false } }

/-- ExternallyInitiatedReset() (60_exceptions.md R1044); in error_state TT is that of the trap that caused it (R1023). -/
def State.xirReset (s : State) : State :=
  let s' := { s with requests := { s.requests with xir := false } }
  if s.tl.val = Config.maxTL ∧ Config.xirAtMaxTLErrorState = true then { s' with errorState := some 0x003#9 }
  else { s'.enterRed (nextLevel s.tl) (s.errorState.getD 0x003#9) s.win.cwp false 0x60#8 with errorState := none }

/-- WatchdogReset() out of error_state (60_exceptions.md R1043). -/
def State.watchdogReset (s : State) (ttErr : TrapType) : State :=
  { s.enterRed (nextLevel s.tl) ttErr (windowTrapCwp ttErr s.win) false 0x40#8 with errorState := none }

/-- SoftwareInitiatedReset() (60_exceptions.md R1045). -/
def State.softwareReset (s : State) : State :=
  if s.tl.val = Config.maxTL then { s with errorState := some 0x004#9 }
  else s.enterRed (nextLevel s.tl) 0x004#9 s.win.cwp false 0x80#8

/-! ## Return from a trap (60_exceptions.md R1060) -/

/-- The GL value that DONE and RETRY restore: at most MAXGL, and at most MAXPGL when executed in privileged mode towards
hpriv = 0. -/
def State.restoredGl (s : State) : Fin 4 :=
  let g := s.trapEntry.tstate.gl.toNat
  let g' :=
    if !s.hpstate.hpriv && s.pstate.priv && !(HPState.ofBits s.trapEntry.htstate).hpriv then min g Config.maxPGL
    else g
  ⟨min g' 3, by omega⟩

/-- ReturnFromTrapRestore(TL). -/
def State.returnFromTrapRestore (s : State) : State :=
  { s with
    gl := s.restoredGl
    ccr := s.trapEntry.tstate.ccr
    asi := s.trapEntry.tstate.asi
    pstate := PState.ofBits s.trapEntry.tstate.pstate
    win := { s.win with cwp := s.trapEntry.tstate.cwp.setWidth 3 }
    hpstate := HPState.ofBits s.trapEntry.htstate }

/-- The trap level below tl. -/
def prevLevel (tl : Fin 7) : Fin 7 := ⟨tl.val - 1, by omega⟩

/-- DONE's transfer (41_control.md R518): pc <- TNPC, npc <- TNPC + 4, TL <- TL - 1. -/
def State.returnDone (s : State) : State :=
  { s.returnFromTrapRestore with
    pc := s.trapEntry.tnpc, npc := s.trapEntry.tnpc + 4#64, tl := prevLevel s.tl }

/-- RETRY's transfer (41_control.md R527): pc <- TPC, npc <- TNPC, TL <- TL - 1. -/
def State.returnRetry (s : State) : State :=
  { s.returnFromTrapRestore with pc := s.trapEntry.tpc, npc := s.trapEntry.tnpc, tl := prevLevel s.tl }

/-! ## How an instruction ends (30_encoding.md R305, 42_loadstore.md R561) -/

/-- The instruction is done: advance the program counters. -/
def complete (s : State) : Result := .next s.advance

/-- Replace CCR. -/
def State.setCcr (s : State) (c : BitVec 8) : State := { s with ccr := c }

/-- Replace Y. -/
def State.setY (s : State) (y : BitVec 32) : State := { s with y := y }

/-- R[rd] gets the result, then advance. -/
def writeBack (s : State) (rd : RegField) (v : Word) : Result := complete (s.writeR rd v)

/-- R[rd] gets the result and CCR the codes, then advance. -/
def writeBackCC (s : State) (rd : RegField) (v : Word) (c : BitVec 8) : Result :=
  complete ((s.writeR rd v).setCcr c)

/-- FpCheck() of an instruction without an F-register destination (45_fp.md R800). -/
def withFp (s : State) (k : Result) : Result := if s.fpEnabled then k else raise .fpDisabled s

/-- FpCheck() of an instruction that writes F registers: fp_disabled leaves the destination's dirty bit set (45_fp.md
R800); `mark` sets it. -/
def withFpDest (s : State) (mark : State → State) (k : Result) : Result :=
  if s.fpEnabled then k else raise .fpDisabled (mark s)

end Sys2Proof.Machine
end

