-- ==== Sys2Proof/Machine/Operands.lean ====
section
/-!
DEFINITION. Every operand form: what the second operand, a shift count, an effective address, an address space and a
branch target are (30_encoding.md R310 to R317, 42_loadstore.md R560, 41_control.md R504).
-/

namespace Sys2Proof.Machine

/-- The second operand: R[rs2], or the immediate sign-extended to 64 bits (30_encoding.md R310). -/
def op2Value {n : Nat} (s : State) : RegOrImm n → Word
  | .reg rs2 => s.readR rs2
  | .imm v => v.signExtend 64

/-- The shift count of a 32-bit shift, 0 to 31 (40_integer.md R448). -/
def shift32Count (s : State) : Shift32 → Nat
  | .reg rs2 => ((s.readR rs2).extractLsb' 0 5).toNat
  | .imm v => v.toNat

/-- The shift count of a 64-bit shift, 0 to 63 (40_integer.md R448). -/
def shift64Count (s : State) : Shift64 → Nat
  | .reg rs2 => ((s.readR rs2).extractLsb' 0 6).toNat
  | .imm v => v.toNat

/-- The sum that gives Tcc its software trap number; imm_trap_# is unsigned (41_control.md R529, D18). -/
def trapSum (s : State) (rs1 : RegField) : Op2x8 → Word
  | .reg rs2 => s.readR rs1 + s.readR rs2
  | .imm v => s.readR rs1 + v.setWidth 64

/-- The effective address of a non-alternate access, JMPL and RETURN (42_loadstore.md R560). -/
def effAddr (s : State) (rs1 : RegField) (o : Op2) : Word := s.readR rs1 + op2Value s o

/-- The effective address of an alternate access (42_loadstore.md R560). -/
def effAddrA (s : State) (rs1 : RegField) : AsiOp2 → Word
  | .reg _ rs2 => s.readR rs1 + s.readR rs2
  | .imm simm13 => s.readR rs1 + simm13.signExtend 64

/-- The address space of an alternate access: imm_asi, or the ASI register (20_memory.md R1307). -/
def asiOf (s : State) : AsiOp2 → BitVec 8
  | .reg asi _ => asi
  | .imm _ => s.asi

/-- The address space of CASA and CASXA (42_loadstore.md R610). -/
def casAsiOf (s : State) : CasAsi → BitVec 8
  | .immAsi asi => asi
  | .asiReg => s.asi

/-- pc + 4 * displacement, modulo 2^64 (41_control.md R504). -/
def branchTarget {n : Nat} (s : State) (disp : BitVec n) : Word := s.pc + ((disp.signExtend 64) <<< 2)

/-- The condition codes a selector names, as n z v c (10_state.md R102). -/
def intCC (s : State) : IntCC → BitVec 4
  | .icc => s.ccr.extractLsb' 0 4
  | .xcc => s.ccr.extractLsb' 4 4

/-- FSR.fcc0 to fcc3 (10_state.md R80). -/
def fccOf (s : State) (n : FccSel) : BitVec 2 :=
  if n = 0#2 then s.fsr.fcc0 else if n = 1#2 then s.fsr.fcc1 else if n = 2#2 then s.fsr.fcc2 else s.fsr.fcc3

/-- Write one of FSR.fcc0 to fcc3 (10_state.md R80). -/
def setFcc (s : State) (n : FccSel) (v : BitVec 2) : State :=
  if n = 0#2 then { s with fsr := { s.fsr with fcc0 := v } }
  else if n = 1#2 then { s with fsr := { s.fsr with fcc1 := v } }
  else if n = 2#2 then { s with fsr := { s.fsr with fcc2 := v } }
  else { s with fsr := { s.fsr with fcc3 := v } }

/-- IccTest(cond, cc), cc as n z v c (41_control.md R501). -/
def iccTest (cond : BitVec 4) (cc : BitVec 4) : Bool :=
  let n := cc.getLsbD 3
  let z := cc.getLsbD 2
  let v := cc.getLsbD 1
  let c := cc.getLsbD 0
  let base :=
    match cond.extractLsb' 0 3 with
    | 0#3 => false
    | 1#3 => z
    | 2#3 => z || (n ^^ v)
    | 3#3 => n ^^ v
    | 4#3 => c || z
    | 5#3 => c
    | 6#3 => n
    | _ => v
  if cond.getLsbD 3 then !base else base

/-- FccTest(cond, fcc), fcc: 0 equal, 1 less, 2 greater, 3 unordered (41_control.md R502). -/
def fccTest (cond : BitVec 4) (fcc : BitVec 2) : Bool :=
  let e := fcc = 0#2
  let l := fcc = 1#2
  let g := fcc = 2#2
  let u := fcc = 3#2
  match cond with
  | 0b0000#4 => false
  | 0b0001#4 => l ∨ g ∨ u
  | 0b0010#4 => l ∨ g
  | 0b0011#4 => l ∨ u
  | 0b0100#4 => l
  | 0b0101#4 => g ∨ u
  | 0b0110#4 => g
  | 0b0111#4 => u
  | 0b1000#4 => true
  | 0b1001#4 => e
  | 0b1010#4 => e ∨ u
  | 0b1011#4 => e ∨ g
  | 0b1100#4 => e ∨ g ∨ u
  | 0b1101#4 => e ∨ l
  | 0b1110#4 => e ∨ l ∨ u
  | _ => e ∨ l ∨ g

/-- RegTest(rcond, v) for the six rcond values that exist (41_control.md R503); the reserved 000 and 100 are false. -/
def regTest (rcond : BitVec 3) (v : Word) : Bool :=
  let n := v.getLsbD 63
  let z := v = 0#64
  match rcond with
  | 0b001#3 => z
  | 0b010#3 => n || z
  | 0b011#3 => n
  | 0b101#3 => !z
  | 0b110#3 => !(n || z)
  | 0b111#3 => !n
  | _ => false

end Sys2Proof.Machine
end

