-- ==== Sys2Proof/Machine/Asi.lean ====
section
/-!
DEFINITION. The address space identifiers: what each ASI translates, its byte order, its privilege and which instructions
may use it (21_asi.md R1400 to R1417, 20_memory.md R1305 to R1308).
-/

namespace Sys2Proof.Machine

/-- The context a virtual access is translated in (22_mmu.md R1451). -/
inductive Context where
  | primary
  | secondary
  | nucleus
  deriving DecidableEq, Repr

/-- What an ASI does with the address (21_asi.md R1401). -/
inductive AsiKind where
  | virtualAddr (ctx : Context)
  | realAddr
  | register
  deriving DecidableEq, Repr

/-- Which instructions may use an ASI (21_asi.md R1403). -/
inductive AsiClass where
  | all
  | noAtomic
  | loadOnly
  | xOnly
  | twinX
  | block
  deriving DecidableEq, Repr

/-- What an instruction is to AsiLegalFor (21_asi.md R1403): a load or store of an integer or a single, LDXA and STXA, LDTXA,
a double F load or store, a block transfer, an atomic. -/
inductive InstrClass where
  | load
  | loadX
  | loadTwinX
  | loadD
  | loadBlock
  | store
  | storeX
  | storeD
  | storeBlock
  | atomic
  deriving DecidableEq, Repr

/-- Does the class write memory (22_mmu.md R1461)? -/
def writesMemory : InstrClass → Bool
  | .store | .storeX | .storeD | .storeBlock | .atomic => true
  | .load | .loadX | .loadTwinX | .loadD | .loadBlock => false

/-- The ASIs that translate or reach a register, with their class (21_asi.md R1405, R1417); an ASI not listed is reserved,
implementation dependent, or of the short or partial kind that the hardware does not implement (D23, D34). -/
def asiTable (asi : BitVec 8) : Option (AsiKind × AsiClass) :=
  match asi.toNat with
  | 0x04 | 0x0C => some (.virtualAddr .nucleus, .all)
  | 0x10 | 0x18 => some (.virtualAddr .primary, .all)
  | 0x11 | 0x19 => some (.virtualAddr .secondary, .all)
  | 0x14 | 0x1C => some (.realAddr, .all)
  | 0x15 | 0x1D => some (.realAddr, .noAtomic)
  | 0x16 | 0x1E => some (.virtualAddr .primary, .block)
  | 0x17 | 0x1F => some (.virtualAddr .secondary, .block)
  | 0x20 | 0x21 | 0x25 | 0x41 | 0x4F | 0x50 | 0x58 | 0x63 => some (.register, .xOnly)
  | 0x22 | 0x2A => some (.virtualAddr .primary, .twinX)
  | 0x23 | 0x2B => some (.virtualAddr .secondary, .twinX)
  | 0x26 | 0x2E => some (.realAddr, .twinX)
  | 0x27 | 0x2F => some (.virtualAddr .nucleus, .twinX)
  | 0x30 | 0x38 => some (.virtualAddr .primary, .all)
  | 0x31 | 0x39 => some (.virtualAddr .secondary, .all)
  | 0x36 | 0x3E => some (.virtualAddr .nucleus, .all)
  | 0x80 | 0x88 => some (.virtualAddr .primary, .all)
  | 0x81 | 0x89 => some (.virtualAddr .secondary, .all)
  | 0x82 | 0x8A => some (.virtualAddr .primary, .loadOnly)
  | 0x83 | 0x8B => some (.virtualAddr .secondary, .loadOnly)
  | 0xE2 | 0xEA => some (.virtualAddr .primary, .twinX)
  | 0xE3 | 0xEB => some (.virtualAddr .secondary, .twinX)
  | 0xF0 | 0xF8 => some (.virtualAddr .primary, .block)
  | 0xF1 | 0xF9 => some (.virtualAddr .secondary, .block)
  | _ => none

/-- AsiLegalFor(instr, asi) (21_asi.md R1403). -/
def asiLegalFor (i : InstrClass) (asi : BitVec 8) : Bool :=
  match asiTable asi, i with
  | some (_, .all), .loadTwinX | some (_, .all), .loadBlock | some (_, .all), .storeBlock => false
  | some (_, .all), _ => true
  | some (_, .noAtomic), .load | some (_, .noAtomic), .loadX | some (_, .noAtomic), .loadD
  | some (_, .noAtomic), .store | some (_, .noAtomic), .storeX | some (_, .noAtomic), .storeD => true
  | some (_, .loadOnly), .load | some (_, .loadOnly), .loadX | some (_, .loadOnly), .loadD => true
  | some (_, .xOnly), .loadX | some (_, .xOnly), .storeX => true
  | some (_, .twinX), .loadTwinX => true
  | some (_, .block), .loadBlock | some (_, .block), .storeBlock => true
  | _, _ => false

/-- The ASIs of 21_asi.md R1412 to R1416, for which an illegal pair raises data_access_exception before the alignment is
looked at (22_mmu.md R1450 step 2). -/
def isSpecialAsi (asi : BitVec 8) : Bool := isTwinAsi asi || isBlockAsi asi || isShortAsi asi || isPartialAsi asi

/-- The _LITTLE ASIs: bit 3 set, among the ASIs that translate (21_asi.md R1402, R1405). -/
def asiLittle (asi : BitVec 8) : Bool := asi.getLsbD 3

/-- The ASIs processed as if issued from nonprivileged mode (21_asi.md R1410, R1412). -/
def asIfUser (asi : BitVec 8) : Bool :=
  asi ∈ [0x10#8, 0x11#8, 0x16#8, 0x17#8, 0x18#8, 0x19#8, 0x1E#8, 0x1F#8, 0x22#8, 0x23#8, 0x2A#8, 0x2B#8]

/-- The AS_IF_USER ASIs to which TTE.ie does not apply in hyperprivileged mode (21_asi.md R1402). -/
def fixedOrderInHyper (asi : BitVec 8) : Bool :=
  asi ∈ [0x10#8, 0x11#8, 0x16#8, 0x17#8, 0x18#8, 0x19#8, 0x1E#8, 0x1F#8]

/-- The nonfaulting ASIs (20_memory.md R1325). -/
def isNoFaultAsi (asi : BitVec 8) : Bool := asi ∈ [0x82#8, 0x83#8, 0x8A#8, 0x8B#8]

/-- The twin-extended-word ASIs that use physical addresses in hyperprivileged mode (42_loadstore.md R592). -/
def physicalInHyper (asi : BitVec 8) : Bool := asi ∈ [0x27#8, 0x2F#8, 0xE2#8, 0xE3#8, 0xEA#8, 0xEB#8]

/-- AsiPrivCheck(asi) passes (20_memory.md R1308). -/
def asiPrivileged (m : Mode) (asi : BitVec 8) : Bool :=
  match m with
  | .nonprivileged => decide (0x80 ≤ asi.toNat)
  | .privileged => decide (asi.toNat < 0x30 ∨ 0x80 ≤ asi.toNat)
  | .hyperprivileged => true

end Sys2Proof.Machine
end

