-- ==== Sys2Proof/Machine/AsiRegs.lean ====
section
/-!
DEFINITION. The registers reached through the non-translating ASIs: scratchpads (21_asi.md R1420, R1421), interrupt
queues (61_interrupts_cmt.md R1180), MMU registers (22_mmu.md R1481 to R1484), CMT registers (61_interrupts_cmt.md
R1201, R1205, R1206, R1240). `none` is an address or a direction that raises data_access_exception (D36).
-/

namespace Sys2Proof.Machine

/-- The scratchpad register at a VA: 0x00, 0x08, …, 0x38 (21_asi.md R1420). -/
def scratchIndex (va : Word) : Option (Fin 8) :=
  if va.extractLsb' 6 58 = 0#58 ∧ va.extractLsb' 0 3 = 0#3 then some (va.extractLsb' 3 3).toFin else none

/-- A privileged scratchpad register: 4 to 7 only where the implementation has them in hardware (21_asi.md R1420). -/
def privScratchIndex (va : Word) : Option (Fin 8) :=
  (scratchIndex va).filter fun i => decide (i.val < 4 ∨ Config.scratchpad4to7 = .accessible)

/-- The bank ASI 0x4F reaches: its own, or the privileged one where the implementation aliases them (21_asi.md R1421). -/
def State.hyperBank (s : State) : Vector Word 8 :=
  if Config.hypScratchpadAliased then s.scratchpad else s.hyperScratchpad

/-- Replace the bank ASI 0x4F reaches. -/
def State.setHyperBank (s : State) (bank : Vector Word 8) : State :=
  if Config.hypScratchpadAliased then { s with scratchpad := bank } else { s with hyperScratchpad := bank }

/-- Read an ASI_QUEUE register (61_interrupts_cmt.md R1180). -/
def Queues.read (q : Queues) (va : Word) : Option Word :=
  match va.toNat with
  | 0x3C0 => some q.cpuMondoHead
  | 0x3C8 => some q.cpuMondoTail
  | 0x3D0 => some q.devMondoHead
  | 0x3D8 => some q.devMondoTail
  | 0x3E0 => some q.resumableHead
  | 0x3E8 => some q.resumableTail
  | 0x3F0 => some q.nonresumableHead
  | 0x3F8 => some q.nonresumableTail
  | _ => none

/-- Write an ASI_QUEUE register; `tails` says whether the tail registers are writable (61_interrupts_cmt.md R1180). -/
def Queues.write (q : Queues) (tails : Bool) (va v : Word) : Option Queues :=
  match va.toNat with
  | 0x3C0 => some { q with cpuMondoHead := v }
  | 0x3C8 => if tails then some { q with cpuMondoTail := v } else none
  | 0x3D0 => some { q with devMondoHead := v }
  | 0x3D8 => if tails then some { q with devMondoTail := v } else none
  | 0x3E0 => some { q with resumableHead := v }
  | 0x3E8 => if tails then some { q with resumableTail := v } else none
  | 0x3F0 => some { q with nonresumableHead := v }
  | 0x3F8 => if tails then some { q with nonresumableTail := v } else none
  | _ => none

/-- Read a shared CMT register: STRAND_AVAILABLE, STRAND_ENABLE_STATUS, STRAND_ENABLE, XIR_STEERING, and 1 for the one strand,
which runs; 0x60 and 0x68 are write-only (61_interrupts_cmt.md R1240, R1201, R1210). -/
def readCmtShared (s : State) (va : Word) : Option Word :=
  match va.toNat with
  | 0x00 => some Config.strandAvailable
  | 0x10 => some s.strandEnableStatus
  | 0x20 => some s.strandEnable
  | 0x30 => some s.xirSteering
  | 0x50 | 0x58 => some 1#64
  | _ => none

/-- Store to STRAND_ENABLE: ignored with one strand, and a store that would disable every strand where the implementation guards
against it; unavailable strands stay disabled (61_interrupts_cmt.md R1212, R1240). -/
def State.writeStrandEnable (s : State) (v : Word) : State :=
  if 1 < Config.nStrands ∧ ¬(Config.enableAllZeroGuard = true ∧ v &&& Config.strandAvailable = 0#64) then
    { s with cmt := { s.cmt with strandEnable := v &&& Config.strandAvailable } }
  else s

/-- Store to XIR_STEERING: ignored where it is read-only (61_interrupts_cmt.md R1235). -/
def State.writeXirSteering (s : State) (v : Word) : State :=
  if Config.xirSteeringWritable then { s with cmt := { s.cmt with xirSteering := v &&& Config.strandAvailable } } else s

/-- Write a shared CMT register; `none` for a read-only one. A store to STRAND_RUNNING changes nothing: the one strand cannot be
parked (61_interrupts_cmt.md R1221, R1222, R1240). -/
def writeCmtShared (s : State) (va v : Word) : Option State :=
  match va.toNat with
  | 0x20 => some (s.writeStrandEnable v)
  | 0x30 => some (s.writeXirSteering v)
  | 0x50 | 0x60 | 0x68 => some s
  | _ => none

/-- Read the register that an ASI and an address select. -/
def readAsiReg (s : State) (asi : BitVec 8) (va : Word) : Option Word :=
  match asi.toNat with
  | 0x20 => (privScratchIndex va).map s.scratchpad.get
  | 0x21 =>
    match va.toNat with
    | 0x08 => some (s.mmu.primaryContext.setWidth 64)
    | 0x10 => some (s.mmu.secondaryContext.setWidth 64)
    | _ => none
  | 0x25 => s.queues.read va
  | 0x41 => readCmtShared s va
  | 0x4F => (scratchIndex va).map s.hyperBank.get
  | 0x50 =>
    match va.toNat with
    | 0x18 => some s.mmu.isfsr
    | 0x30 => some s.mmu.itagAccess
    | _ => none
  | 0x58 =>
    match va.toNat with
    | 0x18 => some s.mmu.dsfsr
    | 0x20 => some s.mmu.dsfar
    | 0x30 => some s.mmu.dtagAccess
    | 0x80 => some (s.mmu.partitionId.setWidth 64)
    | _ => none
  | 0x63 =>
    match va.toNat with
    | 0x00 => some (s.strandIntrId.setWidth 64)
    | 0x10 => some 0#64
    | _ => none
  | _ => none

/-- Write the register that an ASI and an address select; `none` for a read-only or unlisted one. -/
def writeAsiReg (s : State) (asi : BitVec 8) (va v : Word) : Option State :=
  match asi.toNat with
  | 0x20 =>
    (privScratchIndex va).map fun i => { s with scratchpad := s.scratchpad.set i.val v i.isLt }
  | 0x21 =>
    match va.toNat with
    | 0x08 => some { s with mmu := { s.mmu with primaryContext := v.setWidth 16 } }
    | 0x10 => some { s with mmu := { s.mmu with secondaryContext := v.setWidth 16 } }
    | _ => none
  | 0x25 =>
    (s.queues.write (s.hpstate.hpriv || Config.queueTailPrivWritable) va v).map fun q => { s with queues := q }
  | 0x41 => writeCmtShared s va v
  | 0x4F =>
    (scratchIndex va).map fun i => s.setHyperBank (s.hyperBank.set i.val v i.isLt)
  | 0x50 =>
    match va.toNat with
    | 0x18 => some { s with mmu := { s.mmu with isfsr := v } }
    | 0x30 => some { s with mmu := { s.mmu with itagAccess := v } }
    | _ => none
  | 0x58 =>
    match va.toNat with
    | 0x18 => some { s with mmu := { s.mmu with dsfsr := v } }
    | 0x30 => some { s with mmu := { s.mmu with dtagAccess := v } }
    | 0x80 => some { s with mmu := { s.mmu with partitionId := implemented Config.pidBits (v.setWidth 8) } }
    | _ => none
  | 0x63 =>
    match va.toNat with
    | 0x00 => some { s with strandIntrId := implemented Config.intIdBits (v.setWidth 16) }
    | _ => none
  | _ => none

end Sys2Proof.Machine
end

