-- ==== Sys2Proof/Machine/Mmu.lean ====
section
/-!
DEFINITION. Address translation, the ordered checks of one data access, instruction fetch, and what a trap records in the
MMU (22_mmu.md R1450 to R1486).
-/

namespace Sys2Proof.Machine

/-! ## The TLB (22_mmu.md R1452 to R1455) -/

/-- log2 of the page size, for the sizes that exist (22_mmu.md R1454). -/
def pageBits (sz : BitVec 4) : Option Nat :=
  match sz with
  | 0b0000#4 => some 13
  | 0b0001#4 => some 16
  | 0b0011#4 => some 22
  | 0b0101#4 => if Config.page256M then some 28 else none
  | _ => none

/-- TTE data bit positions (22_mmu.md R1455). -/
def TlbEntry.valid (e : TlbEntry) : Bool := e.data.getLsbD 63
def TlbEntry.nfo (e : TlbEntry) : Bool := e.data.getLsbD 62
def TlbEntry.invertEndian (e : TlbEntry) : Bool := e.data.getLsbD 12
def TlbEntry.sideEffect (e : TlbEntry) : Bool := e.data.getLsbD 11
def TlbEntry.cacheable (e : TlbEntry) : Bool := e.data.getLsbD 10
def TlbEntry.privilegedPage (e : TlbEntry) : Bool := e.data.getLsbD 8
def TlbEntry.executable (e : TlbEntry) : Bool := e.data.getLsbD 7
def TlbEntry.writable (e : TlbEntry) : Bool := e.data.getLsbD 6
def TlbEntry.size (e : TlbEntry) : BitVec 4 := e.data.extractLsb' 0 4

/-- What kind of address an access presents (22_mmu.md R1451). -/
inductive AddrKind where
  | physical
  | real
  | virtualIn (ctx : Context)
  | register
  deriving DecidableEq, Repr

/-- ContextId (22_mmu.md R1452). -/
def contextId (m : MmuState) : Context → BitVec 16
  | .primary => m.primaryContext
  | .secondary => m.secondaryContext
  | .nucleus => 0#16

/-- Does an entry match an address of this kind (22_mmu.md R1452)? An entry with v = 0 or a reserved size never does. -/
def TlbEntry.matchesAddr (e : TlbEntry) (m : MmuState) (k : AddrKind) (a : Word) : Bool :=
  e.valid && e.pid == m.partitionId &&
    (match k with
      | .real => e.real
      | .virtualIn c => !e.real && e.ctx == contextId m c
      | .physical | .register => false) &&
    (match pageBits (TlbEntry.size e) with
      | some n => a.toNat / 2 ^ n == e.vpn.toNat / 2 ^ n
      | none => false)

/-- pa(e, addr): the page's address bits below PA_BITS and the offset (22_mmu.md R1452, R1471). -/
def TlbEntry.physicalAddr (e : TlbEntry) (a : Word) : Nat :=
  let n := (pageBits (TlbEntry.size e)).getD 13
  (e.data.extractLsb' 13 43).toNat * 8192 % 2 ^ Config.paBits / 2 ^ n * 2 ^ n + a.toNat % 2 ^ n

/-- The outcome of a TLB lookup. -/
inductive LookupResult where
  | miss
  | hit (e : TlbEntry)
  | multipleHit
  deriving DecidableEq, Repr

/-- Lookup(tlb, kind, addr) (22_mmu.md R1452). -/
def tlbLookup (tlb : List TlbEntry) (m : MmuState) (k : AddrKind) (a : Word) : LookupResult :=
  match tlb.filter (fun e => e.matchesAddr m k a) with
  | [] => .miss
  | [e] => .hit e
  | _ => .multipleHit

/-- The physical address of a bypass access: bits PA_BITS - 1 : 0 (22_mmu.md R1462, R1471). -/
def bypassAddr (a : Word) : Nat := a.toNat % 2 ^ Config.paBits

/-! ## One data access (22_mmu.md R1450) -/

/-- What an instruction asks of DataAccess: its class, the explicit ASI if it has one, the address, the size in bytes. -/
structure Access where
  cls : InstrClass
  asi : Option (BitVec 8)
  addr : Word
  size : Nat
  deriving DecidableEq, Repr

/-- The context of an implicit-ASI access, data or fetch: primary at TL = 0, nucleus above (20_memory.md R1306). -/
def State.implicitContext (s : State) : Context := if s.tl.val = 0 then .primary else .nucleus

/-- AddressKind of a data access (22_mmu.md R1451, R1462, R1463); a register ASI stays one in RED_state (log 12). With the DMMU
off a block ASI presents a real address as every virtual ASI does, so that data_real_translation_miss can be its exception, though
43_fp_loadstore.md R691 says that it cannot (log 33, DEDUCED). -/
def dataAddrKind (s : State) (asi : Option (BitVec 8)) : AddrKind :=
  match asi with
  | none =>
    if s.hpstate.red || s.hpstate.hpriv then .physical
    else if s.mmu.dmmuEnable then .virtualIn s.implicitContext
    else .real
  | some a =>
    match asiTable a with
    | some (.register, _) => .register
    | some (.realAddr, _) => if s.hpstate.red then .physical else .real
    | some (.virtualAddr c, _) =>
      if s.hpstate.red || (s.hpstate.hpriv && physicalInHyper a) then .physical
      else if s.mmu.dmmuEnable then .virtualIn c
      else .real
    | none => .real

/-- The effective address DataAccess works on: am masks all but physical addresses (22_mmu.md R1450 step 1, D51). -/
def Access.ea (s : State) (a : Access) : Word :=
  if dataAddrKind s a.asi = .physical then a.addr else s.amMask a.addr

/-- Little-endian before TTE.ie: PSTATE.cle for an implicit ASI, the ASI's own order otherwise (20_memory.md R1305). -/
def Access.little (s : State) (a : Access) : Bool :=
  match a.asi with
  | none => s.pstate.cle
  | some asi => asiLittle asi

/-- Does TTE.ie invert the order (22_mmu.md R1456, 21_asi.md R1402)? -/
def Access.orderInvertible (s : State) (a : Access) : Bool :=
  match a.asi with
  | none => true
  | some asi => !(s.hpstate.hpriv && fixedOrderInHyper asi)

/-- Does the access count as nonprivileged (22_mmu.md R1460)? -/
def Access.asUser (s : State) (a : Access) : Bool :=
  s.mode = .nonprivileged || (match a.asi with | none => false | some asi => asIfUser asi)

/-- A nonfaulting access (20_memory.md R1325). -/
def Access.noFault (a : Access) : Bool :=
  match a.asi with
  | none => false
  | some asi => isNoFaultAsi asi

/-- The alignment exception of an access, if any (20_memory.md R1309, 22_mmu.md R1450 step 3). -/
def Access.misaligned (a : Access) (ea : Word) : Option Exc :=
  match a.cls with
  | .loadD =>
    if ea.extractLsb' 0 2 ≠ 0#2 then some .memAddressNotAligned
    else if ea.getLsbD 2 then some .lddfMemAddressNotAligned else none
  | .storeD =>
    if ea.extractLsb' 0 2 ≠ 0#2 then some .memAddressNotAligned
    else if ea.getLsbD 2 then some .stdfMemAddressNotAligned else none
  | .load | .loadX | .loadTwinX | .loadBlock | .store | .storeX | .storeBlock | .atomic =>
    if ea.toNat % a.size ≠ 0 then some .memAddressNotAligned else none

/-- What DataAccess answers: an exception, a physical address with the byte order, a register, or a stop where the spec gives
no behaviour. -/
inductive AccessResult where
  | trap (e : Exc)
  | memory (pa : Nat) (little : Bool)
  | register (asi : BitVec 8) (va : Word)
  | fault (f : Fault)
  deriving DecidableEq, Repr

/-- The checks on the TTE of a translated access (22_mmu.md R1450 steps 8 to 10). -/
def Access.pageCheck (s : State) (a : Access) (e : TlbEntry) : Option Exc :=
  if e.privilegedPage && a.asUser s then some .dataAccessException
  else if e.nfo && !a.noFault then some .dataAccessException
  else if e.sideEffect && a.noFault then some .dataAccessException
  else if !e.cacheable && (a.cls = .atomic || a.cls = .loadTwinX) then some .dataAccessException
  else if writesMemory a.cls && !e.writable then some .fastDataAccessProtection
  else none

/-- The attributes that the platform map gives a physical access, as a TTE: in real memory cp = 1 and e = 0, on a device cp = 0
and e = 1; otherwise no page check can fail (22_mmu.md R1462). -/
def Access.regionCheck (a : Access) (pa : Nat) : Option Exc :=
  if Config.platformMap pa = .io ∧ (a.noFault = true ∨ a.cls = .atomic ∨ a.cls = .loadTwinX) then
    some .dataAccessException
  else none

/-- What the platform has at a physical address that passed every check: memory, or a stop (20_memory.md R1302, D30). -/
def platformAccess (pa : Nat) (little : Bool) : AccessResult :=
  match Config.platformMap pa with
  | .memory => .memory pa little
  | .io => .fault .ioLocation
  | .absent => .fault .absentAddress

/-- The last checks, on the physical address: PA watchpoint and an injected error (22_mmu.md R1450 steps 11, 12). -/
def Access.finish (s : State) (a : Access) (pa : Nat) (little : Bool) : AccessResult :=
  if !s.hpstate.red && Config.paWatch pa a.size (writesMemory a.cls) then .trap .paWatchpoint
  else if s.requests.dataAccessError then .trap .dataAccessError
  else platformAccess pa little

/-- Steps 9 to 12 for a physical access (22_mmu.md R1450, R1462). -/
def Access.bypass (s : State) (a : Access) : AccessResult :=
  match a.regionCheck (bypassAddr a.addr) with
  | some x => .trap x
  | none => a.finish s (bypassAddr a.addr) (a.little s)

/-- Steps 7 to 12 for a translated address (22_mmu.md R1450). -/
def Access.translate (s : State) (a : Access) (k : AddrKind) : AccessResult :=
  match tlbLookup s.mmu.dtlb s.mmu k (a.ea s) with
  | .multipleHit => .fault .multipleTlbHit
  | .miss => .trap (if k = .real then .dataRealTranslationMiss else .fastDataAccessMMUMiss)
  | .hit e =>
    match a.pageCheck s e with
    | some x => .trap x
    | none => a.finish s (e.physicalAddr (a.ea s)) (a.little s ^^ (e.invertEndian && a.orderInvertible s))

/-- The privilege check of an explicit ASI (20_memory.md R1308). -/
def Access.privileged (s : State) (a : Access) : Bool :=
  match a.asi with
  | none => true
  | some asi => asiPrivileged s.mode asi

/-- The explicit ASI is legal for the instruction; an implicit one always is (21_asi.md R1403). -/
def Access.legal (a : Access) : Bool :=
  match a.asi with
  | none => true
  | some asi => asiLegalFor a.cls asi

/-- The explicit ASI is one of 21_asi.md R1412 to R1416. -/
def Access.special (a : Access) : Bool :=
  match a.asi with
  | none => false
  | some asi => isSpecialAsi asi

/-- DataAccess (22_mmu.md R1450), every check in its order. -/
def dataAccess (s : State) (a : Access) : AccessResult :=
  if a.special && !a.legal then
    .trap (if a.privileged s then .dataAccessException else .privilegedAction)
  else
    match a.misaligned (a.ea s) with
    | some x => .trap x
    | none =>
      if !a.privileged s then .trap .privilegedAction
      else
        match dataAddrKind s a.asi with
        | .virtualIn c =>
          if !s.hpstate.hpriv && Config.vaWatch (a.ea s) a.size (writesMemory a.cls) then .trap .vaWatchpoint
          else if !a.legal then .trap .dataAccessException
          else a.translate s (.virtualIn c)
        | .real => if !a.legal then .trap .dataAccessException else a.translate s .real
        | .physical => if !a.legal then .trap .dataAccessException else a.bypass s
        | .register =>
          if !a.legal then .trap .dataAccessException else .register (a.asi.getD 0#8) (a.ea s)

/-! ## What a trap records (22_mmu.md R1480 to R1483) -/

/-- A tag access value: address bits 63:13, context bits 12:0 (22_mmu.md R1483). -/
def tagAccess (a : Word) (ctx : BitVec 13) : Word := a.extractLsb' 13 51 ++ ctx

/-- The context a data access was made in; 0 for a real address (22_mmu.md R1483). -/
def Access.context (s : State) (a : Access) : BitVec 16 :=
  match dataAddrKind s a.asi with
  | .virtualIn c => contextId s.mmu c
  | .physical | .real | .register => 0#16

/-- The exceptions whose trap writes D-SFAR (22_mmu.md R1480). -/
def writesDsfar : Exc → Bool
  | .fastDataAccessMMUMiss | .dataRealTranslationMiss | .dataAccessException | .fastDataAccessProtection
  | .privilegedAction | .paWatchpoint | .vaWatchpoint | .memAddressNotAligned | .lddfMemAddressNotAligned
  | .stdfMemAddressNotAligned => true
  | _ => false

/-- The exceptions whose trap writes the D/UMMU tag access register (22_mmu.md R1480). -/
def writesDtag : Exc → Bool
  | .fastDataAccessMMUMiss | .dataRealTranslationMiss | .dataAccessException | .fastDataAccessProtection => true
  | _ => false

/-- The MMU registers after a data access raised `e`: D-SFAR, the tag access register (its context a free value after
data_access_exception), and a D-SFSR that is free (22_mmu.md R1480 to R1483; log 4, log 10). -/
def recordDataFault (s : State) (a : Access) (e : Exc) : State :=
  if writesDsfar e then
    let ctx := if e = .dataAccessException then s.drawn.freeWord.setWidth 13 else (a.context s).setWidth 13
    { s with
      mmu :=
        { s.mmu with
          dsfar := s.amMask a.addr
          dsfsr := s.freeWord
          dtagAccess := if writesDtag e then tagAccess (s.amMask a.addr) ctx else s.mmu.dtagAccess }
      freeCount := s.freeCount + 2 }
  else s

/-- A data access raises `e`: the MMU records it when the trap is taken, not when error_state is entered (22_mmu.md R1480,
60_exceptions.md R1047); an injected error is used up. -/
def raiseData (s : State) (a : Access) (e : Exc) : State :=
  let s' :=
    if e = .dataAccessError then { s with requests := { s.requests with dataAccessError := false } } else s
  State.trapOf (if s.tl.val = Config.maxTL then s' else recordDataFault s' a e) e

/-! ## Instruction fetch (22_mmu.md R1470) -/

/-- AddressKind of an instruction fetch (22_mmu.md R1451). -/
def fetchAddrKind (s : State) : AddrKind :=
  if s.hpstate.red || s.hpstate.hpriv then .physical
  else if s.mmu.immuEnable then .virtualIn s.implicitContext
  else .real

/-- What a fetch answers. -/
inductive FetchResult where
  | word (pa : Nat)
  | trap (e : Exc)
  | fault (f : Fault)
  deriving DecidableEq, Repr

/-- The instruction word at a physical address; instructions are big-endian (22_mmu.md R1470). -/
def fetchWord (m : List Host.Cell) (pa : Nat) : HWord :=
  bytesWord (Memory.read m pa) (Memory.read m (pa + 1)) (Memory.read m (pa + 2)) (Memory.read m (pa + 3))

/-- The host's instruction breakpoint: HPSTATE.ibe = 1 and a match on the fetch address and the instruction, never in
RED_state (62_exception_list.md R1091, D44). -/
def breakpointHit (s : State) (a : Word) (pa : Nat) : Bool :=
  s.hpstate.ibe && !s.hpstate.red && Config.instrBreakpoint a (fetchWord s.mem pa)

/-- Steps 4 and 5 of Fetch from address `a` at `pa`: an injected error, what the platform has at `pa`, the instruction
breakpoint (22_mmu.md R1470, 62_exception_list.md R1091, 20_memory.md R1302). -/
def fetchFinish (s : State) (a : Word) (pa : Nat) : FetchResult :=
  if s.requests.instructionAccessError then .trap .instructionAccessError
  else
    match Config.platformMap pa with
    | .memory => if breakpointHit s a pa then .trap .instructionBreakpoint else .word pa
    | .io => .fault .ioLocation
    | .absent => .fault .absentAddress

/-- Fetch(pc) up to the physical address of the instruction (22_mmu.md R1470). -/
def fetchAddress (s : State) : FetchResult :=
  match fetchAddrKind s with
  | .physical | .register => fetchFinish s s.pc (bypassAddr s.pc)
  | k =>
    match tlbLookup s.mmu.itlb s.mmu k (s.amMask s.pc) with
    | .multipleHit => .fault .multipleTlbHit
    | .miss => .trap (if k = .real then .instructionRealTranslationMiss else .fastInstructionAccessMMUMiss)
    | .hit e =>
      if (e.privilegedPage && decide (s.mode = .nonprivileged)) || !e.executable || e.nfo then
        .trap .instructionAccessException
      else fetchFinish s (s.amMask s.pc) (e.physicalAddr (s.amMask s.pc))

/-- The exceptions whose trap writes the IMMU tag access register (22_mmu.md R1480). -/
def writesItag : Exc → Bool
  | .fastInstructionAccessMMUMiss | .instructionAccessException | .instructionRealTranslationMiss => true
  | _ => false

/-- The context of a fetch; 0 for a real address (22_mmu.md R1483). -/
def fetchContext (s : State) : BitVec 16 :=
  match fetchAddrKind s with
  | .virtualIn c => contextId s.mmu c
  | .physical | .real | .register => 0#16

/-- The MMU registers after a fetch raised `e` (22_mmu.md R1480, R1482, R1483). -/
def recordFetchFault (s : State) (e : Exc) : State :=
  if writesItag e then
    { s with
      mmu :=
        { s.mmu with
          itagAccess := tagAccess (s.amMask s.pc) ((fetchContext s).setWidth 13)
          isfsr := s.freeWord }
      freeCount := s.freeCount + 1 }
  else s

/-- A fetch raises `e`. -/
def raiseFetch (s : State) (e : Exc) : State :=
  let s' :=
    if e = .instructionAccessError then { s with requests := { s.requests with instructionAccessError := false } }
    else s
  State.trapOf (if s.tl.val = Config.maxTL then s' else recordFetchFault s' e) e

end Sys2Proof.Machine
end

