-- ==== Sys2Proof/Machine/Cycle.lean ====
section
/-!
DEFINITION. What happens around one instruction: the timers and counters, pending interrupts, injected errors, fetching
and decoding, and what an undecodable word does (60_exceptions.md R1001, R1013; 61_interrupts_cmt.md R1155 to R1180;
30_encoding.md R330).
-/

namespace Sys2Proof.Config

/-- TickAdvance: how far TICK moves in the step that starts in this state; 1 (00_scope.md R6, 61_interrupts_cmt.md R1158,
D49). -/
def tickAdvance (_s : Machine.State) : Nat := 1
/-- StickAdvance: how far STICK moves in the step that starts in this state; 1 (00_scope.md R6, 61_interrupts_cmt.md R1158,
D49). -/
def stickAdvance (_s : Machine.State) : Nat := 1
/-- PicEvents(step) = (du, dl): the events that picu and picl, in this order, count in the step that starts in this state, where
PCR selects them; none (00_scope.md R6, 61_interrupts_cmt.md R1175, D53). -/
def picEvents (_s : Machine.State) : Nat × Nat := (0, 0)

end Sys2Proof.Config

namespace Sys2Proof.Machine

/-! ## Counting (61_interrupts_cmt.md R1158 to R1175) -/

/-- Does a counter of `bits` bits moving from `c` by `advance` reach the enabled compare value (61_interrupts_cmt.md R1158,
R1160)? -/
def compareMatches (bits : Nat) (c : BitVec 63) (advance : Nat) (r : CompareReg) : Bool :=
  !r.intDis && decide (r.value.toNat < 2 ^ bits ∧ (r.value - c - 1#63).toNat % 2 ^ bits < advance)

/-- A counter register moved by `advance`, its unimplemented bits 0 (61_interrupts_cmt.md R1158). -/
def CounterReg.advanced (bits : Nat) (c : CounterReg) (advance : Nat) : CounterReg :=
  { c with counter := implemented bits (c.counter + BitVec.ofNat 63 advance) }

/-- Does PIC count in the current mode (61_interrupts_cmt.md R1175)? -/
def picCounts (s : State) : Bool :=
  match s.mode with
  | .nonprivileged => s.pcr.ut
  | .privileged => s.pcr.st
  | .hyperprivileged => false

/-- (du, dl), the increments of picu and picl in this step (61_interrupts_cmt.md R1175, D53). -/
def picIncrement (s : State) : Nat × Nat := if picCounts s then Config.picEvents s else (0, 0)

/-- Does a 32-bit counter wrap (61_interrupts_cmt.md R1175)? -/
def picWraps (c : BitVec 32) (n : Nat) : Bool := decide (2 ^ 32 ≤ c.toNat + n)

/-- The start of a step: TICK, STICK and PIC count, and their matches and overflows set SOFTINT and HINTP.hsp. -/
def State.count (s : State) : State :=
  let tm := compareMatches Config.tickBits s.tick.counter (Config.tickAdvance s) s.tickCmpr
  let sm := compareMatches Config.stickBits s.stick.counter (Config.stickAdvance s) s.stickCmpr
  let hs := compareMatches Config.stickBits s.stick.counter (Config.stickAdvance s) s.hstickCmpr
  let n := picIncrement s
  let ovf := picWraps s.pic.picu n.1 || picWraps s.pic.picl n.2
  { s with
    tick := s.tick.advanced Config.tickBits (Config.tickAdvance s)
    stick := s.stick.advanced Config.stickBits (Config.stickAdvance s)
    pic := { picu := s.pic.picu + BitVec.ofNat 32 n.1, picl := s.pic.picl + BitVec.ofNat 32 n.2 }
    softint := s.softint ||| (BitVec.ofBool sm ++ BitVec.ofBool ovf ++ 0#14 ++ BitVec.ofBool tm)
    hsp := s.hsp || hs }

/-! ## Interrupts (60_exceptions.md R1013, 61_interrupts_cmt.md R1155, R1165, R1180) -/

/-- PendingLevel(n) (61_interrupts_cmt.md R1155). -/
def pendingLevel (s : State) (n : Nat) : Bool :=
  s.softint.getLsbD n || (n == 14 && (s.softint.getLsbD 0 || s.softint.getLsbD 16))

/-- The greatest pending level at most n, 0 if none (61_interrupts_cmt.md R1155). -/
def highestLevel (s : State) : Nat → Nat
  | 0 => 0
  | n + 1 => if pendingLevel s (n + 1) then n + 1 else highestLevel s n

/-- IntLevelRequest(), 0 if none (61_interrupts_cmt.md R1155). -/
def intLevelRequest (s : State) : Nat := highestLevel s 15

/-- hstick_match is pending and deliverable (60_exceptions.md R1013, 61_interrupts_cmt.md R1165). -/
def hstickDeliverable (s : State) : Bool := s.hsp && (!s.hpstate.hpriv || s.pstate.ie)

/-- Interrupts destined for privileged mode may be delivered (60_exceptions.md R1013). -/
def privilegedInterruptsOpen (s : State) : Bool := !s.hpstate.hpriv && s.pstate.ie

/-- The highest-priority deliverable disrupting exception (60_exceptions.md R1005, R1013). -/
def disruptingException (s : State) : Option Exc :=
  if hstickDeliverable s then some .hstickMatch
  else if !privilegedInterruptsOpen s then none
  else if s.queues.cpuMondoHead ≠ s.queues.cpuMondoTail then some .cpuMondo
  else if s.queues.devMondoHead ≠ s.queues.devMondoTail then some .devMondo
  else if s.pil.toNat < intLevelRequest s then some (.interruptLevel (BitVec.ofNat 4 (intLevelRequest s)))
  else if s.queues.resumableHead ≠ s.queues.resumableTail then some .resumableError
  else none

/-- The condition of trap_level_zero (60_exceptions.md R1030). -/
def trapLevelZeroPending (s : State) : Bool := s.hpstate.tlz && !s.hpstate.hpriv && decide (s.tl.val = 0)

/-- An injected internal_processor_error whose IPE_PRIORITY, in thousandths, is from `lo` up to `hi` (62_exception_list.md
R1126, D46). -/
def ipePending (s : State) (lo hi : Nat) : Bool :=
  s.requests.internalProcessorError && decide (lo ≤ Config.ipePriority ∧ Config.ipePriority < hi)

/-- Take store_error; the request is used up (D46). -/
def State.takeStoreError (s : State) : State :=
  takeTrap .storeError { s with requests := { s.requests with storeError := false } }

/-- Take internal_processor_error; the request is used up (D46). -/
def State.takeIpe (s : State) : State :=
  takeTrap .internalProcessorError { s with requests := { s.requests with internalProcessorError := false } }

/-- What comes before the fetch, in priority order: resets, the watchdog reset out of error_state, injected errors,
trap_level_zero, a deliverable interrupt (60_exceptions.md R1001, R1005, R1012; 70_reset_and_hazards.md R1250).
internal_processor_error stands where IPE_PRIORITY puts it: before store_error (2.01), before trap_level_zero (2.02), or with the
exceptions of the instruction (`settleIpe`). -/
def beforeFetch (s : State) : Option State :=
  if s.requests.por then some s.powerOnReset
  else if s.requests.wmr then some s.warmReset
  else if s.requests.xir then some s.xirReset
  else
    match s.errorState with
    | some tt => some (s.watchdogReset tt)
    | none =>
      if ipePending s 0 2010 then some s.takeIpe
      else if s.requests.storeError then some s.takeStoreError
      else if ipePending s 2010 2020 then some s.takeIpe
      else if trapLevelZeroPending s then some (takeTrap .trapLevelZero s)
      else (disruptingException s).map fun e => takeTrap e s

/-- How the attempt of an instruction ends while an internal_processor_error of lower priority than trap_level_zero is pending: an
exception of the instruction that comes before it (`State.outrankIpe`) is taken and the error stays pending; otherwise the error
is taken and nothing of the instruction is done (60_exceptions.md R1001, 62_exception_list.md R1126). -/
def State.settleIpe (s : State) : Result → Result
  | .next t =>
    if t.requests.internalProcessorError then .next s.takeIpe
    else .next { t with requests := { t.requests with internalProcessorError := true } }
  | r => r

/-! ## Fetching and decoding -/

/-- What a word that decodes to no instruction does: illegal_instruction, or, in the FPop spaces, fp_disabled and then
fp_exception_other with FSR.ftt = 3 (30_encoding.md R330, 45_fp.md R801). An FMOVcc or FMOVr word with a reserved opf_cc or
rcond has a destination, so its fp_disabled marks it dirty (45_fp.md R800, R832, R842). -/
def undecodable (s : State) : DecodeError → Result
  | .illegalInstruction => raise .illegalInstruction s
  | .unimplementedFPop => withFp s (raise .fpExceptionOther { s with fsr := { s.fsr with ftt := 3#3 } })
  | .unimplementedFMove false _ =>
    withFpDest s State.markLower (raise .fpExceptionOther { s with fsr := { s.fsr with ftt := 3#3 } })
  | .unimplementedFMove true rd =>
    withFpDest s (fun t => t.markDouble rd) (raise .fpExceptionOther { s with fsr := { s.fsr with ftt := 3#3 } })

/-- Where step fetches its next instruction, if the fetch succeeds. -/
def fetchPa (s : State) : Option Nat :=
  match fetchAddress s with
  | .word pa => some pa
  | .trap _ | .fault _ => none

/-- Store an instruction word where the next fetch reads it. -/
def placeWord (s : State) (w : HWord) : State :=
  match fetchPa s with
  | some pa => { s with mem := Memory.writeBytes s.mem pa (wordBytes w) }
  | none => s

end Sys2Proof.Machine
end

