-- ==== Sys2Proof/Machine/Control.lean ====
section
/-!
DEFINITION. The control-transfer instructions (41_control.md).
-/

namespace Sys2Proof.Machine

/-! ## Shared operations -/

/-- A conditional branch: the annul bit matters only when it is not taken (41_control.md R500, R512). -/
def branchIf (s : State) (taken a : Bool) (ea : Word) : Result :=
  if taken then .next (s.delayedTransfer ea) else if a then .next s.annulDelay else .next s.advance

/-- A branch always: the annul bit annuls the delay instruction (41_control.md R510). -/
def branchAlways (s : State) (a : Bool) (ea : Word) : Result :=
  if a then .next (s.transferAnnul ea) else .next (s.delayedTransfer ea)

/-- A branch never (41_control.md R511). -/
def branchNever (s : State) (a : Bool) : Result := if a then .next s.annulDelay else .next s.advance

/-- Bicc and BPcc on a condition (41_control.md R512, R515). -/
def branchIcc {n : Nat} (s : State) (cond : BitVec 4) (cc : IntCC) (a : Bool) (disp : BitVec n) : Result :=
  branchIf s (iccTest cond (intCC s cc)) a (branchTarget s disp)

/-- FBfcc and FBPfcc on a condition (41_control.md R521, R524). -/
def branchFcc {n : Nat} (s : State) (cond : BitVec 4) (fcc : FccSel) (a : Bool) (disp : BitVec n) : Result :=
  withFp s (branchIf s (fccTest cond (fccOf s fcc)) a (branchTarget s disp))

/-- BPr (41_control.md R516). -/
def branchReg (s : State) (rcond : BitVec 3) (a : Bool) (rs1 : RegField) (disp : BitVec 16) : Result :=
  branchIf s (regTest rcond (s.readR rs1)) a (branchTarget s disp)

/-- The software trap number: seven bits in nonprivileged mode, eight above (41_control.md R529). -/
def swTrapNumber (s : State) (n : Word) : BitVec 8 :=
  if s.isUser then (n.extractLsb' 0 7).setWidth 8 else n.extractLsb' 0 8

/-- The exception of a taken Tcc (41_control.md R529). -/
def swTrap (s : State) (n : Word) : Exc :=
  if s.hpstate.hpriv || decide (128 ≤ (swTrapNumber s n).toNat) then .htrapInstruction (swTrapNumber s n)
  else .trapInstruction (swTrapNumber s n)

/-- Tcc() (41_control.md R529). -/
def trapIcc (s : State) (cond : BitVec 4) (cc : IntCC) (rs1 : RegField) (op2 : Op2x8) : Result :=
  if iccTest cond (intCC s cc) then raise (swTrap s (trapSum s rs1 op2)) s else complete s

/-- The fill exception of RESTORE and RETURN (60_exceptions.md R1025, 44_window_state.md R720). -/
def State.fillExc (s : State) : Exc :=
  if s.win.otherwin = 0#3 then .fill false s.win.wstateNormal else .fill true s.win.wstateOther

/-- The window registers after RESTORE or RETURN (44_window_state.md R731). -/
def WindowRegs.restored (w : WindowRegs) : WindowRegs :=
  { w with cwp := windowAdd w.cwp (Config.nRegWindows - 1), canrestore := w.canrestore - 1#3, cansave := w.cansave + 1#3 }

/-- Return from a trap handler, by DONE or RETRY (41_control.md R518, R527). -/
def trapReturn (s : State) (restored : State) : Result :=
  if s.isUser then raise .privilegedOpcode s
  else if s.tl.val = 0 then raise .illegalInstruction s
  else .next restored

/-! ## Branches -/

/-- Branch always (41_control.md R510). -/
def execBa (a : Bool) (disp22 : BitVec 22) (s : State) : Result := branchAlways s a (branchTarget s disp22)

/-- Branch never (41_control.md R511). -/
def execBn (a : Bool) (_disp22 : BitVec 22) (s : State) : Result := branchNever s a

/-- Branch on integer condition 1001 (41_control.md R512). -/
def execBne (a : Bool) (disp22 : BitVec 22) (s : State) : Result := branchIcc s 0b1001#4 .icc a disp22

/-- Branch on integer condition 0001 (41_control.md R512). -/
def execBe (a : Bool) (disp22 : BitVec 22) (s : State) : Result := branchIcc s 0b0001#4 .icc a disp22

/-- Branch on integer condition 1010 (41_control.md R512). -/
def execBg (a : Bool) (disp22 : BitVec 22) (s : State) : Result := branchIcc s 0b1010#4 .icc a disp22

/-- Branch on integer condition 0010 (41_control.md R512). -/
def execBle (a : Bool) (disp22 : BitVec 22) (s : State) : Result := branchIcc s 0b0010#4 .icc a disp22

/-- Branch on integer condition 1011 (41_control.md R512). -/
def execBge (a : Bool) (disp22 : BitVec 22) (s : State) : Result := branchIcc s 0b1011#4 .icc a disp22

/-- Branch on integer condition 0011 (41_control.md R512). -/
def execBl (a : Bool) (disp22 : BitVec 22) (s : State) : Result := branchIcc s 0b0011#4 .icc a disp22

/-- Branch on integer condition 1100 (41_control.md R512). -/
def execBgu (a : Bool) (disp22 : BitVec 22) (s : State) : Result := branchIcc s 0b1100#4 .icc a disp22

/-- Branch on integer condition 0100 (41_control.md R512). -/
def execBleu (a : Bool) (disp22 : BitVec 22) (s : State) : Result := branchIcc s 0b0100#4 .icc a disp22

/-- Branch on integer condition 1101 (41_control.md R512). -/
def execBcc (a : Bool) (disp22 : BitVec 22) (s : State) : Result := branchIcc s 0b1101#4 .icc a disp22

/-- Branch on integer condition 0101 (41_control.md R512). -/
def execBcs (a : Bool) (disp22 : BitVec 22) (s : State) : Result := branchIcc s 0b0101#4 .icc a disp22

/-- Branch on integer condition 1110 (41_control.md R512). -/
def execBpos (a : Bool) (disp22 : BitVec 22) (s : State) : Result := branchIcc s 0b1110#4 .icc a disp22

/-- Branch on integer condition 0110 (41_control.md R512). -/
def execBneg (a : Bool) (disp22 : BitVec 22) (s : State) : Result := branchIcc s 0b0110#4 .icc a disp22

/-- Branch on integer condition 1111 (41_control.md R512). -/
def execBvc (a : Bool) (disp22 : BitVec 22) (s : State) : Result := branchIcc s 0b1111#4 .icc a disp22

/-- Branch on integer condition 0111 (41_control.md R512). -/
def execBvs (a : Bool) (disp22 : BitVec 22) (s : State) : Result := branchIcc s 0b0111#4 .icc a disp22

/-- Branch always (41_control.md R513). -/
def execBpa (a : Bool) (_cc : IntCC) (_p : Bool) (disp19 : BitVec 19) (s : State) : Result :=
  branchAlways s a (branchTarget s disp19)

/-- Branch never (41_control.md R514). -/
def execBpn (a : Bool) (_cc : IntCC) (_p : Bool) (_disp19 : BitVec 19) (s : State) : Result := branchNever s a

/-- Branch on integer condition 1001 (41_control.md R515). -/
def execBpne (a : Bool) (cc : IntCC) (_p : Bool) (disp19 : BitVec 19) (s : State) : Result :=
  branchIcc s 0b1001#4 cc a disp19

/-- Branch on integer condition 0001 (41_control.md R515). -/
def execBpe (a : Bool) (cc : IntCC) (_p : Bool) (disp19 : BitVec 19) (s : State) : Result :=
  branchIcc s 0b0001#4 cc a disp19

/-- Branch on integer condition 1010 (41_control.md R515). -/
def execBpg (a : Bool) (cc : IntCC) (_p : Bool) (disp19 : BitVec 19) (s : State) : Result :=
  branchIcc s 0b1010#4 cc a disp19

/-- Branch on integer condition 0010 (41_control.md R515). -/
def execBple (a : Bool) (cc : IntCC) (_p : Bool) (disp19 : BitVec 19) (s : State) : Result :=
  branchIcc s 0b0010#4 cc a disp19

/-- Branch on integer condition 1011 (41_control.md R515). -/
def execBpge (a : Bool) (cc : IntCC) (_p : Bool) (disp19 : BitVec 19) (s : State) : Result :=
  branchIcc s 0b1011#4 cc a disp19

/-- Branch on integer condition 0011 (41_control.md R515). -/
def execBpl (a : Bool) (cc : IntCC) (_p : Bool) (disp19 : BitVec 19) (s : State) : Result :=
  branchIcc s 0b0011#4 cc a disp19

/-- Branch on integer condition 1100 (41_control.md R515). -/
def execBpgu (a : Bool) (cc : IntCC) (_p : Bool) (disp19 : BitVec 19) (s : State) : Result :=
  branchIcc s 0b1100#4 cc a disp19

/-- Branch on integer condition 0100 (41_control.md R515). -/
def execBpleu (a : Bool) (cc : IntCC) (_p : Bool) (disp19 : BitVec 19) (s : State) : Result :=
  branchIcc s 0b0100#4 cc a disp19

/-- Branch on integer condition 1101 (41_control.md R515). -/
def execBpcc (a : Bool) (cc : IntCC) (_p : Bool) (disp19 : BitVec 19) (s : State) : Result :=
  branchIcc s 0b1101#4 cc a disp19

/-- Branch on integer condition 0101 (41_control.md R515). -/
def execBpcs (a : Bool) (cc : IntCC) (_p : Bool) (disp19 : BitVec 19) (s : State) : Result :=
  branchIcc s 0b0101#4 cc a disp19

/-- Branch on integer condition 1110 (41_control.md R515). -/
def execBppos (a : Bool) (cc : IntCC) (_p : Bool) (disp19 : BitVec 19) (s : State) : Result :=
  branchIcc s 0b1110#4 cc a disp19

/-- Branch on integer condition 0110 (41_control.md R515). -/
def execBpneg (a : Bool) (cc : IntCC) (_p : Bool) (disp19 : BitVec 19) (s : State) : Result :=
  branchIcc s 0b0110#4 cc a disp19

/-- Branch on integer condition 1111 (41_control.md R515). -/
def execBpvc (a : Bool) (cc : IntCC) (_p : Bool) (disp19 : BitVec 19) (s : State) : Result :=
  branchIcc s 0b1111#4 cc a disp19

/-- Branch on integer condition 0111 (41_control.md R515). -/
def execBpvs (a : Bool) (cc : IntCC) (_p : Bool) (disp19 : BitVec 19) (s : State) : Result :=
  branchIcc s 0b0111#4 cc a disp19

/-- Branch always, if the FPU is enabled (41_control.md R519). -/
def execFba (a : Bool) (disp22 : BitVec 22) (s : State) : Result := withFp s (branchAlways s a (branchTarget s disp22))

/-- Branch never, if the FPU is enabled (41_control.md R520). -/
def execFbn (a : Bool) (_disp22 : BitVec 22) (s : State) : Result := withFp s (branchNever s a)

/-- Branch on floating-point condition 0111 (41_control.md R521). -/
def execFbu (a : Bool) (disp22 : BitVec 22) (s : State) : Result := branchFcc s 0b0111#4 0#2 a disp22

/-- Branch on floating-point condition 0110 (41_control.md R521). -/
def execFbg (a : Bool) (disp22 : BitVec 22) (s : State) : Result := branchFcc s 0b0110#4 0#2 a disp22

/-- Branch on floating-point condition 0101 (41_control.md R521). -/
def execFbug (a : Bool) (disp22 : BitVec 22) (s : State) : Result := branchFcc s 0b0101#4 0#2 a disp22

/-- Branch on floating-point condition 0100 (41_control.md R521). -/
def execFbl (a : Bool) (disp22 : BitVec 22) (s : State) : Result := branchFcc s 0b0100#4 0#2 a disp22

/-- Branch on floating-point condition 0011 (41_control.md R521). -/
def execFbul (a : Bool) (disp22 : BitVec 22) (s : State) : Result := branchFcc s 0b0011#4 0#2 a disp22

/-- Branch on floating-point condition 0010 (41_control.md R521). -/
def execFblg (a : Bool) (disp22 : BitVec 22) (s : State) : Result := branchFcc s 0b0010#4 0#2 a disp22

/-- Branch on floating-point condition 0001 (41_control.md R521). -/
def execFbne (a : Bool) (disp22 : BitVec 22) (s : State) : Result := branchFcc s 0b0001#4 0#2 a disp22

/-- Branch on floating-point condition 1001 (41_control.md R521). -/
def execFbe (a : Bool) (disp22 : BitVec 22) (s : State) : Result := branchFcc s 0b1001#4 0#2 a disp22

/-- Branch on floating-point condition 1010 (41_control.md R521). -/
def execFbue (a : Bool) (disp22 : BitVec 22) (s : State) : Result := branchFcc s 0b1010#4 0#2 a disp22

/-- Branch on floating-point condition 1011 (41_control.md R521). -/
def execFbge (a : Bool) (disp22 : BitVec 22) (s : State) : Result := branchFcc s 0b1011#4 0#2 a disp22

/-- Branch on floating-point condition 1100 (41_control.md R521). -/
def execFbuge (a : Bool) (disp22 : BitVec 22) (s : State) : Result := branchFcc s 0b1100#4 0#2 a disp22

/-- Branch on floating-point condition 1101 (41_control.md R521). -/
def execFble (a : Bool) (disp22 : BitVec 22) (s : State) : Result := branchFcc s 0b1101#4 0#2 a disp22

/-- Branch on floating-point condition 1110 (41_control.md R521). -/
def execFbule (a : Bool) (disp22 : BitVec 22) (s : State) : Result := branchFcc s 0b1110#4 0#2 a disp22

/-- Branch on floating-point condition 1111 (41_control.md R521). -/
def execFbo (a : Bool) (disp22 : BitVec 22) (s : State) : Result := branchFcc s 0b1111#4 0#2 a disp22

/-- Branch always, if the FPU is enabled (41_control.md R522). -/
def execFbpa (a : Bool) (_fcc : FccSel) (_p : Bool) (disp19 : BitVec 19) (s : State) : Result :=
  withFp s (branchAlways s a (branchTarget s disp19))

/-- Branch never, if the FPU is enabled (41_control.md R523). -/
def execFbpn (a : Bool) (_fcc : FccSel) (_p : Bool) (_disp19 : BitVec 19) (s : State) : Result :=
  withFp s (branchNever s a)

/-- Branch on floating-point condition 0111 (41_control.md R524). -/
def execFbpu (a : Bool) (fcc : FccSel) (_p : Bool) (disp19 : BitVec 19) (s : State) : Result :=
  branchFcc s 0b0111#4 fcc a disp19

/-- Branch on floating-point condition 0110 (41_control.md R524). -/
def execFbpg (a : Bool) (fcc : FccSel) (_p : Bool) (disp19 : BitVec 19) (s : State) : Result :=
  branchFcc s 0b0110#4 fcc a disp19

/-- Branch on floating-point condition 0101 (41_control.md R524). -/
def execFbpug (a : Bool) (fcc : FccSel) (_p : Bool) (disp19 : BitVec 19) (s : State) : Result :=
  branchFcc s 0b0101#4 fcc a disp19

/-- Branch on floating-point condition 0100 (41_control.md R524). -/
def execFbpl (a : Bool) (fcc : FccSel) (_p : Bool) (disp19 : BitVec 19) (s : State) : Result :=
  branchFcc s 0b0100#4 fcc a disp19

/-- Branch on floating-point condition 0011 (41_control.md R524). -/
def execFbpul (a : Bool) (fcc : FccSel) (_p : Bool) (disp19 : BitVec 19) (s : State) : Result :=
  branchFcc s 0b0011#4 fcc a disp19

/-- Branch on floating-point condition 0010 (41_control.md R524). -/
def execFbplg (a : Bool) (fcc : FccSel) (_p : Bool) (disp19 : BitVec 19) (s : State) : Result :=
  branchFcc s 0b0010#4 fcc a disp19

/-- Branch on floating-point condition 0001 (41_control.md R524). -/
def execFbpne (a : Bool) (fcc : FccSel) (_p : Bool) (disp19 : BitVec 19) (s : State) : Result :=
  branchFcc s 0b0001#4 fcc a disp19

/-- Branch on floating-point condition 1001 (41_control.md R524). -/
def execFbpe (a : Bool) (fcc : FccSel) (_p : Bool) (disp19 : BitVec 19) (s : State) : Result :=
  branchFcc s 0b1001#4 fcc a disp19

/-- Branch on floating-point condition 1010 (41_control.md R524). -/
def execFbpue (a : Bool) (fcc : FccSel) (_p : Bool) (disp19 : BitVec 19) (s : State) : Result :=
  branchFcc s 0b1010#4 fcc a disp19

/-- Branch on floating-point condition 1011 (41_control.md R524). -/
def execFbpge (a : Bool) (fcc : FccSel) (_p : Bool) (disp19 : BitVec 19) (s : State) : Result :=
  branchFcc s 0b1011#4 fcc a disp19

/-- Branch on floating-point condition 1100 (41_control.md R524). -/
def execFbpuge (a : Bool) (fcc : FccSel) (_p : Bool) (disp19 : BitVec 19) (s : State) : Result :=
  branchFcc s 0b1100#4 fcc a disp19

/-- Branch on floating-point condition 1101 (41_control.md R524). -/
def execFbple (a : Bool) (fcc : FccSel) (_p : Bool) (disp19 : BitVec 19) (s : State) : Result :=
  branchFcc s 0b1101#4 fcc a disp19

/-- Branch on floating-point condition 1110 (41_control.md R524). -/
def execFbpule (a : Bool) (fcc : FccSel) (_p : Bool) (disp19 : BitVec 19) (s : State) : Result :=
  branchFcc s 0b1110#4 fcc a disp19

/-- Branch on floating-point condition 1111 (41_control.md R524). -/
def execFbpo (a : Bool) (fcc : FccSel) (_p : Bool) (disp19 : BitVec 19) (s : State) : Result :=
  branchFcc s 0b1111#4 fcc a disp19

/-- Branch on register condition 001 (41_control.md R516). -/
def execBrz (a : Bool) (_p : Bool) (rs1 : RegField) (disp16 : BitVec 16) (s : State) : Result :=
  branchReg s 0b001#3 a rs1 disp16

/-- Branch on register condition 010 (41_control.md R516). -/
def execBrlez (a : Bool) (_p : Bool) (rs1 : RegField) (disp16 : BitVec 16) (s : State) : Result :=
  branchReg s 0b010#3 a rs1 disp16

/-- Branch on register condition 011 (41_control.md R516). -/
def execBrlz (a : Bool) (_p : Bool) (rs1 : RegField) (disp16 : BitVec 16) (s : State) : Result :=
  branchReg s 0b011#3 a rs1 disp16

/-- Branch on register condition 101 (41_control.md R516). -/
def execBrnz (a : Bool) (_p : Bool) (rs1 : RegField) (disp16 : BitVec 16) (s : State) : Result :=
  branchReg s 0b101#3 a rs1 disp16

/-- Branch on register condition 110 (41_control.md R516). -/
def execBrgz (a : Bool) (_p : Bool) (rs1 : RegField) (disp16 : BitVec 16) (s : State) : Result :=
  branchReg s 0b110#3 a rs1 disp16

/-- Branch on register condition 111 (41_control.md R516). -/
def execBrgez (a : Bool) (_p : Bool) (rs1 : RegField) (disp16 : BitVec 16) (s : State) : Result :=
  branchReg s 0b111#3 a rs1 disp16

/-! ## Calls, jumps and returns -/

/-- R[15] <- pc, then a delayed transfer (41_control.md R517). -/
def execCall (disp30 : BitVec 30) (s : State) : Result :=
  .next ((s.writeR 15#5 (s.amMask s.pc)).delayedTransfer (branchTarget s disp30))

/-- R[rd] <- pc and a delayed transfer to R[rs1] + Op2 (41_control.md R526). A target is written to npc unmasked and
PSTATE.am masks it where it is used (10_state.md R60, 11_state_privileged.md R185, R190; log 31). -/
def execJmpl (rd : RegField) (rs1 : RegField) (op2 : Op2) (s : State) : Result :=
  let ea := effAddr s rs1 op2
  if ea.extractLsb' 0 2 ≠ 0#2 then raise .memAddressNotAligned s
  else .next ((s.writeR rd (s.amMask s.pc)).delayedTransfer ea)

/-- The window of RESTORE with a delayed transfer to R[rs1] + Op2 (41_control.md R528). A target is written to npc unmasked
and PSTATE.am masks it where it is used (10_state.md R60, 11_state_privileged.md R185, R190; log 31). -/
def execReturn (_bits29_25 : RegField) (rs1 : RegField) (op2 : Op2) (s : State) : Result :=
  let ea := effAddr s rs1 op2
  if s.win.canrestore = 0#3 then raise s.fillExc s
  else if ea.extractLsb' 0 2 ≠ 0#2 then raise .memAddressNotAligned s
  else .next ({ s with win := s.win.restored }.delayedTransfer ea)

/-- Return from a trap, skipping the trapped instruction (41_control.md R518). -/
def execDone (s : State) : Result := trapReturn s s.returnDone

/-- Return from a trap, running the trapped instruction again (41_control.md R527). -/
def execRetry (s : State) : Result := trapReturn s s.returnRetry

/-- illegal_instruction, always (41_control.md R525). -/
def execIlltrap (_bits29_25 : RegField) (_const22 : BitVec 22) (s : State) : Result := raise .illegalInstruction s

/-! ## Traps on condition -/

/-- Trap on integer condition 1000 (41_control.md R530). -/
def execTa (cc : IntCC) (rs1 : RegField) (op2 : Op2x8) (s : State) : Result := trapIcc s 0b1000#4 cc rs1 op2

/-- Trap on integer condition 0000 (41_control.md R531). -/
def execTn (cc : IntCC) (rs1 : RegField) (op2 : Op2x8) (s : State) : Result := trapIcc s 0b0000#4 cc rs1 op2

/-- Trap on integer condition 1001 (41_control.md R532). -/
def execTne (cc : IntCC) (rs1 : RegField) (op2 : Op2x8) (s : State) : Result := trapIcc s 0b1001#4 cc rs1 op2

/-- Trap on integer condition 0001 (41_control.md R532). -/
def execTe (cc : IntCC) (rs1 : RegField) (op2 : Op2x8) (s : State) : Result := trapIcc s 0b0001#4 cc rs1 op2

/-- Trap on integer condition 1010 (41_control.md R532). -/
def execTg (cc : IntCC) (rs1 : RegField) (op2 : Op2x8) (s : State) : Result := trapIcc s 0b1010#4 cc rs1 op2

/-- Trap on integer condition 0010 (41_control.md R532). -/
def execTle (cc : IntCC) (rs1 : RegField) (op2 : Op2x8) (s : State) : Result := trapIcc s 0b0010#4 cc rs1 op2

/-- Trap on integer condition 1011 (41_control.md R532). -/
def execTge (cc : IntCC) (rs1 : RegField) (op2 : Op2x8) (s : State) : Result := trapIcc s 0b1011#4 cc rs1 op2

/-- Trap on integer condition 0011 (41_control.md R532). -/
def execTl (cc : IntCC) (rs1 : RegField) (op2 : Op2x8) (s : State) : Result := trapIcc s 0b0011#4 cc rs1 op2

/-- Trap on integer condition 1100 (41_control.md R532). -/
def execTgu (cc : IntCC) (rs1 : RegField) (op2 : Op2x8) (s : State) : Result := trapIcc s 0b1100#4 cc rs1 op2

/-- Trap on integer condition 0100 (41_control.md R532). -/
def execTleu (cc : IntCC) (rs1 : RegField) (op2 : Op2x8) (s : State) : Result := trapIcc s 0b0100#4 cc rs1 op2

/-- Trap on integer condition 1101 (41_control.md R532). -/
def execTcc (cc : IntCC) (rs1 : RegField) (op2 : Op2x8) (s : State) : Result := trapIcc s 0b1101#4 cc rs1 op2

/-- Trap on integer condition 0101 (41_control.md R532). -/
def execTcs (cc : IntCC) (rs1 : RegField) (op2 : Op2x8) (s : State) : Result := trapIcc s 0b0101#4 cc rs1 op2

/-- Trap on integer condition 1110 (41_control.md R532). -/
def execTpos (cc : IntCC) (rs1 : RegField) (op2 : Op2x8) (s : State) : Result := trapIcc s 0b1110#4 cc rs1 op2

/-- Trap on integer condition 0110 (41_control.md R532). -/
def execTneg (cc : IntCC) (rs1 : RegField) (op2 : Op2x8) (s : State) : Result := trapIcc s 0b0110#4 cc rs1 op2

/-- Trap on integer condition 1111 (41_control.md R532). -/
def execTvc (cc : IntCC) (rs1 : RegField) (op2 : Op2x8) (s : State) : Result := trapIcc s 0b1111#4 cc rs1 op2

/-- Trap on integer condition 0111 (41_control.md R532). -/
def execTvs (cc : IntCC) (rs1 : RegField) (op2 : Op2x8) (s : State) : Result := trapIcc s 0b0111#4 cc rs1 op2

end Sys2Proof.Machine
end

