-- ==== Sys2Proof/Machine/Transfer.lean ====
section
/-!
DEFINITION. The access wrappers every load, store and atomic is built from (42_loadstore.md R561): the checks of
DataAccess, then the transfer at its target.
-/

namespace Sys2Proof.Machine

/-- Run DataAccess; `onMemory` continues at a physical address with a byte order, `onRegister` at a register ASI. -/
def withAccess (s : State) (a : Access) (onMemory : Nat → Bool → Result) (onRegister : BitVec 8 → Word → Result) :
    Result :=
  match dataAccess s a with
  | .trap e => .next (raiseData s a e)
  | .fault f => .fault f
  | .memory pa little => onMemory pa little
  | .register asi va => onRegister asi va

/-- Load(instr, size): the value, zero-extended; an unreadable register raises data_access_exception (42_loadstore.md
R561, R577). -/
def loadValue (s : State) (a : Access) (k : Word → Result) : Result :=
  withAccess s a (fun pa little => k (Memory.readInt s.mem pa a.size little)) fun asi va =>
    match readAsiReg s asi va with
    | some v => k v
    | none => .next (raiseData s a .dataAccessException)

/-- Store(instr, size, v), then `k` on the state with the value stored (42_loadstore.md R561, R588). -/
def storeValue (s : State) (a : Access) (v : Word) (k : State → Result) : Result :=
  withAccess s a (fun pa little => k { s with mem := Memory.writeInt s.mem pa a.size little v }) fun asi va =>
    match writeAsiReg s asi va v with
    | some s' => k s'
    | none => .next (raiseData s a .dataAccessException)

/-- Atomic(instr, size, f): store f of the old value, then `k` on the state and the old value (42_loadstore.md R561). No
register ASI is legal for an atomic (21_asi.md R1403), so the register case is its exception. -/
def atomicValue (s : State) (a : Access) (f : Word → Word) (k : State → Word → Result) : Result :=
  withAccess s a
    (fun pa little =>
      let old := Memory.readInt s.mem pa a.size little
      k { s with mem := Memory.writeInt s.mem pa a.size little (f old) } old)
    fun _ _ => .next (raiseData s a .dataAccessException)

/-- A multi-part load from memory: part i is `part` bytes at pa + part * i, each in the access's byte order (42_loadstore.md
R590, R592; 43_fp_loadstore.md R691). -/
def loadParts (s : State) (a : Access) (part : Nat) (k : (Nat → Word) → Result) : Result :=
  withAccess s a (fun pa little => k fun i => Memory.readInt s.mem (pa + part * i) part little)
    fun _ _ => .next (raiseData s a .dataAccessException)

/-- Store consecutive parts of `part` bytes from pa upward, each in the byte order given (42_loadstore.md R593;
43_fp_loadstore.md R692). -/
def writeParts (m : List Host.Cell) (pa part : Nat) (little : Bool) : List Word → List Host.Cell
  | [] => m
  | v :: vs => writeParts (Memory.writeInt m pa part little v) (pa + part) part little vs

/-- A multi-part store, then `k` on the state with the parts stored. -/
def storeParts (s : State) (a : Access) (part : Nat) (vs : List Word) (k : State → Result) : Result :=
  withAccess s a (fun pa little => k { s with mem := writeParts s.mem pa part little vs })
    fun _ _ => .next (raiseData s a .dataAccessException)

end Sys2Proof.Machine
end

