-- ==== Sys2Proof/Machine/Memory.lean ====
section
/-!
DEFINITION. Integer loads, stores, atomics, PREFETCH, MEMBAR, STBAR and FLUSH (42_loadstore.md).
-/

namespace Sys2Proof.Machine

/-! ## Shared operations -/

/-- A non-alternate access (42_loadstore.md R560). -/
def plainAccess (s : State) (cls : InstrClass) (rs1 : RegField) (op2 : Op2) (size : Nat) : Access where
  cls := cls
  asi := none
  addr := effAddr s rs1 op2
  size := size

/-- An alternate access (42_loadstore.md R560). -/
def altAccess (s : State) (cls : InstrClass) (rs1 : RegField) (op2 : AsiOp2) (size : Nat) : Access where
  cls := cls
  asi := some (asiOf s op2)
  addr := effAddrA s rs1 op2
  size := size

/-- An access of CASA and CASXA: the address is R[rs1] (42_loadstore.md R610). -/
def casAccess (s : State) (rs1 : RegField) (asi : CasAsi) (size : Nat) : Access where
  cls := .atomic
  asi := some (casAsiOf s asi)
  addr := s.readR rs1
  size := size

/-- The n low bytes of a word, sign-extended. -/
def signExtendBytes (n : Nat) (v : Word) : Word := (v.setWidth (8 * n)).signExtend 64

/-- A load whose value, zero-extended, goes to R[rd]. -/
def loadUnsigned (s : State) (a : Access) (rd : RegField) : Result := loadValue s a fun v => writeBack s rd v

/-- A load whose value, sign-extended, goes to R[rd]. -/
def loadSigned (s : State) (a : Access) (rd : RegField) : Result :=
  loadValue s a fun v => writeBack s rd (signExtendBytes a.size v)

/-- A store of the low bytes of R[rd]. -/
def storeReg (s : State) (a : Access) (rd : RegField) : Result := storeValue s a (s.readR rd) complete

/-- A load of two parts into an even-odd register pair (42_loadstore.md R590, R592). -/
def loadPair (s : State) (a : Access) (part : Nat) (rd : RegField) : Result :=
  if !isEven rd then raise .illegalInstruction s
  else loadParts s a part fun p => complete (s.writePair rd (p 0) (p 1))

/-- A store of the low words of an even-odd register pair (42_loadstore.md R593). -/
def storePair (s : State) (a : Access) (rd : RegField) : Result :=
  if !isEven rd then raise .illegalInstruction s
  else storeParts s a 4 [s.readR rd, s.readR (pairOdd rd)] complete

/-- An atomic whose old value, zero-extended, goes to R[rd] (42_loadstore.md R561). -/
def atomicReg (s : State) (a : Access) (f : Word → Word) (rd : RegField) : Result :=
  atomicValue s a f fun t old => writeBack t rd old

/-- What compare-and-swap stores: the new value if the old one equals the comparison value (42_loadstore.md R610). -/
def swapIfEqual (cmp new old : Word) : Word := if old = cmp then new else old

/-- A prefetch of a reserved kind is illegal, any other has no effect (42_loadstore.md R615, D19). -/
def prefetchHint (s : State) (fcn : BitVec 5) : Result :=
  if prefetchFcnOk fcn then complete s else raise .illegalInstruction s

/-! ## Loads -/

/-- Load a signed byte (42_loadstore.md R563). -/
def execLdsb (rd : RegField) (rs1 : RegField) (op2 : Op2) (s : State) : Result :=
  loadSigned s (plainAccess s .load rs1 op2 1) rd

/-- Load a signed byte from alternate space (42_loadstore.md R571). -/
def execLdsba (rd : RegField) (rs1 : RegField) (op2 : AsiOp2) (s : State) : Result :=
  loadSigned s (altAccess s .load rs1 op2 1) rd

/-- Load a signed halfword (42_loadstore.md R564). -/
def execLdsh (rd : RegField) (rs1 : RegField) (op2 : Op2) (s : State) : Result :=
  loadSigned s (plainAccess s .load rs1 op2 2) rd

/-- Load a signed halfword from alternate space (42_loadstore.md R572). -/
def execLdsha (rd : RegField) (rs1 : RegField) (op2 : AsiOp2) (s : State) : Result :=
  loadSigned s (altAccess s .load rs1 op2 2) rd

/-- Load a signed word (42_loadstore.md R565). -/
def execLdsw (rd : RegField) (rs1 : RegField) (op2 : Op2) (s : State) : Result :=
  loadSigned s (plainAccess s .load rs1 op2 4) rd

/-- Load a signed word from alternate space (42_loadstore.md R573). -/
def execLdswa (rd : RegField) (rs1 : RegField) (op2 : AsiOp2) (s : State) : Result :=
  loadSigned s (altAccess s .load rs1 op2 4) rd

/-- Load an unsigned byte (42_loadstore.md R566). -/
def execLdub (rd : RegField) (rs1 : RegField) (op2 : Op2) (s : State) : Result :=
  loadUnsigned s (plainAccess s .load rs1 op2 1) rd

/-- Load an unsigned byte from alternate space (42_loadstore.md R574). -/
def execLduba (rd : RegField) (rs1 : RegField) (op2 : AsiOp2) (s : State) : Result :=
  loadUnsigned s (altAccess s .load rs1 op2 1) rd

/-- Load an unsigned halfword (42_loadstore.md R567). -/
def execLduh (rd : RegField) (rs1 : RegField) (op2 : Op2) (s : State) : Result :=
  loadUnsigned s (plainAccess s .load rs1 op2 2) rd

/-- Load an unsigned halfword from alternate space (42_loadstore.md R575). -/
def execLduha (rd : RegField) (rs1 : RegField) (op2 : AsiOp2) (s : State) : Result :=
  loadUnsigned s (altAccess s .load rs1 op2 2) rd

/-- Load an unsigned word (42_loadstore.md R568). -/
def execLduw (rd : RegField) (rs1 : RegField) (op2 : Op2) (s : State) : Result :=
  loadUnsigned s (plainAccess s .load rs1 op2 4) rd

/-- Load an unsigned word from alternate space (42_loadstore.md R576). -/
def execLduwa (rd : RegField) (rs1 : RegField) (op2 : AsiOp2) (s : State) : Result :=
  loadUnsigned s (altAccess s .load rs1 op2 4) rd

/-- Load an extended word (42_loadstore.md R569). -/
def execLdx (rd : RegField) (rs1 : RegField) (op2 : Op2) (s : State) : Result :=
  loadUnsigned s (plainAccess s .load rs1 op2 8) rd

/-- Load an extended word from alternate space (42_loadstore.md R577). -/
def execLdxa (rd : RegField) (rs1 : RegField) (op2 : AsiOp2) (s : State) : Result :=
  loadUnsigned s (altAccess s .loadX rs1 op2 8) rd

/-! ## Stores -/

/-- Store a byte (42_loadstore.md R580). -/
def execStb (rd : RegField) (rs1 : RegField) (op2 : Op2) (s : State) : Result :=
  storeReg s (plainAccess s .store rs1 op2 1) rd

/-- Store a byte into alternate space (42_loadstore.md R585). -/
def execStba (rd : RegField) (rs1 : RegField) (op2 : AsiOp2) (s : State) : Result :=
  storeReg s (altAccess s .store rs1 op2 1) rd

/-- Store a halfword (42_loadstore.md R581). -/
def execSth (rd : RegField) (rs1 : RegField) (op2 : Op2) (s : State) : Result :=
  storeReg s (plainAccess s .store rs1 op2 2) rd

/-- Store a halfword into alternate space (42_loadstore.md R586). -/
def execStha (rd : RegField) (rs1 : RegField) (op2 : AsiOp2) (s : State) : Result :=
  storeReg s (altAccess s .store rs1 op2 2) rd

/-- Store a word (42_loadstore.md R582). -/
def execStw (rd : RegField) (rs1 : RegField) (op2 : Op2) (s : State) : Result :=
  storeReg s (plainAccess s .store rs1 op2 4) rd

/-- Store a word into alternate space (42_loadstore.md R587). -/
def execStwa (rd : RegField) (rs1 : RegField) (op2 : AsiOp2) (s : State) : Result :=
  storeReg s (altAccess s .store rs1 op2 4) rd

/-- Store an extended word (42_loadstore.md R583). -/
def execStx (rd : RegField) (rs1 : RegField) (op2 : Op2) (s : State) : Result :=
  storeReg s (plainAccess s .store rs1 op2 8) rd

/-- Store an extended word into alternate space (42_loadstore.md R588). -/
def execStxa (rd : RegField) (rs1 : RegField) (op2 : AsiOp2) (s : State) : Result :=
  storeReg s (altAccess s .storeX rs1 op2 8) rd

/-! ## Twin words -/

/-- Load two words into a register pair (42_loadstore.md R590). -/
def execLdtw (rd : RegField) (rs1 : RegField) (op2 : Op2) (s : State) : Result :=
  loadPair s (plainAccess s .load rs1 op2 8) 4 rd

/-- Load two words from alternate space; with a twin-extended-word ASI, LDTXA (D21) (42_loadstore.md R591). -/
def execLdtwa (rd : RegField) (rs1 : RegField) (op2 : AsiOp2) (s : State) : Result :=
  if isTwinAsi (asiOf s op2) then loadPair s (altAccess s .loadTwinX rs1 op2 16) 8 rd
  else loadPair s (altAccess s .load rs1 op2 8) 4 rd

/-- Load two extended words into a register pair (42_loadstore.md R592). -/
def execLdtxa (rd : RegField) (rs1 : RegField) (asi : BitVec 8) (rs2 : RegField) (s : State) : Result :=
  loadPair s (altAccess s .loadTwinX rs1 (.reg asi rs2) 16) 8 rd

/-- Store two words (42_loadstore.md R593). -/
def execSttw (rd : RegField) (rs1 : RegField) (op2 : Op2) (s : State) : Result :=
  storePair s (plainAccess s .store rs1 op2 8) rd

/-- Store two words into alternate space (42_loadstore.md R594). -/
def execSttwa (rd : RegField) (rs1 : RegField) (op2 : AsiOp2) (s : State) : Result :=
  storePair s (altAccess s .store rs1 op2 8) rd

/-! ## Atomics -/

/-- Load a byte and store all ones (42_loadstore.md R601). -/
def execLdstub (rd : RegField) (rs1 : RegField) (op2 : Op2) (s : State) : Result :=
  atomicReg s (plainAccess s .atomic rs1 op2 1) (fun _ => 0xFF#64) rd

/-- LDSTUB in alternate space (42_loadstore.md R602). -/
def execLdstuba (rd : RegField) (rs1 : RegField) (op2 : AsiOp2) (s : State) : Result :=
  atomicReg s (altAccess s .atomic rs1 op2 1) (fun _ => 0xFF#64) rd

/-- Exchange a word (42_loadstore.md R603). -/
def execSwap (rd : RegField) (rs1 : RegField) (op2 : Op2) (s : State) : Result :=
  atomicReg s (plainAccess s .atomic rs1 op2 4) (fun _ => s.readR rd) rd

/-- SWAP in alternate space (42_loadstore.md R604). -/
def execSwapa (rd : RegField) (rs1 : RegField) (op2 : AsiOp2) (s : State) : Result :=
  atomicReg s (altAccess s .atomic rs1 op2 4) (fun _ => s.readR rd) rd

/-- Compare and swap a word (42_loadstore.md R610). -/
def execCasa (rd : RegField) (rs1 : RegField) (asi : CasAsi) (rs2 : RegField) (s : State) : Result :=
  atomicReg s (casAccess s rs1 asi 4)
    (swapIfEqual (((s.readR rs2).setWidth 32).setWidth 64) (((s.readR rd).setWidth 32).setWidth 64)) rd

/-- Compare and swap an extended word (42_loadstore.md R611). -/
def execCasxa (rd : RegField) (rs1 : RegField) (asi : CasAsi) (rs2 : RegField) (s : State) : Result :=
  atomicReg s (casAccess s rs1 asi 8) (swapIfEqual (s.readR rs2) (s.readR rd)) rd

/-! ## Hints and barriers -/

/-- A hint (42_loadstore.md R615). -/
def execPrefetch (fcn : BitVec 5) (_rs1 : RegField) (_op2 : Op2) (s : State) : Result := prefetchHint s fcn

/-- A hint, in alternate space (42_loadstore.md R615). -/
def execPrefetcha (fcn : BitVec 5) (_rs1 : RegField) (_op2 : AsiOp2) (s : State) : Result := prefetchHint s fcn

/-- A barrier: with one virtual processor and no store buffer, nothing (log 5) (42_loadstore.md R620). -/
def execMembar (_cmask : BitVec 3) (_mmask : BitVec 4) (s : State) : Result := complete s

/-- A store barrier: nothing (log 5) (42_loadstore.md R621). -/
def execStbar (s : State) : Result := complete s

/-- Instruction and data memory are one, so nothing; the address is not translated (42_loadstore.md R622). -/
def execFlush (_rs1 : RegField) (_op2 : AsiOp2) (s : State) : Result := complete s

end Sys2Proof.Machine
end

