-- ==== Sys2Proof/Machine/FpMemory.lean ====
section
/-!
DEFINITION. Floating-point loads and stores, FSR load and store, block, short and partial transfers
(43_fp_loadstore.md).
-/

namespace Sys2Proof.Machine

/-! ## FSR as a word -/

/-- FSR as its 64 bits (10_state.md R80 to R92). -/
def Fsr.bits (f : Fsr) : Word :=
  0#26 ++ f.fcc3 ++ f.fcc2 ++ f.fcc1 ++ f.rd ++ 0#2 ++ f.tem ++ 0#1 ++ 0#2 ++ Config.fsrVer ++ f.ftt ++ 0#2 ++ f.fcc0 ++
    f.aexc ++ f.cexc

/-- FSR after LDFSR of a word: FsrLoadMask32 (43_fp_loadstore.md R670). -/
def Fsr.load32 (f : Fsr) (w : Word) : Fsr :=
  { f with
    rd := w.extractLsb' 30 2
    tem := w.extractLsb' 23 5
    fcc0 := w.extractLsb' 10 2
    aexc := w.extractLsb' 5 5
    cexc := w.extractLsb' 0 5 }

/-- FSR after LDXFSR of a doubleword: FsrLoadMask64 (43_fp_loadstore.md R670). -/
def Fsr.load64 (f : Fsr) (w : Word) : Fsr :=
  { f.load32 w with fcc1 := w.extractLsb' 32 2, fcc2 := w.extractLsb' 34 2, fcc3 := w.extractLsb' 36 2 }

/-- Replace FSR. -/
def State.setFsr (s : State) (f : Fsr) : State := { s with fsr := f }

/-- FSR.ftt <- 0, after a store of FSR (43_fp_loadstore.md R685). -/
def State.clearFtt (s : State) : State := s.setFsr { s.fsr with ftt := 0#3 }

/-! ## Shared operations -/

/-- A load into FS[rd]. -/
def loadSingle (s : State) (a : Access) (rd : RegField) : Result :=
  withFpDest s State.markLower (loadValue s a fun v => complete (s.writeFS rd (v.setWidth 32)))

/-- A load into FD[rd]. -/
def loadDouble (s : State) (a : Access) (rd : RegField) : Result :=
  withFpDest s (fun t => t.markDouble rd) (loadValue s a fun v => complete (s.writeFD rd v))

/-- A store of FS[rd]. -/
def storeSingle (s : State) (a : Access) (rd : RegField) : Result :=
  withFp s (storeValue s a ((s.readFS rd).setWidth 64) complete)

/-- A store of FD[rd]. -/
def storeDouble (s : State) (a : Access) (rd : RegField) : Result := withFp s (storeValue s a (s.readFD rd) complete)

/-- The field that names FD[n + 2k], n the register of `rd` (43_fp_loadstore.md R690, 10_state.md R72). -/
def blockReg (rd : RegField) (k : BitVec 3) : RegField := rd.extractLsb' 4 1 ++ k ++ rd.extractLsb' 0 1

/-- The register of a block transfer starts a group of eight (43_fp_loadstore.md R690). -/
def blockAligned (rd : RegField) : Bool := rd.extractLsb' 1 3 == 0#3

/-- Write the eight double registers of a block. -/
def State.writeBlock (s : State) (rd : RegField) (p : Nat → Word) : State :=
  (List.range 8).foldl (fun t k => t.writeFD (blockReg rd (BitVec.ofNat 3 k)) (p k)) s

/-- The eight double registers of a block. -/
def State.readBlock (s : State) (rd : RegField) : List Word :=
  (List.range 8).map fun k => s.readFD (blockReg rd (BitVec.ofNat 3 k))

/-- LDBLOCKF on an access (43_fp_loadstore.md R691). -/
def loadBlock (s : State) (a : Access) (rd : RegField) : Result :=
  if !blockAligned rd then raise .illegalInstruction s
  else withFpDest s (fun t => t.markDouble rd) (loadParts s a 8 fun p => complete (s.writeBlock rd p))

/-- STBLOCKF on an access (43_fp_loadstore.md R692). -/
def storeBlock (s : State) (a : Access) (rd : RegField) : Result :=
  if !blockAligned rd then raise .illegalInstruction s
  else withFp s (storeParts s a 8 (s.readBlock rd) complete)

/-- STDFA with i = 1 and a partial store ASI in the ASI register is illegal (43_fp_loadstore.md R697). -/
def partialByRegister (s : State) : AsiOp2 → Bool
  | .reg _ _ => false
  | .imm _ => isPartialAsi s.asi

/-! ## Loads -/

/-- Load FS[rd] (43_fp_loadstore.md R662). -/
def execLdf (rd : RegField) (rs1 : RegField) (op2 : Op2) (s : State) : Result :=
  loadSingle s (plainAccess s .load rs1 op2 4) rd

/-- Load FS[rd] from alternate space (43_fp_loadstore.md R666). -/
def execLdfa (rd : RegField) (rs1 : RegField) (op2 : AsiOp2) (s : State) : Result :=
  loadSingle s (altAccess s .load rs1 op2 4) rd

/-- Load FD[rd] (43_fp_loadstore.md R663). -/
def execLddf (rd : RegField) (rs1 : RegField) (op2 : Op2) (s : State) : Result :=
  loadDouble s (plainAccess s .loadD rs1 op2 8) rd

/-- Load FD[rd] from alternate space; with a block ASI, LDBLOCKF (43_fp_loadstore.md R667). -/
def execLddfa (rd : RegField) (rs1 : RegField) (op2 : AsiOp2) (s : State) : Result :=
  if isBlockAsi (asiOf s op2) then loadBlock s (altAccess s .loadBlock rs1 op2 64) rd
  else loadDouble s (altAccess s .loadD rs1 op2 8) rd

/-- Quad registers are not implemented in hardware: illegal_instruction (43_fp_loadstore.md R664). -/
def execLdqf (_rd : RegField) (_rs1 : RegField) (_op2 : Op2) (s : State) : Result := raise .illegalInstruction s

/-- Quad registers are not implemented in hardware: illegal_instruction (43_fp_loadstore.md R668). -/
def execLdqfa (_rd : RegField) (_rs1 : RegField) (_op2 : AsiOp2) (s : State) : Result := raise .illegalInstruction s

/-- Load eight double registers (43_fp_loadstore.md R691). -/
def execLdblockf (rd : RegField) (rs1 : RegField) (asi : BitVec 8) (rs2 : RegField) (s : State) : Result :=
  loadBlock s (altAccess s .loadBlock rs1 (.reg asi rs2) 64) rd

/-- Not implemented in hardware: DataAccess raises data_access_exception for its ASIs (43_fp_loadstore.md R695). -/
def execLdshortf (rd : RegField) (rs1 : RegField) (asi : BitVec 8) (rs2 : RegField) (s : State) : Result :=
  loadDouble s (altAccess s .loadD rs1 (.reg asi rs2) 8) rd

/-! ## Stores -/

/-- Store FS[rd] (43_fp_loadstore.md R675). -/
def execStf (rd : RegField) (rs1 : RegField) (op2 : Op2) (s : State) : Result :=
  storeSingle s (plainAccess s .store rs1 op2 4) rd

/-- Store FS[rd] into alternate space (43_fp_loadstore.md R679). -/
def execStfa (rd : RegField) (rs1 : RegField) (op2 : AsiOp2) (s : State) : Result :=
  storeSingle s (altAccess s .store rs1 op2 4) rd

/-- Store FD[rd] (43_fp_loadstore.md R676). -/
def execStdf (rd : RegField) (rs1 : RegField) (op2 : Op2) (s : State) : Result :=
  storeDouble s (plainAccess s .storeD rs1 op2 8) rd

/-- Store FD[rd] into alternate space; with a block ASI, STBLOCKF (43_fp_loadstore.md R680). -/
def execStdfa (rd : RegField) (rs1 : RegField) (op2 : AsiOp2) (s : State) : Result :=
  if partialByRegister s op2 then raise .illegalInstruction s
  else if isBlockAsi (asiOf s op2) then storeBlock s (altAccess s .storeBlock rs1 op2 64) rd
  else storeDouble s (altAccess s .storeD rs1 op2 8) rd

/-- Quad registers are not implemented in hardware: illegal_instruction (43_fp_loadstore.md R677). -/
def execStqf (_rd : RegField) (_rs1 : RegField) (_op2 : Op2) (s : State) : Result := raise .illegalInstruction s

/-- Quad registers are not implemented in hardware: illegal_instruction (43_fp_loadstore.md R681). -/
def execStqfa (_rd : RegField) (_rs1 : RegField) (_op2 : AsiOp2) (s : State) : Result := raise .illegalInstruction s

/-- Store eight double registers (43_fp_loadstore.md R692). -/
def execStblockf (rd : RegField) (rs1 : RegField) (asi : BitVec 8) (rs2 : RegField) (s : State) : Result :=
  storeBlock s (altAccess s .storeBlock rs1 (.reg asi rs2) 64) rd

/-- Not implemented in hardware: DataAccess raises data_access_exception for its ASIs (43_fp_loadstore.md R696). -/
def execStshortf (rd : RegField) (rs1 : RegField) (asi : BitVec 8) (rs2 : RegField) (s : State) : Result :=
  storeDouble s (altAccess s .storeD rs1 (.reg asi rs2) 8) rd

/-- Not implemented in hardware: DataAccess raises data_access_exception for its ASIs; the address is R[rs1] (43_fp_loadstore.md R697). -/
def execStpartialf (rd : RegField) (rs1 : RegField) (asi : BitVec 8) (_rs2 : RegField) (s : State) : Result :=
  storeDouble s { cls := .storeD, asi := some asi, addr := s.readR rs1, size := 8 } rd

/-! ## FSR -/

/-- Load the low word of FSR (43_fp_loadstore.md R671). -/
def execLdfsr (rs1 : RegField) (op2 : Op2) (s : State) : Result :=
  withFp s (loadValue s (plainAccess s .load rs1 op2 4) fun v => complete (s.setFsr (s.fsr.load32 v)))

/-- Load FSR (43_fp_loadstore.md R672). -/
def execLdxfsr (rs1 : RegField) (op2 : Op2) (s : State) : Result :=
  withFp s (loadValue s (plainAccess s .load rs1 op2 8) fun v => complete (s.setFsr (s.fsr.load64 v)))

/-- Store the low word of FSR and clear ftt (43_fp_loadstore.md R685). -/
def execStfsr (rs1 : RegField) (op2 : Op2) (s : State) : Result :=
  withFp s (storeValue s (plainAccess s .store rs1 op2 4) s.fsr.bits fun t => complete t.clearFtt)

/-- Store FSR and clear ftt (43_fp_loadstore.md R686). -/
def execStxfsr (rs1 : RegField) (op2 : Op2) (s : State) : Result :=
  withFp s (storeValue s (plainAccess s .store rs1 op2 8) s.fsr.bits fun t => complete t.clearFtt)

end Sys2Proof.Machine
end

