-- ==== Sys2Proof/Machine/Float.lean ====
section
/-!
DEFINITION. IEEE Std 754 arithmetic on single and double patterns, as 45_fp.md R806 to R808, R816, R857 and the operation
tables state it. Patterns are natural numbers below 2^width; an operation converts its operands to exact values, computes
exactly and rounds once.
-/

namespace Sys2Proof.Float

/-- A binary floating-point format: widths of the exponent and fraction fields (10_state.md R75). -/
structure Format where
  expBits : Nat
  fracBits : Nat
  deriving DecidableEq, Repr

/-- 8-bit exponent, 23-bit fraction. -/
def single : Format := { expBits := 8, fracBits := 23 }
/-- 11-bit exponent, 52-bit fraction. -/
def double : Format := { expBits := 11, fracBits := 52 }

/-- The exponent bias. -/
def Format.bias (f : Format) : Int := 2 ^ (f.expBits - 1) - 1
/-- The exponent of the smallest normalized number. -/
def Format.minExp (f : Format) : Int := 1 - f.bias
/-- The magnitude pattern of infinity: exponent all ones, fraction zero. -/
def Format.infMag (f : Format) : Nat := (2 ^ f.expBits - 1) * 2 ^ f.fracBits
/-- The sign bit's weight. -/
def Format.signBit (f : Format) : Nat := 2 ^ (f.expBits + f.fracBits)
/-- The quiet bit's weight, the most significant fraction bit. -/
def Format.quietBit (f : Format) : Nat := 2 ^ (f.fracBits - 1)

/-- The value a pattern stands for: `finite neg sig exp` is ±sig · 2^exp with sig > 0. -/
inductive Value where
  | nan (neg : Bool) (frac : Nat)
  | inf (neg : Bool)
  | zero (neg : Bool)
  | finite (neg : Bool) (sig : Nat) (exp : Int)
  deriving DecidableEq, Repr

/-- Rounding directions (45_fp.md R807): 0 nearest even, 1 toward zero, 2 toward +infinity, 3 toward -infinity. -/
inductive RoundMode where
  | nearestEven
  | towardZero
  | towardPosInf
  | towardNegInf
  deriving DecidableEq, Repr

/-- The rounding direction of a two-bit field (10_state.md R83). -/
def RoundMode.ofBits (b : BitVec 2) : RoundMode :=
  match b with
  | 0#2 => .nearestEven
  | 1#2 => .towardZero
  | 2#2 => .towardPosInf
  | _ => .towardNegInf

/-- A computed pattern and the conditions detected: invalid, division by zero, overflow, tiny before rounding (R806),
inexact. -/
structure Computed where
  bits : Nat
  nv : Bool
  dz : Bool
  ovf : Bool
  tiny : Bool
  nx : Bool
  deriving DecidableEq, Repr

/-- A result with no condition. -/
def Computed.exact (bits : Nat) : Computed :=
  { bits, nv := false, dz := false, ovf := false, tiny := false, nx := false }

/-- A pattern from a sign and a magnitude. -/
def Format.pack (f : Format) (neg : Bool) (mag : Nat) : Nat := (if neg then f.signBit else 0) + mag

/-- dQNaN: sign 0, exponent and fraction all ones (45_fp.md R808). -/
def Format.defaultNaN (f : Format) : Nat := f.signBit - 1

/-- An invalid operation on operands that are no NaN (45_fp.md R808). -/
def Format.invalid (f : Format) : Computed := { Computed.exact f.defaultNaN with nv := true }

/-- The value of a pattern (10_state.md R75). -/
def Format.unpack (f : Format) (x : Nat) : Value :=
  let neg := x.testBit (f.expBits + f.fracBits)
  let e := x / 2 ^ f.fracBits % 2 ^ f.expBits
  let m := x % 2 ^ f.fracBits
  if e = 2 ^ f.expBits - 1 then (if m = 0 then .inf neg else .nan neg m)
  else if e = 0 then (if m = 0 then .zero neg else .finite neg m (f.minExp - f.fracBits))
  else .finite neg (2 ^ f.fracBits + m) ((e : Int) - f.bias - f.fracBits)

/-- A signalling NaN: most significant fraction bit 0 (45_fp.md R808). -/
def Value.isSNaN (f : Format) : Value → Bool
  | .nan _ frac => decide (frac < f.quietBit)
  | _ => false

/-- Any NaN. -/
def Value.isNaN : Value → Bool
  | .nan _ _ => true
  | _ => false

/-- The pattern of a NaN with the quiet bit set, other bits kept (QSNaN of R808; a quiet NaN is unchanged). -/
def Format.quieted (f : Format) (neg : Bool) (frac : Nat) : Nat :=
  f.pack neg (f.infMag + (if frac < f.quietBit then frac + f.quietBit else frac))

/-- The untrapped overflow result (45_fp.md R807): infinity, or the largest finite number, by mode and sign. -/
def Format.overflow (f : Format) (mode : RoundMode) (neg : Bool) : Computed :=
  let toInf :=
    match mode with
    | .nearestEven => true
    | .towardZero => false
    | .towardPosInf => !neg
    | .towardNegInf => neg
  { Computed.exact (f.pack neg (if toInf then f.infMag else f.infMag - 1)) with ovf := true, nx := true }

/-- Whether rounding moves the kept significand up: `rem` of `2 ^ d` was discarded. -/
def roundsUp (mode : RoundMode) (neg : Bool) (kept rem d : Nat) : Bool :=
  match mode with
  | .nearestEven => decide (2 ^ d < 2 * rem) || (decide (2 * rem = 2 ^ d) && decide (kept % 2 = 1))
  | .towardZero => false
  | .towardPosInf => !neg && decide (rem ≠ 0)
  | .towardNegInf => neg && decide (rem ≠ 0)

/-- Round_fmt(±sig · 2^exp), sig > 0, with its conditions (45_fp.md R806, R807). `q` is the exponent of a unit in the
last place. -/
def Format.round (f : Format) (mode : RoundMode) (neg : Bool) (sig : Nat) (exp : Int) : Computed :=
  let e : Int := exp + (sig.log2 : Int)
  let q : Int := max e f.minExp - f.fracBits
  let d := (q - exp).toNat
  let kept := if q ≤ exp then sig * 2 ^ (exp - q).toNat else sig / 2 ^ d
  let rem := if q ≤ exp then 0 else sig % 2 ^ d
  let up := roundsUp mode neg kept rem d
  let mag := (q + f.fracBits - f.minExp).toNat * 2 ^ f.fracBits + kept + (if up then 1 else 0)
  if f.infMag ≤ mag then f.overflow mode neg
  else { Computed.exact (f.pack neg mag) with tiny := decide (e < f.minExp), nx := decide (rem ≠ 0) }

/-- A zero of either sign. -/
def Format.zeroResult (f : Format) (neg : Bool) : Computed := Computed.exact (f.pack neg 0)
/-- An infinity of either sign, without a condition. -/
def Format.infResult (f : Format) (neg : Bool) : Computed := Computed.exact (f.pack neg f.infMag)

/-- NaN operands of a two-operand operation, rs2 first (45_fp.md R808); none when neither is a NaN. -/
def Format.nanResult (f : Format) (a b : Value) : Option Computed :=
  match a, b with
  | _, .nan neg frac =>
    if Value.isSNaN f b then some { Computed.exact (f.quieted neg frac) with nv := true }
    else
      match a with
      | .nan neg1 frac1 =>
        if Value.isSNaN f a then some { Computed.exact (f.quieted neg1 frac1) with nv := true }
        else some (Computed.exact (f.quieted neg frac))
      | _ => some (Computed.exact (f.quieted neg frac))
  | .nan neg frac, _ => some { Computed.exact (f.quieted neg frac) with nv := Value.isSNaN f a }
  | _, _ => none

/-- The signed significand of a finite value, scaled to the exponent `e` (at most its own). -/
def scaled (neg : Bool) (sig : Nat) (exp e : Int) : Int :=
  (if neg then -1 else 1) * ((sig * 2 ^ (exp - e).toNat : Nat) : Int)

/-- The sum of two values that are no NaN (45_fp.md R813, TABLE 8-2). -/
def Format.addValues (f : Format) (mode : RoundMode) (a b : Value) : Computed :=
  match a, b with
  | .inf na, .inf nb => if na = nb then f.infResult na else f.invalid
  | .inf na, _ => f.infResult na
  | _, .inf nb => f.infResult nb
  | .zero na, .zero nb => f.zeroResult (if na = nb then na else decide (mode = .towardNegInf))
  | .zero _, .finite nb sb eb => f.round mode nb sb eb
  | .finite na sa ea, .zero _ => f.round mode na sa ea
  | .finite na sa ea, .finite nb sb eb =>
    let e := min ea eb
    let t := scaled na sa ea e + scaled nb sb eb e
    if t = 0 then f.zeroResult (decide (mode = .towardNegInf)) else f.round mode (decide (t < 0)) t.natAbs e
  | _, _ => f.invalid

/-- A value with its sign complemented. -/
def Value.negate : Value → Value
  | .nan n x => .nan (!n) x
  | .inf n => .inf (!n)
  | .zero n => .zero (!n)
  | .finite n s e => .finite (!n) s e

/-- The product of two values that are no NaN (45_fp.md R846, TABLE 8-4). -/
def Format.mulValues (f : Format) (mode : RoundMode) (a b : Value) : Computed :=
  match a, b with
  | .inf _, .zero _ => f.invalid
  | .zero _, .inf _ => f.invalid
  | .inf na, .inf nb => f.infResult (na != nb)
  | .inf na, .finite nb _ _ => f.infResult (na != nb)
  | .finite na _ _, .inf nb => f.infResult (na != nb)
  | .zero na, .zero nb => f.zeroResult (na != nb)
  | .zero na, .finite nb _ _ => f.zeroResult (na != nb)
  | .finite na _ _, .zero nb => f.zeroResult (na != nb)
  | .finite na sa ea, .finite nb sb eb => f.round mode (na != nb) (sa * sb) (ea + eb)
  | _, _ => f.invalid

/-- The rounded quotient of two nonzero finite magnitudes: a quotient of more than fracBits + 2 bits whose last bit stands
for the nonzero remainder. -/
def Format.divFinite (f : Format) (mode : RoundMode) (neg : Bool) (sa : Nat) (ea : Int) (sb : Nat) (eb : Int) : Computed :=
  let k := f.fracBits + 3 + (sb.log2 + 1)
  let n := sa * 2 ^ k
  f.round mode neg (2 * (n / sb) + (if n % sb = 0 then 0 else 1)) (ea - eb - k - 1)

/-- The quotient of two values that are no NaN (45_fp.md R823, TABLE 8-5). -/
def Format.divValues (f : Format) (mode : RoundMode) (a b : Value) : Computed :=
  match a, b with
  | .inf _, .inf _ => f.invalid
  | .zero _, .zero _ => f.invalid
  | .inf na, .zero nb => f.infResult (na != nb)
  | .inf na, .finite nb _ _ => f.infResult (na != nb)
  | .zero na, .inf nb => f.zeroResult (na != nb)
  | .finite na _ _, .inf nb => f.zeroResult (na != nb)
  | .finite na _ _, .zero nb => { f.infResult (na != nb) with dz := true }
  | .zero na, .finite nb _ _ => f.zeroResult (na != nb)
  | .finite na sa ea, .finite nb sb eb => f.divFinite mode (na != nb) sa ea sb eb
  | _, _ => f.invalid

/-- F[rs1] + F[rs2] on patterns (45_fp.md R813). -/
def Format.add (f : Format) (mode : RoundMode) (a b : Nat) : Computed :=
  (f.nanResult (f.unpack a) (f.unpack b)).getD (f.addValues mode (f.unpack a) (f.unpack b))

/-- F[rs1] - F[rs2] on patterns (45_fp.md R870). -/
def Format.sub (f : Format) (mode : RoundMode) (a b : Nat) : Computed :=
  (f.nanResult (f.unpack a) (f.unpack b)).getD (f.addValues mode (f.unpack a) (f.unpack b).negate)

/-- F[rs1] × F[rs2] on patterns (45_fp.md R846). -/
def Format.mul (f : Format) (mode : RoundMode) (a b : Nat) : Computed :=
  (f.nanResult (f.unpack a) (f.unpack b)).getD (f.mulValues mode (f.unpack a) (f.unpack b))

/-- F[rs1] ÷ F[rs2] on patterns (45_fp.md R823). -/
def Format.div (f : Format) (mode : RoundMode) (a b : Nat) : Computed :=
  (f.nanResult (f.unpack a) (f.unpack b)).getD (f.divValues mode (f.unpack a) (f.unpack b))

/-- A single-precision NaN widened to double: sign kept, fraction bits placed in 51:29, quiet bit set (45_fp.md R849,
R864). -/
def widenNaN (neg : Bool) (frac : Nat) : Nat :=
  double.pack neg (double.infMag + (if frac < single.quietBit then frac + single.quietBit else frac) * 2 ^ 29)

/-- FsTOd on patterns (45_fp.md R864). -/
def singleToDouble (mode : RoundMode) (a : Nat) : Computed :=
  match single.unpack a with
  | .nan neg frac => { Computed.exact (widenNaN neg frac) with nv := decide (frac < single.quietBit) }
  | .inf neg => double.infResult neg
  | .zero neg => double.zeroResult neg
  | .finite neg sig exp => double.round mode neg sig exp

/-- FdTOs on patterns (45_fp.md R866): low fraction bits of a NaN are discarded, no NX. -/
def doubleToSingle (mode : RoundMode) (a : Nat) : Computed :=
  match double.unpack a with
  | .nan neg frac =>
    { Computed.exact (single.quieted neg (frac / 2 ^ 29)) with nv := decide (frac < double.quietBit) }
  | .inf neg => single.infResult neg
  | .zero neg => single.zeroResult neg
  | .finite neg sig exp => single.round mode neg sig exp

/-- FsMULd on patterns (45_fp.md R849): the exact double product of two singles. -/
def singleMulDouble (mode : RoundMode) (a b : Nat) : Computed :=
  match single.nanResult (single.unpack a) (single.unpack b) with
  | some r =>
    { r with bits := widenNaN (r.bits.testBit 31) (r.bits % 2 ^ 23) }
  | none => double.mulValues mode (single.unpack a) (single.unpack b)

/-- A signed integer rounded to a format (45_fp.md R826, R873): zero gives +0. -/
def Format.ofInt (f : Format) (mode : RoundMode) (n : Int) : Computed :=
  if n = 0 then f.zeroResult false else f.round mode (decide (n < 0)) n.natAbs 0

/-- FToInt(x, N) of 45_fp.md R857, the result as a signed integer of `n` bits and the conditions nv, nx. -/
def Format.toInt (f : Format) (n : Nat) (a : Nat) : Int × Bool × Bool :=
  let bound : Int := 2 ^ (n - 1)
  let saturated (neg : Bool) : Int × Bool × Bool := (if neg then -bound else bound - 1, true, false)
  match f.unpack a with
  | .nan neg _ => saturated neg
  | .inf neg => saturated neg
  | .zero _ => (0, false, false)
  | .finite neg sig exp =>
    let mag := if 0 ≤ exp then sig * 2 ^ exp.toNat else sig / 2 ^ (-exp).toNat
    let inexact := if 0 ≤ exp then false else decide (sig % 2 ^ (-exp).toNat ≠ 0)
    let t : Int := if neg then -(mag : Int) else mag
    if bound ≤ t ∨ t ≤ -(bound + 1) then saturated neg else (t, false, inexact)

/-- The order of two patterns that are no NaN: sign and magnitude as one integer, so that +0 = -0. -/
def Format.orderKey (f : Format) (a : Nat) : Int :=
  let mag : Int := (a % f.signBit : Nat)
  if a.testBit (f.expBits + f.fracBits) then -mag else mag

/-- FCompare(a, b): 0 equal, 1 less, 2 greater, 3 unordered (45_fp.md R816). -/
def Format.compare (f : Format) (a b : Nat) : BitVec 2 :=
  if (f.unpack a).isNaN || (f.unpack b).isNaN then 3#2
  else if f.orderKey a = f.orderKey b then 0#2
  else if f.orderKey a < f.orderKey b then 1#2
  else 2#2

/-- Either operand is a signalling NaN. -/
def Format.anySNaN (f : Format) (a b : Nat) : Bool := (f.unpack a).isSNaN f || (f.unpack b).isSNaN f

/-- Either operand is any NaN. -/
def Format.anyNaN (f : Format) (a b : Nat) : Bool := (f.unpack a).isNaN || (f.unpack b).isNaN

end Sys2Proof.Float
end

