-- ==== Sys2Proof/Machine/Fpop.lean ====
section
/-!
DEFINITION. The floating-point operate instructions, FPop1 and FPop2 (45_fp.md). The arithmetic itself is Float.lean's.
-/

namespace Sys2Proof.Machine

open Sys2Proof.Float

/-! ## Delivery of IEEE 754 exceptions (45_fp.md R805, R806) -/

/-- RoundMode() (45_fp.md R807). -/
def State.roundMode (s : State) : RoundMode := RoundMode.ofBits (if s.gsr.im then s.gsr.irnd else s.fsr.rd)

/-- Underflow is detected: tiny, and inexact unless its trap is enabled (45_fp.md R806). -/
def underflowDetected (c : Computed) (ufm : Bool) : Bool := c.tiny && (ufm || c.nx)

/-- cexc for the conditions detected, and whether they trap (45_fp.md R805, TABLE 5-8). Bits: nv 4, of 3, uf 2, dz 1,
nx 0. -/
def ieeeOutcome (tem : BitVec 5) (c : Computed) : BitVec 5 × Bool :=
  let nvm := tem.getLsbD 4
  let ofm := tem.getLsbD 3
  let ufm := tem.getLsbD 2
  let dzm := tem.getLsbD 1
  let nxm := tem.getLsbD 0
  if c.nv then (0b10000#5, nvm)
  else if c.dz then (0b00010#5, dzm)
  else if c.ovf then (if ofm then (0b01000#5, true) else if nxm then (0b00001#5, true) else (0b01001#5, false))
  else if underflowDetected c ufm then
    (if ufm then (0b00100#5, true) else if nxm then (0b00001#5, true) else (0b00101#5, false))
  else if c.nx then (0b00001#5, nxm)
  else (0b00000#5, false)

/-- FSR after an FPop that completes: cexc, the accrued exceptions, ftt 0 (45_fp.md R802). -/
def Fsr.completed (f : Fsr) (c : BitVec 5) : Fsr := { f with cexc := c, aexc := f.aexc ||| c, ftt := 0#3 }

/-- FpDeliver(E, result): trap with cexc and ftt = 1 written, or write the result (45_fp.md R805). -/
def fpDeliver (s : State) (c : Computed) (write : State → State) : Result :=
  if (ieeeOutcome s.fsr.tem c).2 then
    raise .fpExceptionIeee754 (s.setFsr { s.fsr with cexc := (ieeeOutcome s.fsr.tem c).1, ftt := 1#3 })
  else complete ((write s).setFsr ((write s).fsr.completed (ieeeOutcome s.fsr.tem c).1))

/-- unfinished_FPop: fp_exception_other with ftt = 2, for the operands of Config.unfinishedFPop (45_fp.md R804, D6). -/
def fpFinish (s : State) (opf : BitVec 9) (a b : Word) (k : Result) : Result :=
  if Config.unfinishedFPop opf a b then raise .fpExceptionOther (s.setFsr { s.fsr with ftt := 2#3 }) else k

/-- unimplemented_FPop: fp_exception_other with ftt = 3 (45_fp.md R803). -/
def unimplementedFPop (s : State) : Result := raise .fpExceptionOther (s.setFsr { s.fsr with ftt := 3#3 })

/-- An FPop with a quad destination, or no hardware implementation: FpCheck, then unimplemented_FPop (45_fp.md R803,
R854). -/
def fpUnimplementedDest (s : State) (mark : State → State) : Result := withFpDest s mark (unimplementedFPop s)

/-! ## Operand and result forms -/

/-- The pattern of FS[f]. -/
def State.single (s : State) (f : RegField) : Nat := (s.readFS f).toNat

/-- The pattern of FD[f]. -/
def State.double (s : State) (f : RegField) : Nat := (s.readFD f).toNat

/-- An FPop with a single result. -/
def fpSingle (s : State) (rd : RegField) (c : Computed) : Result :=
  fpDeliver s c fun t => t.writeFS rd (BitVec.ofNat 32 c.bits)

/-- An FPop with a double result. -/
def fpDouble (s : State) (rd : RegField) (c : Computed) : Result :=
  fpDeliver s c fun t => t.writeFD rd (BitVec.ofNat 64 c.bits)

/-- A two-operand single FPop (45_fp.md R813). -/
def fpArithSingle (s : State) (opf : BitVec 9) (op : Nat → Nat → Computed) (rd rs1 rs2 : RegField) : Result :=
  withFpDest s State.markLower
    (fpFinish s opf ((s.readFS rs1).setWidth 64) ((s.readFS rs2).setWidth 64)
      (fpSingle s rd (op (s.single rs1) (s.single rs2))))

/-- A two-operand double FPop (45_fp.md R814). -/
def fpArithDouble (s : State) (opf : BitVec 9) (op : Nat → Nat → Computed) (rd rs1 rs2 : RegField) : Result :=
  withFpDest s (fun t => t.markDouble rd)
    (fpFinish s opf (s.readFD rs1) (s.readFD rs2) (fpDouble s rd (op (s.double rs1) (s.double rs2))))

/-- FSR after a move: cexc and ftt 0, aexc kept (45_fp.md R802). -/
def State.clearCexcFtt (s : State) : State := s.setFsr { s.fsr with cexc := 0#5, ftt := 0#3 }

/-- FMOVs, FABSs and FNEGs with the value to write (45_fp.md R829). -/
def fpMoveSingle (s : State) (rd : RegField) (v : HWord) : Result :=
  withFpDest s State.markLower (complete ((s.writeFS rd v).clearCexcFtt))

/-- FMOVd, FABSd and FNEGd with the value to write (45_fp.md R830). -/
def fpMoveDouble (s : State) (rd : RegField) (v : Word) : Result :=
  withFpDest s (fun t => t.markDouble rd) (complete ((s.writeFD rd v).clearCexcFtt))

/-- FMOVcc(single) and FMOVR(single) (45_fp.md R832, R842): the dirty bit only if the register is written (D13). -/
def fpMoveSingleIf (s : State) (t : Bool) (rd rs2 : RegField) : Result :=
  withFpDest s State.markLower (complete ((if t then s.writeFS rd (s.readFS rs2) else s).clearCexcFtt))

/-- FMOVcc(double) and FMOVR(double) (45_fp.md R832, R842). -/
def fpMoveDoubleIf (s : State) (t : Bool) (rd rs2 : RegField) : Result :=
  withFpDest s (fun u => u.markDouble rd) (complete ((if t then s.writeFD rd (s.readFD rs2) else s).clearCexcFtt))

/-- FCMP and FCMPE: FCompare to an fcc field, nv as given (45_fp.md R817, R820). -/
def fpCompare (s : State) (fcc : FccSel) (c : BitVec 2) (nv : Bool) : Result :=
  withFp s (fpDeliver s { Computed.exact 0 with nv := nv } fun t => setFcc t fcc c)

/-- A float-to-integer result as delivered: the two's complement bits and nv, nx (45_fp.md R857). -/
def intComputed (n : Nat) (r : Int × Bool × Bool) : Computed :=
  { Computed.exact (BitVec.ofInt n r.1).toNat with nv := r.2.1, nx := r.2.2 }

/-! ## Moves, absolute value, negation -/

/-- FS[rd] <- FS[rs2] (45_fp.md R829). -/
def execFmovs (rd : RegField) (rs2 : RegField) (s : State) : Result := fpMoveSingle s rd (s.readFS rs2)

/-- FD[rd] <- FD[rs2] (45_fp.md R830). -/
def execFmovd (rd : RegField) (rs2 : RegField) (s : State) : Result := fpMoveDouble s rd (s.readFD rs2)

/-- The sign bit complemented (45_fp.md R851). -/
def execFnegs (rd : RegField) (rs2 : RegField) (s : State) : Result :=
  fpMoveSingle s rd (s.readFS rs2 ^^^ 0x80000000#32)

/-- The sign bit complemented (45_fp.md R852). -/
def execFnegd (rd : RegField) (rs2 : RegField) (s : State) : Result :=
  fpMoveDouble s rd (s.readFD rs2 ^^^ 0x8000000000000000#64)

/-- The sign bit cleared (45_fp.md R810). -/
def execFabss (rd : RegField) (rs2 : RegField) (s : State) : Result :=
  fpMoveSingle s rd (s.readFS rs2 &&& 0x7FFFFFFF#32)

/-- The sign bit cleared (45_fp.md R811). -/
def execFabsd (rd : RegField) (rs2 : RegField) (s : State) : Result :=
  fpMoveDouble s rd (s.readFD rs2 &&& 0x7FFFFFFFFFFFFFFF#64)

/-- Quad precision is not implemented in hardware: unimplemented_FPop (45_fp.md R831). -/
def execFmovq (rd : RegField) (_rs2 : RegField) (s : State) : Result := fpUnimplementedDest s (fun t => t.markDouble rd)

/-- Quad precision is not implemented in hardware: unimplemented_FPop (45_fp.md R853). -/
def execFnegq (rd : RegField) (_rs2 : RegField) (s : State) : Result := fpUnimplementedDest s (fun t => t.markDouble rd)

/-- Quad precision is not implemented in hardware: unimplemented_FPop (45_fp.md R812). -/
def execFabsq (rd : RegField) (_rs2 : RegField) (s : State) : Result := fpUnimplementedDest s (fun t => t.markDouble rd)

/-! ## Square root -/

/-- Not implemented in hardware: unimplemented_FPop (45_fp.md R854). -/
def execFsqrts (_rd : RegField) (_rs2 : RegField) (s : State) : Result := fpUnimplementedDest s State.markLower

/-- Not implemented in hardware: unimplemented_FPop (45_fp.md R855). -/
def execFsqrtd (rd : RegField) (_rs2 : RegField) (s : State) : Result :=
  fpUnimplementedDest s (fun t => t.markDouble rd)

/-- Quad precision is not implemented in hardware: unimplemented_FPop (45_fp.md R856). -/
def execFsqrtq (rd : RegField) (_rs2 : RegField) (s : State) : Result :=
  fpUnimplementedDest s (fun t => t.markDouble rd)

/-! ## Arithmetic -/

/-- FADD in single precision (45_fp.md R813). -/
def execFadds (rd : RegField) (rs1 : RegField) (rs2 : RegField) (s : State) : Result :=
  fpArithSingle s 0x041#9 (Format.add single s.roundMode) rd rs1 rs2

/-- FADD in double precision (45_fp.md R814). -/
def execFaddd (rd : RegField) (rs1 : RegField) (rs2 : RegField) (s : State) : Result :=
  fpArithDouble s 0x042#9 (Format.add double s.roundMode) rd rs1 rs2

/-- Quad precision is not implemented in hardware: unimplemented_FPop (45_fp.md R815). -/
def execFaddq (rd : RegField) (_rs1 : RegField) (_rs2 : RegField) (s : State) : Result :=
  fpUnimplementedDest s (fun t => t.markDouble rd)

/-- FSUB in single precision (45_fp.md R870). -/
def execFsubs (rd : RegField) (rs1 : RegField) (rs2 : RegField) (s : State) : Result :=
  fpArithSingle s 0x045#9 (Format.sub single s.roundMode) rd rs1 rs2

/-- FSUB in double precision (45_fp.md R871). -/
def execFsubd (rd : RegField) (rs1 : RegField) (rs2 : RegField) (s : State) : Result :=
  fpArithDouble s 0x046#9 (Format.sub double s.roundMode) rd rs1 rs2

/-- Quad precision is not implemented in hardware: unimplemented_FPop (45_fp.md R872). -/
def execFsubq (rd : RegField) (_rs1 : RegField) (_rs2 : RegField) (s : State) : Result :=
  fpUnimplementedDest s (fun t => t.markDouble rd)

/-- FMUL in single precision (45_fp.md R846). -/
def execFmuls (rd : RegField) (rs1 : RegField) (rs2 : RegField) (s : State) : Result :=
  fpArithSingle s 0x049#9 (Format.mul single s.roundMode) rd rs1 rs2

/-- FMUL in double precision (45_fp.md R847). -/
def execFmuld (rd : RegField) (rs1 : RegField) (rs2 : RegField) (s : State) : Result :=
  fpArithDouble s 0x04A#9 (Format.mul double s.roundMode) rd rs1 rs2

/-- Quad precision is not implemented in hardware: unimplemented_FPop (45_fp.md R848). -/
def execFmulq (rd : RegField) (_rs1 : RegField) (_rs2 : RegField) (s : State) : Result :=
  fpUnimplementedDest s (fun t => t.markDouble rd)

/-- FDIV in single precision (45_fp.md R823). -/
def execFdivs (rd : RegField) (rs1 : RegField) (rs2 : RegField) (s : State) : Result :=
  fpArithSingle s 0x04D#9 (Format.div single s.roundMode) rd rs1 rs2

/-- FDIV in double precision (45_fp.md R824). -/
def execFdivd (rd : RegField) (rs1 : RegField) (rs2 : RegField) (s : State) : Result :=
  fpArithDouble s 0x04E#9 (Format.div double s.roundMode) rd rs1 rs2

/-- Quad precision is not implemented in hardware: unimplemented_FPop (45_fp.md R825). -/
def execFdivq (rd : RegField) (_rs1 : RegField) (_rs2 : RegField) (s : State) : Result :=
  fpUnimplementedDest s (fun t => t.markDouble rd)

/-- The exact double product of two singles (45_fp.md R849). -/
def execFsmuld (rd : RegField) (rs1 : RegField) (rs2 : RegField) (s : State) : Result :=
  withFpDest s (fun t => t.markDouble rd)
    (fpFinish s 0x069#9 ((s.readFS rs1).setWidth 64) ((s.readFS rs2).setWidth 64)
      (fpDouble s rd (singleMulDouble s.roundMode (s.single rs1) (s.single rs2))))

/-- Quad precision is not implemented in hardware: unimplemented_FPop (45_fp.md R850). -/
def execFdmulq (rd : RegField) (_rs1 : RegField) (_rs2 : RegField) (s : State) : Result :=
  fpUnimplementedDest s (fun t => t.markDouble rd)

/-! ## Conversions -/

/-- Single to 64-bit integer (45_fp.md R858). -/
def execFstox (rd : RegField) (rs2 : RegField) (s : State) : Result :=
  withFpDest s (fun t => t.markDouble rd) (fpDouble s rd (intComputed 64 (Format.toInt single 64 (s.single rs2))))

/-- Double to 64-bit integer (45_fp.md R859). -/
def execFdtox (rd : RegField) (rs2 : RegField) (s : State) : Result :=
  withFpDest s (fun t => t.markDouble rd) (fpDouble s rd (intComputed 64 (Format.toInt double 64 (s.double rs2))))

/-- Quad precision is not implemented in hardware: unimplemented_FPop (45_fp.md R860). -/
def execFqtox (rd : RegField) (_rs2 : RegField) (s : State) : Result := fpUnimplementedDest s (fun t => t.markDouble rd)

/-- Single to 32-bit integer (45_fp.md R861). -/
def execFstoi (rd : RegField) (rs2 : RegField) (s : State) : Result :=
  withFpDest s State.markLower (fpSingle s rd (intComputed 32 (Format.toInt single 32 (s.single rs2))))

/-- Double to 32-bit integer (45_fp.md R862). -/
def execFdtoi (rd : RegField) (rs2 : RegField) (s : State) : Result :=
  withFpDest s State.markLower (fpSingle s rd (intComputed 32 (Format.toInt double 32 (s.double rs2))))

/-- Quad precision is not implemented in hardware: unimplemented_FPop (45_fp.md R863). -/
def execFqtoi (_rd : RegField) (_rs2 : RegField) (s : State) : Result := fpUnimplementedDest s State.markLower

/-- 64-bit integer to single (45_fp.md R873). -/
def execFxtos (rd : RegField) (rs2 : RegField) (s : State) : Result :=
  withFpDest s State.markLower (fpSingle s rd (Format.ofInt single s.roundMode (s.readFD rs2).toInt))

/-- 64-bit integer to double (45_fp.md R874). -/
def execFxtod (rd : RegField) (rs2 : RegField) (s : State) : Result :=
  withFpDest s (fun t => t.markDouble rd) (fpDouble s rd (Format.ofInt double s.roundMode (s.readFD rs2).toInt))

/-- Quad precision is not implemented in hardware: unimplemented_FPop (45_fp.md R875). -/
def execFxtoq (rd : RegField) (_rs2 : RegField) (s : State) : Result := fpUnimplementedDest s (fun t => t.markDouble rd)

/-- 32-bit integer to single (45_fp.md R826). -/
def execFitos (rd : RegField) (rs2 : RegField) (s : State) : Result :=
  withFpDest s State.markLower (fpSingle s rd (Format.ofInt single s.roundMode (s.readFS rs2).toInt))

/-- 32-bit integer to double (45_fp.md R827). -/
def execFitod (rd : RegField) (rs2 : RegField) (s : State) : Result :=
  withFpDest s (fun t => t.markDouble rd) (fpDouble s rd (Format.ofInt double s.roundMode (s.readFS rs2).toInt))

/-- Quad precision is not implemented in hardware: unimplemented_FPop (45_fp.md R828). -/
def execFitoq (rd : RegField) (_rs2 : RegField) (s : State) : Result := fpUnimplementedDest s (fun t => t.markDouble rd)

/-- Single to double (45_fp.md R864). -/
def execFstod (rd : RegField) (rs2 : RegField) (s : State) : Result :=
  withFpDest s (fun t => t.markDouble rd)
    (fpFinish s 0x0C9#9 0#64 ((s.readFS rs2).setWidth 64)
      (fpDouble s rd (singleToDouble s.roundMode (s.single rs2))))

/-- Double to single (45_fp.md R866). -/
def execFdtos (rd : RegField) (rs2 : RegField) (s : State) : Result :=
  withFpDest s State.markLower
    (fpFinish s 0x0C6#9 0#64 (s.readFD rs2)
      (fpSingle s rd (doubleToSingle s.roundMode (s.double rs2))))

/-- Quad precision is not implemented in hardware: unimplemented_FPop (45_fp.md R865). -/
def execFstoq (rd : RegField) (_rs2 : RegField) (s : State) : Result := fpUnimplementedDest s (fun t => t.markDouble rd)

/-- Quad precision is not implemented in hardware: unimplemented_FPop (45_fp.md R867). -/
def execFdtoq (rd : RegField) (_rs2 : RegField) (s : State) : Result := fpUnimplementedDest s (fun t => t.markDouble rd)

/-- Quad precision is not implemented in hardware: unimplemented_FPop (45_fp.md R868). -/
def execFqtos (_rd : RegField) (_rs2 : RegField) (s : State) : Result := fpUnimplementedDest s State.markLower

/-- Quad precision is not implemented in hardware: unimplemented_FPop (45_fp.md R869). -/
def execFqtod (rd : RegField) (_rs2 : RegField) (s : State) : Result := fpUnimplementedDest s (fun t => t.markDouble rd)

/-! ## Conditional moves -/

/-- Move a single on icc (45_fp.md R833). -/
def execFmovsicc (rd : RegField) (cond : BitVec 4) (rs2 : RegField) (s : State) : Result :=
  fpMoveSingleIf s (iccTest cond (intCC s .icc)) rd rs2

/-- Move a single on xcc (45_fp.md R836). -/
def execFmovsxcc (rd : RegField) (cond : BitVec 4) (rs2 : RegField) (s : State) : Result :=
  fpMoveSingleIf s (iccTest cond (intCC s .xcc)) rd rs2

/-- Move a double on icc (45_fp.md R834). -/
def execFmovdicc (rd : RegField) (cond : BitVec 4) (rs2 : RegField) (s : State) : Result :=
  fpMoveDoubleIf s (iccTest cond (intCC s .icc)) rd rs2

/-- Move a double on xcc (45_fp.md R837). -/
def execFmovdxcc (rd : RegField) (cond : BitVec 4) (rs2 : RegField) (s : State) : Result :=
  fpMoveDoubleIf s (iccTest cond (intCC s .xcc)) rd rs2

/-- Move a single on a floating-point condition code (45_fp.md R839). -/
def execFmovsfcc (rd : RegField) (fcc : FccSel) (cond : BitVec 4) (rs2 : RegField) (s : State) : Result :=
  fpMoveSingleIf s (fccTest cond (fccOf s fcc)) rd rs2

/-- Move a double on a floating-point condition code (45_fp.md R840). -/
def execFmovdfcc (rd : RegField) (fcc : FccSel) (cond : BitVec 4) (rs2 : RegField) (s : State) : Result :=
  fpMoveDoubleIf s (fccTest cond (fccOf s fcc)) rd rs2

/-- Quad precision is not implemented in hardware: unimplemented_FPop (45_fp.md R835). -/
def execFmovqicc (rd : RegField) (_cond : BitVec 4) (_rs2 : RegField) (s : State) : Result :=
  fpUnimplementedDest s (fun t => t.markDouble rd)

/-- Quad precision is not implemented in hardware: unimplemented_FPop (45_fp.md R838). -/
def execFmovqxcc (rd : RegField) (_cond : BitVec 4) (_rs2 : RegField) (s : State) : Result :=
  fpUnimplementedDest s (fun t => t.markDouble rd)

/-- Quad precision is not implemented in hardware: unimplemented_FPop (45_fp.md R841). -/
def execFmovqfcc (rd : RegField) (_fcc : FccSel) (_cond : BitVec 4) (_rs2 : RegField) (s : State) : Result :=
  fpUnimplementedDest s (fun t => t.markDouble rd)

/-- Move a single on register condition 001 (45_fp.md R843). -/
def execFmovrsz (rd : RegField) (rs1 : RegField) (rs2 : RegField) (s : State) : Result :=
  fpMoveSingleIf s (regTest 0b001#3 (s.readR rs1)) rd rs2

/-- Move a single on register condition 010 (45_fp.md R843). -/
def execFmovrslez (rd : RegField) (rs1 : RegField) (rs2 : RegField) (s : State) : Result :=
  fpMoveSingleIf s (regTest 0b010#3 (s.readR rs1)) rd rs2

/-- Move a single on register condition 011 (45_fp.md R843). -/
def execFmovrslz (rd : RegField) (rs1 : RegField) (rs2 : RegField) (s : State) : Result :=
  fpMoveSingleIf s (regTest 0b011#3 (s.readR rs1)) rd rs2

/-- Move a single on register condition 101 (45_fp.md R843). -/
def execFmovrsnz (rd : RegField) (rs1 : RegField) (rs2 : RegField) (s : State) : Result :=
  fpMoveSingleIf s (regTest 0b101#3 (s.readR rs1)) rd rs2

/-- Move a single on register condition 110 (45_fp.md R843). -/
def execFmovrsgz (rd : RegField) (rs1 : RegField) (rs2 : RegField) (s : State) : Result :=
  fpMoveSingleIf s (regTest 0b110#3 (s.readR rs1)) rd rs2

/-- Move a single on register condition 111 (45_fp.md R843). -/
def execFmovrsgez (rd : RegField) (rs1 : RegField) (rs2 : RegField) (s : State) : Result :=
  fpMoveSingleIf s (regTest 0b111#3 (s.readR rs1)) rd rs2

/-- Move a double on register condition 001 (45_fp.md R844). -/
def execFmovrdz (rd : RegField) (rs1 : RegField) (rs2 : RegField) (s : State) : Result :=
  fpMoveDoubleIf s (regTest 0b001#3 (s.readR rs1)) rd rs2

/-- Move a double on register condition 010 (45_fp.md R844). -/
def execFmovrdlez (rd : RegField) (rs1 : RegField) (rs2 : RegField) (s : State) : Result :=
  fpMoveDoubleIf s (regTest 0b010#3 (s.readR rs1)) rd rs2

/-- Move a double on register condition 011 (45_fp.md R844). -/
def execFmovrdlz (rd : RegField) (rs1 : RegField) (rs2 : RegField) (s : State) : Result :=
  fpMoveDoubleIf s (regTest 0b011#3 (s.readR rs1)) rd rs2

/-- Move a double on register condition 101 (45_fp.md R844). -/
def execFmovrdnz (rd : RegField) (rs1 : RegField) (rs2 : RegField) (s : State) : Result :=
  fpMoveDoubleIf s (regTest 0b101#3 (s.readR rs1)) rd rs2

/-- Move a double on register condition 110 (45_fp.md R844). -/
def execFmovrdgz (rd : RegField) (rs1 : RegField) (rs2 : RegField) (s : State) : Result :=
  fpMoveDoubleIf s (regTest 0b110#3 (s.readR rs1)) rd rs2

/-- Move a double on register condition 111 (45_fp.md R844). -/
def execFmovrdgez (rd : RegField) (rs1 : RegField) (rs2 : RegField) (s : State) : Result :=
  fpMoveDoubleIf s (regTest 0b111#3 (s.readR rs1)) rd rs2

/-- Quad precision is not implemented in hardware: unimplemented_FPop (45_fp.md R845). -/
def execFmovrqz (rd : RegField) (_rs1 : RegField) (_rs2 : RegField) (s : State) : Result :=
  fpUnimplementedDest s (fun t => t.markDouble rd)

/-- Quad precision is not implemented in hardware: unimplemented_FPop (45_fp.md R845). -/
def execFmovrqlez (rd : RegField) (_rs1 : RegField) (_rs2 : RegField) (s : State) : Result :=
  fpUnimplementedDest s (fun t => t.markDouble rd)

/-- Quad precision is not implemented in hardware: unimplemented_FPop (45_fp.md R845). -/
def execFmovrqlz (rd : RegField) (_rs1 : RegField) (_rs2 : RegField) (s : State) : Result :=
  fpUnimplementedDest s (fun t => t.markDouble rd)

/-- Quad precision is not implemented in hardware: unimplemented_FPop (45_fp.md R845). -/
def execFmovrqnz (rd : RegField) (_rs1 : RegField) (_rs2 : RegField) (s : State) : Result :=
  fpUnimplementedDest s (fun t => t.markDouble rd)

/-- Quad precision is not implemented in hardware: unimplemented_FPop (45_fp.md R845). -/
def execFmovrqgz (rd : RegField) (_rs1 : RegField) (_rs2 : RegField) (s : State) : Result :=
  fpUnimplementedDest s (fun t => t.markDouble rd)

/-- Quad precision is not implemented in hardware: unimplemented_FPop (45_fp.md R845). -/
def execFmovrqgez (rd : RegField) (_rs1 : RegField) (_rs2 : RegField) (s : State) : Result :=
  fpUnimplementedDest s (fun t => t.markDouble rd)

/-! ## Comparisons -/

/-- Compare singles (45_fp.md R817). -/
def execFcmps (fcc : FccSel) (rs1 : RegField) (rs2 : RegField) (s : State) : Result :=
  fpCompare s fcc (Format.compare single (s.single rs1) (s.single rs2)) (Format.anySNaN single (s.single rs1) (s.single rs2))

/-- Compare doubles (45_fp.md R818). -/
def execFcmpd (fcc : FccSel) (rs1 : RegField) (rs2 : RegField) (s : State) : Result :=
  fpCompare s fcc (Format.compare double (s.double rs1) (s.double rs2)) (Format.anySNaN double (s.double rs1) (s.double rs2))

/-- Compare singles, invalid if unordered (45_fp.md R820). -/
def execFcmpes (fcc : FccSel) (rs1 : RegField) (rs2 : RegField) (s : State) : Result :=
  fpCompare s fcc (Format.compare single (s.single rs1) (s.single rs2)) (Format.anyNaN single (s.single rs1) (s.single rs2))

/-- Compare doubles, invalid if unordered (45_fp.md R821). -/
def execFcmped (fcc : FccSel) (rs1 : RegField) (rs2 : RegField) (s : State) : Result :=
  fpCompare s fcc (Format.compare double (s.double rs1) (s.double rs2)) (Format.anyNaN double (s.double rs1) (s.double rs2))

/-- Quad precision is not implemented in hardware: unimplemented_FPop (45_fp.md R819). -/
def execFcmpq (_fcc : FccSel) (_rs1 : RegField) (_rs2 : RegField) (s : State) : Result := withFp s (unimplementedFPop s)

/-- Quad precision is not implemented in hardware: unimplemented_FPop (45_fp.md R822). -/
def execFcmpeq (_fcc : FccSel) (_rs1 : RegField) (_rs2 : RegField) (s : State) : Result :=
  withFp s (unimplementedFPop s)

end Sys2Proof.Machine
end

