-- ==== Sys2Proof/Machine/Flags.lean ====
section
/-!
DEFINITION. Every computation of the integer condition codes: CCR as xcc (bits 7:4) and icc (bits 3:0), each n z v c
(10_state.md R102, 40_integer.md R400 to R402, R427, R437, R438, R446, R447, R474 to R481).
-/

namespace Sys2Proof.Machine

/-- Four condition codes, n z v c from bit 3 to bit 0 (10_state.md R102). -/
def nzvc (n z v c : Bool) : BitVec 4 := BitVec.ofBool n ++ BitVec.ofBool z ++ BitVec.ofBool v ++ BitVec.ofBool c

/-- n z v c of an addition of w-bit operands with a carry in (40_integer.md R400). -/
def addCodes {w : Nat} (a b : BitVec w) (cin : Bool) (r : BitVec w) : BitVec 4 :=
  nzvc r.msb (r == 0#w) ((a.msb == b.msb) && (r.msb != a.msb)) (decide (2 ^ w ≤ a.toNat + b.toNat + cin.toNat))

/-- n z v c of a subtraction of w-bit operands with a borrow in (40_integer.md R401). -/
def subCodes {w : Nat} (a b : BitVec w) (cin : Bool) (r : BitVec w) : BitVec 4 :=
  nzvc r.msb (r == 0#w) ((a.msb != b.msb) && (r.msb != a.msb)) (decide (a.toNat < b.toNat + cin.toNat))

/-- AddCC(a, b, cin, r) (40_integer.md R400). -/
def addCC (a b : Word) (cin : Bool) (r : Word) : BitVec 8 :=
  addCodes a b cin r ++ addCodes (a.setWidth 32) (b.setWidth 32) cin (r.setWidth 32)

/-- SubCC(a, b, cin, r) (40_integer.md R401). -/
def subCC (a b : Word) (cin : Bool) (r : Word) : BitVec 8 :=
  subCodes a b cin r ++ subCodes (a.setWidth 32) (b.setWidth 32) cin (r.setWidth 32)

/-- LogicCC(r): n and z of the result, v and c clear (40_integer.md R402); also the codes of the multiplies (R447) and,
without overflow, of the divides (R438). -/
def logicCC (r : Word) : BitVec 8 :=
  nzvc r.msb (r == 0#64) false false ++ nzvc (r.getLsbD 31) (r.setWidth 32 == 0#32) false false

/-- Replace icc.v (CCR bit 1). -/
def setIccV (ccr : BitVec 8) (v : Bool) : BitVec 8 :=
  ccr.extractLsb' 2 6 ++ BitVec.ofBool v ++ ccr.extractLsb' 0 1

/-- The codes of SDIVcc and UDIVcc: LogicCC with icc.v the overflow (40_integer.md R438, R479). -/
def divCC (r : Word) (ovf : Bool) : BitVec 8 := setIccV (logicCC r) ovf

/-- The tag overflow of an addition (40_integer.md, 7.104). -/
def tagOverflowAdd (a b r : Word) : Bool :=
  a.extractLsb' 0 2 != 0#2 || b.extractLsb' 0 2 != 0#2 ||
    ((a.getLsbD 31 == b.getLsbD 31) && (r.getLsbD 31 != a.getLsbD 31))

/-- The tag overflow of a subtraction (40_integer.md, 7.107). -/
def tagOverflowSub (a b r : Word) : Bool :=
  a.extractLsb' 0 2 != 0#2 || b.extractLsb' 0 2 != 0#2 ||
    ((a.getLsbD 31 != b.getLsbD 31) && (r.getLsbD 31 != a.getLsbD 31))

/-- icc of MULScc, from its 32-bit addition; xcc is undefined and taken from a free value (40_integer.md R427). -/
def mulsccCC (sh add : HWord) (free : BitVec 4) : BitVec 8 := free ++ addCodes sh add false (sh + add)

end Sys2Proof.Machine
end

