-- ==== Sys2Proof/Machine/Integer.lean ====
section
/-!
DEFINITION. The integer instructions on R registers (40_integer.md). Each reads its operands through the state before the
instruction (R404).
-/

namespace Sys2Proof.Machine

/-! ## Shared operations -/

/-- CCR.icc.c (10_state.md R102). -/
def State.iccC (s : State) : Bool := s.ccr.getLsbD 0

/-- The carry in as a word. -/
def State.carry (s : State) : Word := (BitVec.ofBool s.iccC).setWidth 64

/-- The low 32 bits of a word. -/
def low32 (w : Word) : HWord := w.setWidth 32

/-- A logical instruction that sets the condition codes (40_integer.md R402). -/
def logicBack (s : State) (rd : RegField) (r : Word) : Result := writeBackCC s rd r (logicCC r)

/-- An addition that sets the condition codes (40_integer.md R400). -/
def addBack (s : State) (rd : RegField) (a b : Word) (cin : Bool) : Result :=
  writeBackCC s rd (a + b + (BitVec.ofBool cin).setWidth 64) (addCC a b cin (a + b + (BitVec.ofBool cin).setWidth 64))

/-- A subtraction that sets the condition codes (40_integer.md R401). -/
def subBack (s : State) (rd : RegField) (a b : Word) (cin : Bool) : Result :=
  writeBackCC s rd (a - b - (BitVec.ofBool cin).setWidth 64) (subCC a b cin (a - b - (BitVec.ofBool cin).setWidth 64))

/-- The 64-bit product of two signed words (40_integer.md R446). -/
def signedProduct (a b : HWord) : Word := a.signExtend 64 * b.signExtend 64

/-- The 64-bit product of two unsigned words (40_integer.md R480). -/
def unsignedProduct (a b : HWord) : Word := a.setWidth 64 * b.setWidth 64

/-- The high half of a product, the new Y (40_integer.md R446, R480). -/
def high32 (p : Word) : BitVec 32 := p.extractLsb' 32 32

/-- The quotient of the 64-bit Y :: R[rs1] by a signed word, with its overflow (40_integer.md R437). -/
def signedQuotient (y : BitVec 32) (a b : HWord) : Word × Bool :=
  let q := (y ++ a).toInt.tdiv b.toInt
  if 2 ^ 31 ≤ q then (0x7FFFFFFF#64, true)
  else if q ≤ -(2 ^ 31) - 1 then (0xFFFFFFFF80000000#64, true)
  else (BitVec.ofInt 64 q, false)

/-- The quotient of the 64-bit Y :: R[rs1] by an unsigned word, with its overflow (40_integer.md R478). -/
def unsignedQuotient (y : BitVec 32) (a b : HWord) : Word × Bool :=
  let q := (y ++ a).toNat / b.toNat
  if 2 ^ 32 ≤ q then (0xFFFFFFFF#64, true) else (BitVec.ofNat 64 q, false)

/-- Y after a 64-bit by 32-bit divide: undefined, a free value (40_integer.md R437, R478; log 4). -/
def State.undefinedY (s : State) : State := (s.drawn).setY (s.freeWord.setWidth 32)

/-- A 64-bit by 32-bit divide without condition codes. -/
def divBack (s : State) (rd : RegField) (divisor : HWord) (q : Word × Bool) : Result :=
  if divisor = 0#32 then raise .divisionByZero s else writeBack s.undefinedY rd q.1

/-- A 64-bit by 32-bit divide that sets the condition codes (40_integer.md R438). -/
def divBackCC (s : State) (rd : RegField) (divisor : HWord) (q : Word × Bool) : Result :=
  if divisor = 0#32 then raise .divisionByZero s else writeBackCC s.undefinedY rd q.1 (divCC q.1 q.2)

/-- Move the second operand if the condition holds (40_integer.md R413, R420). -/
def moveIf (s : State) (t : Bool) (rd : RegField) (v : Word) : Result :=
  if t then writeBack s rd v else complete s

/-- MOVcc on an integer condition (40_integer.md R413). -/
def movIcc (s : State) (cond : BitVec 4) (rd : RegField) (cc : IntCC) (op2 : Op2x11) : Result :=
  moveIf s (iccTest cond (intCC s cc)) rd (op2Value s op2)

/-- MOVcc on a floating-point condition, which checks that the FPU is enabled (40_integer.md R413, D15). -/
def movFcc (s : State) (cond : BitVec 4) (rd : RegField) (fcc : FccSel) (op2 : Op2x11) : Result :=
  withFp s (moveIf s (fccTest cond (fccOf s fcc)) rd (op2Value s op2))

/-- MOVr (40_integer.md R420). -/
def movReg (s : State) (rcond : BitVec 3) (rd rs1 : RegField) (op2 : Op2x10) : Result :=
  moveIf s (regTest rcond (s.readR rs1)) rd (op2Value s op2)

/-! ## Addition and subtraction -/

/-- R[rd] <- R[rs1] + Op2 (40_integer.md R405). -/
def execAdd (rd : RegField) (rs1 : RegField) (op2 : Op2) (s : State) : Result :=
  writeBack s rd (s.readR rs1 + op2Value s op2)

/-- ADD, and the codes (40_integer.md R406). -/
def execAddcc (rd : RegField) (rs1 : RegField) (op2 : Op2) (s : State) : Result :=
  addBack s rd (s.readR rs1) (op2Value s op2) false

/-- R[rd] <- R[rs1] + Op2 + icc.c (40_integer.md R407). -/
def execAddc (rd : RegField) (rs1 : RegField) (op2 : Op2) (s : State) : Result :=
  writeBack s rd (s.readR rs1 + op2Value s op2 + s.carry)

/-- ADDC, and the codes (40_integer.md R408). -/
def execAddccc (rd : RegField) (rs1 : RegField) (op2 : Op2) (s : State) : Result :=
  addBack s rd (s.readR rs1) (op2Value s op2) s.iccC

/-- R[rd] <- R[rs1] - Op2 (40_integer.md R470). -/
def execSub (rd : RegField) (rs1 : RegField) (op2 : Op2) (s : State) : Result :=
  writeBack s rd (s.readR rs1 - op2Value s op2)

/-- SUB, and the codes (40_integer.md R471). -/
def execSubcc (rd : RegField) (rs1 : RegField) (op2 : Op2) (s : State) : Result :=
  subBack s rd (s.readR rs1) (op2Value s op2) false

/-- R[rd] <- R[rs1] - Op2 - icc.c (40_integer.md R472). -/
def execSubc (rd : RegField) (rs1 : RegField) (op2 : Op2) (s : State) : Result :=
  writeBack s rd (s.readR rs1 - op2Value s op2 - s.carry)

/-- SUBC, and the codes (40_integer.md R473). -/
def execSubccc (rd : RegField) (rs1 : RegField) (op2 : Op2) (s : State) : Result :=
  subBack s rd (s.readR rs1) (op2Value s op2) s.iccC

/-! ## Tagged arithmetic -/

/-- ADDcc with icc.v the tag overflow (40_integer.md R474). -/
def execTaddcc (rd : RegField) (rs1 : RegField) (op2 : Op2) (s : State) : Result :=
  let a := s.readR rs1
  let b := op2Value s op2
  let r := a + b
  writeBackCC s rd r (setIccV (addCC a b false r) (tagOverflowAdd a b r))

/-- TADDcc that traps on tag overflow (40_integer.md R475). -/
def execTaddcctv (rd : RegField) (rs1 : RegField) (op2 : Op2) (s : State) : Result :=
  let a := s.readR rs1
  let b := op2Value s op2
  let r := a + b
  if tagOverflowAdd a b r then raise .tagOverflow s
  else writeBackCC s rd r (setIccV (addCC a b false r) false)

/-- SUBcc with icc.v the tag overflow (40_integer.md R476). -/
def execTsubcc (rd : RegField) (rs1 : RegField) (op2 : Op2) (s : State) : Result :=
  let a := s.readR rs1
  let b := op2Value s op2
  let r := a - b
  writeBackCC s rd r (setIccV (subCC a b false r) (tagOverflowSub a b r))

/-- TSUBcc that traps on tag overflow (40_integer.md R477). -/
def execTsubcctv (rd : RegField) (rs1 : RegField) (op2 : Op2) (s : State) : Result :=
  let a := s.readR rs1
  let b := op2Value s op2
  let r := a - b
  if tagOverflowSub a b r then raise .tagOverflow s
  else writeBackCC s rd r (setIccV (subCC a b false r) false)

/-! ## Logical operations -/

/-- R[rd] <- R[rs1] and Op2 (40_integer.md R409). -/
def execAnd (rd : RegField) (rs1 : RegField) (op2 : Op2) (s : State) : Result :=
  writeBack s rd (s.readR rs1 &&& op2Value s op2)

/-- AND, and the codes (40_integer.md R410). -/
def execAndcc (rd : RegField) (rs1 : RegField) (op2 : Op2) (s : State) : Result :=
  logicBack s rd (s.readR rs1 &&& op2Value s op2)

/-- R[rd] <- R[rs1] or Op2 (40_integer.md R432). -/
def execOr (rd : RegField) (rs1 : RegField) (op2 : Op2) (s : State) : Result :=
  writeBack s rd (s.readR rs1 ||| op2Value s op2)

/-- OR, and the codes (40_integer.md R433). -/
def execOrcc (rd : RegField) (rs1 : RegField) (op2 : Op2) (s : State) : Result :=
  logicBack s rd (s.readR rs1 ||| op2Value s op2)

/-- R[rd] <- R[rs1] xor Op2 (40_integer.md R482). -/
def execXor (rd : RegField) (rs1 : RegField) (op2 : Op2) (s : State) : Result :=
  writeBack s rd (s.readR rs1 ^^^ op2Value s op2)

/-- XOR, and the codes (40_integer.md R483). -/
def execXorcc (rd : RegField) (rs1 : RegField) (op2 : Op2) (s : State) : Result :=
  logicBack s rd (s.readR rs1 ^^^ op2Value s op2)

/-- R[rd] <- R[rs1] and not Op2 (40_integer.md R411). -/
def execAndn (rd : RegField) (rs1 : RegField) (op2 : Op2) (s : State) : Result :=
  writeBack s rd (s.readR rs1 &&& ~~~op2Value s op2)

/-- ANDN, and the codes (40_integer.md R412). -/
def execAndncc (rd : RegField) (rs1 : RegField) (op2 : Op2) (s : State) : Result :=
  logicBack s rd (s.readR rs1 &&& ~~~op2Value s op2)

/-- R[rd] <- R[rs1] or not Op2 (40_integer.md R434). -/
def execOrn (rd : RegField) (rs1 : RegField) (op2 : Op2) (s : State) : Result :=
  writeBack s rd (s.readR rs1 ||| ~~~op2Value s op2)

/-- ORN, and the codes (40_integer.md R435). -/
def execOrncc (rd : RegField) (rs1 : RegField) (op2 : Op2) (s : State) : Result :=
  logicBack s rd (s.readR rs1 ||| ~~~op2Value s op2)

/-- R[rd] <- R[rs1] xnor Op2 (40_integer.md R484). -/
def execXnor (rd : RegField) (rs1 : RegField) (op2 : Op2) (s : State) : Result :=
  writeBack s rd (~~~(s.readR rs1 ^^^ op2Value s op2))

/-- XNOR, and the codes (40_integer.md R485). -/
def execXnorcc (rd : RegField) (rs1 : RegField) (op2 : Op2) (s : State) : Result :=
  logicBack s rd (~~~(s.readR rs1 ^^^ op2Value s op2))

/-! ## Multiplication -/

/-- R[rd] <- R[rs1] * Op2 modulo 2^64 (40_integer.md R428). -/
def execMulx (rd : RegField) (rs1 : RegField) (op2 : Op2) (s : State) : Result :=
  writeBack s rd (s.readR rs1 * op2Value s op2)

/-- The signed product of the low words; Y gets its high word (40_integer.md R446). -/
def execSmul (rd : RegField) (rs1 : RegField) (op2 : Op2) (s : State) : Result :=
  let p := signedProduct (low32 (s.readR rs1)) (low32 (op2Value s op2))
  writeBack (s.setY (high32 p)) rd p

/-- The signed product of the low words; Y gets its high word, the codes those of the product (40_integer.md R447). -/
def execSmulcc (rd : RegField) (rs1 : RegField) (op2 : Op2) (s : State) : Result :=
  let p := signedProduct (low32 (s.readR rs1)) (low32 (op2Value s op2))
  logicBack (s.setY (high32 p)) rd p

/-- The unsigned product of the low words; Y gets its high word (40_integer.md R480). -/
def execUmul (rd : RegField) (rs1 : RegField) (op2 : Op2) (s : State) : Result :=
  let p := unsignedProduct (low32 (s.readR rs1)) (low32 (op2Value s op2))
  writeBack (s.setY (high32 p)) rd p

/-- The unsigned product of the low words; Y gets its high word, the codes those of the product (40_integer.md R481). -/
def execUmulcc (rd : RegField) (rs1 : RegField) (op2 : Op2) (s : State) : Result :=
  let p := unsignedProduct (low32 (s.readR rs1)) (low32 (op2Value s op2))
  logicBack (s.setY (high32 p)) rd p

/-- One multiply step; R[rd]{63:32} and xcc are undefined and come from a free value (40_integer.md R427; log 4). -/
def execMulscc (rd : RegField) (rs1 : RegField) (op2 : Op2) (s : State) : Result :=
  let a := s.readR rs1
  let sh : HWord := BitVec.ofBool (s.ccr.getLsbD 3 ^^ s.ccr.getLsbD 1) ++ a.extractLsb' 1 31
  let add : HWord := if s.y.getLsbD 0 then low32 (op2Value s op2) else 0#32
  let newY : BitVec 32 := a.extractLsb' 0 1 ++ s.y.extractLsb' 1 31
  let free := s.freeWord
  writeBackCC (s.drawn.setY newY) rd (free.extractLsb' 32 32 ++ (sh + add)) (mulsccCC sh add (free.extractLsb' 0 4))

/-! ## Division -/

/-- The signed quotient, rounded toward zero; -2^63 / -1 is -2^63 (40_integer.md R429). -/
def execSdivx (rd : RegField) (rs1 : RegField) (op2 : Op2) (s : State) : Result :=
  let b := op2Value s op2
  if b = 0#64 then raise .divisionByZero s else writeBack s rd (BitVec.ofInt 64 ((s.readR rs1).toInt.tdiv b.toInt))

/-- The unsigned quotient (40_integer.md R430). -/
def execUdivx (rd : RegField) (rs1 : RegField) (op2 : Op2) (s : State) : Result :=
  let b := op2Value s op2
  if b = 0#64 then raise .divisionByZero s else writeBack s rd (BitVec.ofNat 64 ((s.readR rs1).toNat / b.toNat))

/-- Y :: R[rs1] divided by a word, signed, saturating on overflow (40_integer.md R437). -/
def execSdiv (rd : RegField) (rs1 : RegField) (op2 : Op2) (s : State) : Result :=
  let b := low32 (op2Value s op2)
  divBack s rd b (signedQuotient s.y (low32 (s.readR rs1)) b)

/-- Y :: R[rs1] divided by a word, signed, saturating on overflow, and the codes (40_integer.md R438). -/
def execSdivcc (rd : RegField) (rs1 : RegField) (op2 : Op2) (s : State) : Result :=
  let b := low32 (op2Value s op2)
  divBackCC s rd b (signedQuotient s.y (low32 (s.readR rs1)) b)

/-- Y :: R[rs1] divided by a word, unsigned, saturating on overflow (40_integer.md R478). -/
def execUdiv (rd : RegField) (rs1 : RegField) (op2 : Op2) (s : State) : Result :=
  let b := low32 (op2Value s op2)
  divBack s rd b (unsignedQuotient s.y (low32 (s.readR rs1)) b)

/-- Y :: R[rs1] divided by a word, unsigned, saturating on overflow, and the codes (40_integer.md R479). -/
def execUdivcc (rd : RegField) (rs1 : RegField) (op2 : Op2) (s : State) : Result :=
  let b := low32 (op2Value s op2)
  divBackCC s rd b (unsignedQuotient s.y (low32 (s.readR rs1)) b)

/-! ## Shifts -/

/-- Shift all 64 bits left by 0 to 31 (40_integer.md R440). -/
def execSll (rd : RegField) (rs1 : RegField) (cnt : Shift32) (s : State) : Result :=
  writeBack s rd (s.readR rs1 <<< shift32Count s cnt)

/-- Shift the low word right, zero-extended (40_integer.md R441). -/
def execSrl (rd : RegField) (rs1 : RegField) (cnt : Shift32) (s : State) : Result :=
  writeBack s rd ((low32 (s.readR rs1) >>> shift32Count s cnt).setWidth 64)

/-- Shift the low word right arithmetically, sign-extended (40_integer.md R442). -/
def execSra (rd : RegField) (rs1 : RegField) (cnt : Shift32) (s : State) : Result :=
  writeBack s rd (((low32 (s.readR rs1)).sshiftRight (shift32Count s cnt)).signExtend 64)

/-- Shift left by 0 to 63 (40_integer.md R443). -/
def execSllx (rd : RegField) (rs1 : RegField) (cnt : Shift64) (s : State) : Result :=
  writeBack s rd (s.readR rs1 <<< shift64Count s cnt)

/-- Shift right by 0 to 63 (40_integer.md R444). -/
def execSrlx (rd : RegField) (rs1 : RegField) (cnt : Shift64) (s : State) : Result :=
  writeBack s rd (s.readR rs1 >>> shift64Count s cnt)

/-- Shift right arithmetically by 0 to 63 (40_integer.md R445). -/
def execSrax (rd : RegField) (rs1 : RegField) (cnt : Shift64) (s : State) : Result :=
  writeBack s rd ((s.readR rs1).sshiftRight (shift64Count s cnt))

/-! ## SETHI, NOP, POPC -/

/-- imm22 into bits 31:10, the rest 0 (40_integer.md R439). -/
def execSethi (rd : RegField) (imm22 : BitVec 22) (s : State) : Result :=
  writeBack s rd ((imm22 ++ 0#10 : BitVec 32).setWidth 64)

/-- No operation (40_integer.md R431). -/
def execNop (s : State) : Result := complete s

/-- Not implemented in hardware: illegal_instruction (40_integer.md R436). -/
def execPopc (_rd : RegField) (_op2 : Op2) (s : State) : Result := raise .illegalInstruction s

/-! ## Conditional moves -/

/-- Move on integer condition 1000 (40_integer.md R414). -/
def execMova (rd : RegField) (cc : IntCC) (op2 : Op2x11) (s : State) : Result := movIcc s 0b1000#4 rd cc op2

/-- Move on integer condition 0000 (40_integer.md R415). -/
def execMovn (rd : RegField) (cc : IntCC) (op2 : Op2x11) (s : State) : Result := movIcc s 0b0000#4 rd cc op2

/-- Move on integer condition 1001 (40_integer.md R416). -/
def execMovne (rd : RegField) (cc : IntCC) (op2 : Op2x11) (s : State) : Result := movIcc s 0b1001#4 rd cc op2

/-- Move on integer condition 0001 (40_integer.md R416). -/
def execMove (rd : RegField) (cc : IntCC) (op2 : Op2x11) (s : State) : Result := movIcc s 0b0001#4 rd cc op2

/-- Move on integer condition 1010 (40_integer.md R416). -/
def execMovg (rd : RegField) (cc : IntCC) (op2 : Op2x11) (s : State) : Result := movIcc s 0b1010#4 rd cc op2

/-- Move on integer condition 0010 (40_integer.md R416). -/
def execMovle (rd : RegField) (cc : IntCC) (op2 : Op2x11) (s : State) : Result := movIcc s 0b0010#4 rd cc op2

/-- Move on integer condition 1011 (40_integer.md R416). -/
def execMovge (rd : RegField) (cc : IntCC) (op2 : Op2x11) (s : State) : Result := movIcc s 0b1011#4 rd cc op2

/-- Move on integer condition 0011 (40_integer.md R416). -/
def execMovl (rd : RegField) (cc : IntCC) (op2 : Op2x11) (s : State) : Result := movIcc s 0b0011#4 rd cc op2

/-- Move on integer condition 1100 (40_integer.md R416). -/
def execMovgu (rd : RegField) (cc : IntCC) (op2 : Op2x11) (s : State) : Result := movIcc s 0b1100#4 rd cc op2

/-- Move on integer condition 0100 (40_integer.md R416). -/
def execMovleu (rd : RegField) (cc : IntCC) (op2 : Op2x11) (s : State) : Result := movIcc s 0b0100#4 rd cc op2

/-- Move on integer condition 1101 (40_integer.md R416). -/
def execMovcc (rd : RegField) (cc : IntCC) (op2 : Op2x11) (s : State) : Result := movIcc s 0b1101#4 rd cc op2

/-- Move on integer condition 0101 (40_integer.md R416). -/
def execMovcs (rd : RegField) (cc : IntCC) (op2 : Op2x11) (s : State) : Result := movIcc s 0b0101#4 rd cc op2

/-- Move on integer condition 1110 (40_integer.md R416). -/
def execMovpos (rd : RegField) (cc : IntCC) (op2 : Op2x11) (s : State) : Result := movIcc s 0b1110#4 rd cc op2

/-- Move on integer condition 0110 (40_integer.md R416). -/
def execMovneg (rd : RegField) (cc : IntCC) (op2 : Op2x11) (s : State) : Result := movIcc s 0b0110#4 rd cc op2

/-- Move on integer condition 1111 (40_integer.md R416). -/
def execMovvc (rd : RegField) (cc : IntCC) (op2 : Op2x11) (s : State) : Result := movIcc s 0b1111#4 rd cc op2

/-- Move on integer condition 0111 (40_integer.md R416). -/
def execMovvs (rd : RegField) (cc : IntCC) (op2 : Op2x11) (s : State) : Result := movIcc s 0b0111#4 rd cc op2

/-- Move on floating-point condition 1000 (40_integer.md R417). -/
def execMovfa (rd : RegField) (fcc : FccSel) (op2 : Op2x11) (s : State) : Result := movFcc s 0b1000#4 rd fcc op2

/-- Move on floating-point condition 0000 (40_integer.md R418). -/
def execMovfn (rd : RegField) (fcc : FccSel) (op2 : Op2x11) (s : State) : Result := movFcc s 0b0000#4 rd fcc op2

/-- Move on floating-point condition 0111 (40_integer.md R419). -/
def execMovfu (rd : RegField) (fcc : FccSel) (op2 : Op2x11) (s : State) : Result := movFcc s 0b0111#4 rd fcc op2

/-- Move on floating-point condition 0110 (40_integer.md R419). -/
def execMovfg (rd : RegField) (fcc : FccSel) (op2 : Op2x11) (s : State) : Result := movFcc s 0b0110#4 rd fcc op2

/-- Move on floating-point condition 0101 (40_integer.md R419). -/
def execMovfug (rd : RegField) (fcc : FccSel) (op2 : Op2x11) (s : State) : Result := movFcc s 0b0101#4 rd fcc op2

/-- Move on floating-point condition 0100 (40_integer.md R419). -/
def execMovfl (rd : RegField) (fcc : FccSel) (op2 : Op2x11) (s : State) : Result := movFcc s 0b0100#4 rd fcc op2

/-- Move on floating-point condition 0011 (40_integer.md R419). -/
def execMovful (rd : RegField) (fcc : FccSel) (op2 : Op2x11) (s : State) : Result := movFcc s 0b0011#4 rd fcc op2

/-- Move on floating-point condition 0010 (40_integer.md R419). -/
def execMovflg (rd : RegField) (fcc : FccSel) (op2 : Op2x11) (s : State) : Result := movFcc s 0b0010#4 rd fcc op2

/-- Move on floating-point condition 0001 (40_integer.md R419). -/
def execMovfne (rd : RegField) (fcc : FccSel) (op2 : Op2x11) (s : State) : Result := movFcc s 0b0001#4 rd fcc op2

/-- Move on floating-point condition 1001 (40_integer.md R419). -/
def execMovfe (rd : RegField) (fcc : FccSel) (op2 : Op2x11) (s : State) : Result := movFcc s 0b1001#4 rd fcc op2

/-- Move on floating-point condition 1010 (40_integer.md R419). -/
def execMovfue (rd : RegField) (fcc : FccSel) (op2 : Op2x11) (s : State) : Result := movFcc s 0b1010#4 rd fcc op2

/-- Move on floating-point condition 1011 (40_integer.md R419). -/
def execMovfge (rd : RegField) (fcc : FccSel) (op2 : Op2x11) (s : State) : Result := movFcc s 0b1011#4 rd fcc op2

/-- Move on floating-point condition 1100 (40_integer.md R419). -/
def execMovfuge (rd : RegField) (fcc : FccSel) (op2 : Op2x11) (s : State) : Result := movFcc s 0b1100#4 rd fcc op2

/-- Move on floating-point condition 1101 (40_integer.md R419). -/
def execMovfle (rd : RegField) (fcc : FccSel) (op2 : Op2x11) (s : State) : Result := movFcc s 0b1101#4 rd fcc op2

/-- Move on floating-point condition 1110 (40_integer.md R419). -/
def execMovfule (rd : RegField) (fcc : FccSel) (op2 : Op2x11) (s : State) : Result := movFcc s 0b1110#4 rd fcc op2

/-- Move on floating-point condition 1111 (40_integer.md R419). -/
def execMovfo (rd : RegField) (fcc : FccSel) (op2 : Op2x11) (s : State) : Result := movFcc s 0b1111#4 rd fcc op2

/-- Move on register condition 001 (40_integer.md R421). -/
def execMovrz (rd : RegField) (rs1 : RegField) (op2 : Op2x10) (s : State) : Result := movReg s 0b001#3 rd rs1 op2

/-- Move on register condition 010 (40_integer.md R422). -/
def execMovrlez (rd : RegField) (rs1 : RegField) (op2 : Op2x10) (s : State) : Result := movReg s 0b010#3 rd rs1 op2

/-- Move on register condition 011 (40_integer.md R423). -/
def execMovrlz (rd : RegField) (rs1 : RegField) (op2 : Op2x10) (s : State) : Result := movReg s 0b011#3 rd rs1 op2

/-- Move on register condition 101 (40_integer.md R424). -/
def execMovrnz (rd : RegField) (rs1 : RegField) (op2 : Op2x10) (s : State) : Result := movReg s 0b101#3 rd rs1 op2

/-- Move on register condition 110 (40_integer.md R425). -/
def execMovrgz (rd : RegField) (rs1 : RegField) (op2 : Op2x10) (s : State) : Result := movReg s 0b110#3 rd rs1 op2

/-- Move on register condition 111 (40_integer.md R426). -/
def execMovrgez (rd : RegField) (rs1 : RegField) (op2 : Op2x10) (s : State) : Result := movReg s 0b111#3 rd rs1 op2

end Sys2Proof.Machine
end

