-- ==== Sys2Proof/Machine/StateReg.lean ====
section
/-!
DEFINITION. Reads and writes of the ancillary state, privileged and hyperprivileged registers, SIR and the IMPDEP2 opcode
space (44_window_state.md R721, R739 to R796).
-/

namespace Sys2Proof.Machine

/-! ## Registers as words -/

/-- TICK and STICK: npt 63, counter 62:0 (10_state.md R110, R117). -/
def CounterReg.bits (c : CounterReg) : Word := BitVec.ofBool c.npt ++ c.counter

/-- TICK and STICK from a word; `bits` of the counter are implemented (61_interrupts_cmt.md R1158). -/
def CounterReg.ofBits (bits : Nat) (v : Word) : CounterReg where
  npt := v.getLsbD 63
  counter := implemented bits (v.extractLsb' 0 63)

/-- The compare registers: int_dis 63, the value 62:0 (10_state.md R116, R118). -/
def CompareReg.bits (c : CompareReg) : Word := BitVec.ofBool c.intDis ++ c.value

/-- A compare register from a word. -/
def CompareReg.ofBits (v : Word) : CompareReg where
  intDis := v.getLsbD 63
  value := v.extractLsb' 0 63

/-- FPRS: fef 2, du 1, dl 0 (10_state.md R108). -/
def Fprs.bits (f : Fprs) : BitVec 3 := BitVec.ofBool f.fef ++ BitVec.ofBool f.du ++ BitVec.ofBool f.dl

/-- FPRS from a word. -/
def Fprs.ofBits (v : Word) : Fprs where
  fef := v.getLsbD 2
  du := v.getLsbD 1
  dl := v.getLsbD 0

/-- PCR: su 16:11, sl 9:4, ut 2, st 1, priv 0, the implementation-dependent bits 47:32, 26:17 and 3 (10_state.md R111, log
15). -/
def Pcr.bits (p : Pcr) : Word :=
  0#16 ++ p.impl47 ++ 0#5 ++ p.impl26 ++ p.su ++ 0#1 ++ p.sl ++ BitVec.ofBool p.impl3 ++ BitVec.ofBool p.ut ++ BitVec.ofBool p.st ++ BitVec.ofBool p.priv

/-- PCR from a word. -/
def Pcr.ofBits (v : Word) : Pcr where
  impl47 := v.extractLsb' 32 16
  impl26 := v.extractLsb' 17 10
  impl3 := v.getLsbD 3
  su := v.extractLsb' 11 6
  sl := v.extractLsb' 4 6
  ut := v.getLsbD 2
  st := v.getLsbD 1
  priv := v.getLsbD 0

/-- PIC: picu 63:32, picl 31:0 (10_state.md R112). -/
def Pic.bits (p : Pic) : Word := p.picu ++ p.picl

/-- PIC from a word. -/
def Pic.ofBits (v : Word) : Pic where
  picu := v.extractLsb' 32 32
  picl := v.extractLsb' 0 32

/-- GSR: mask 63:32, im 27, irnd 26:25, scale 7:3, align 2:0 (10_state.md R125). -/
def Gsr.bits (g : Gsr) : Word := g.mask ++ 0#4 ++ BitVec.ofBool g.im ++ g.irnd ++ 0#17 ++ g.scale ++ g.align

/-- GSR from a word. -/
def Gsr.ofBits (v : Word) : Gsr where
  mask := v.extractLsb' 32 32
  im := v.getLsbD 27
  irnd := v.extractLsb' 25 2
  scale := v.extractLsb' 3 5
  align := v.extractLsb' 0 3

/-- TSTATE: gl 42:40, ccr 39:32, asi 31:24, pstate 20:8, cwp 4:0 (11_state_privileged.md R172). -/
def TState.bits (t : TState) : Word := 0#21 ++ t.gl ++ t.ccr ++ t.asi ++ 0#3 ++ t.pstate ++ 0#3 ++ t.cwp

/-- TSTATE from a word (44_window_state.md R781, D50). -/
def TState.ofBits (v : Word) : TState where
  gl := v.extractLsb' 40 3
  ccr := v.extractLsb' 32 8
  asi := v.extractLsb' 24 8
  pstate := v.extractLsb' 8 13
  cwp := v.extractLsb' 0 5

/-! ## Shared operations -/

/-- WrValue: R[rs1] xor Op2 (44_window_state.md R721). -/
def wrValue (s : State) (rs1 : RegField) (op2 : Op2) : Word := s.readR rs1 ^^^ op2Value s op2

/-- An instruction that nonprivileged mode may not execute (44_window_state.md R739, R759). -/
def privilegedOnly (s : State) (k : Result) : Result := if s.isUser then raise .privilegedOpcode s else k

/-- An access that nonprivileged mode may make only if `locked` is 0 (44_window_state.md R743, R747, R751, R765). -/
def unlessLocked (s : State) (locked : Bool) (k : Result) : Result :=
  if s.isUser && locked then raise .privilegedAction s else k

/-- An instruction that only hyperprivileged mode may execute (44_window_state.md R771, R785, R790, R795). -/
def hyperOnly (s : State) (k : Result) : Result := if s.hpstate.hpriv then k else raise .illegalInstruction s

/-- The privileged registers that exist once for each trap level above 0 (44_window_state.md R775). -/
def privPerTrapLevel : PrivReg → Bool
  | .tpc | .tnpc | .tstate | .tt => true
  | .tick | .tba | .pstate | .tl | .pil | .cwp | .cansave | .canrestore | .cleanwin | .otherwin | .wstate | .gl => false

/-- The hyperprivileged register that exists once for each trap level above 0 (44_window_state.md R785). -/
def hyperPerTrapLevel : HyperReg → Bool
  | .htstate => true
  | .hpstate | .hintp | .htba | .hver | .hstickCmpr => false

/-- PrRead(n) (44_window_state.md R776). -/
def prRead (s : State) : PrivReg → Word
  | .tpc => s.trapEntry.tpc
  | .tnpc => s.trapEntry.tnpc
  | .tstate => s.trapEntry.tstate.bits
  | .tt => s.trapEntry.tt.setWidth 64
  | .tick => s.tick.bits
  | .tba => s.tba ++ 0#15
  | .pstate => s.pstate.bits.setWidth 64
  | .tl => BitVec.ofNat 64 s.tl.val
  | .pil => s.pil.setWidth 64
  | .cwp => s.win.cwp.setWidth 64
  | .cansave => s.win.cansave.setWidth 64
  | .canrestore => s.win.canrestore.setWidth 64
  | .cleanwin => s.win.cleanwin.setWidth 64
  | .otherwin => s.win.otherwin.setWidth 64
  | .wstate => (s.win.wstateOther ++ s.win.wstateNormal).setWidth 64
  | .gl => BitVec.ofNat 64 s.gl.val

/-- The trap level WRPR writes: at most MAXPTL in privileged mode, MAXTL in hyperprivileged mode (11_state_privileged.md
R195). -/
def writableTl (s : State) (v : Word) : Fin 7 :=
  ⟨min (min (v.extractLsb' 0 3).toNat (if s.hpstate.hpriv then Config.maxTL else Config.maxPTL)) 6, by omega⟩

/-- The global level WRPR writes: at most MAXPGL in privileged mode, MAXGL in hyperprivileged mode (11_state_privileged.md
R197). -/
def writableGl (s : State) (v : Word) : Fin 4 :=
  ⟨min (min (v.extractLsb' 0 3).toNat (if s.hpstate.hpriv then Config.maxGL else Config.maxPGL)) 3, by omega⟩

/-- PrWrite(n, v) (44_window_state.md R781). -/
def prWrite (s : State) (v : Word) : PrivReg → State
  | .tpc => s.setTrapEntry { s.trapEntry with tpc := v.extractLsb' 2 62 ++ 0#2 }
  | .tnpc => s.setTrapEntry { s.trapEntry with tnpc := v.extractLsb' 2 62 ++ 0#2 }
  | .tstate => s.setTrapEntry { s.trapEntry with tstate := TState.ofBits v }
  | .tt => s.setTrapEntry { s.trapEntry with tt := v.extractLsb' 0 9 }
  | .tick => { s with tick := CounterReg.ofBits Config.tickBits v }
  | .tba => { s with tba := v.extractLsb' 15 49 }
  | .pstate => { s with pstate := PState.ofBits (v.extractLsb' 0 13) }
  | .tl => { s with tl := writableTl s v }
  | .pil => { s with pil := v.extractLsb' 0 4 }
  | .cwp => { s with win := { s.win with cwp := v.extractLsb' 0 3 } }
  | .cansave => { s with win := { s.win with cansave := v.extractLsb' 0 3 } }
  | .canrestore => { s with win := { s.win with canrestore := v.extractLsb' 0 3 } }
  | .cleanwin => { s with win := { s.win with cleanwin := v.extractLsb' 0 3 } }
  | .otherwin => { s with win := { s.win with otherwin := v.extractLsb' 0 3 } }
  | .wstate => { s with win := { s.win with wstateOther := v.extractLsb' 3 3, wstateNormal := v.extractLsb' 0 3 } }
  | .gl => { s with gl := writableGl s v }

/-- HprRead(n) (44_window_state.md R786). -/
def hprRead (s : State) : HyperReg → Word
  | .hpstate => s.hpstate.bits.setWidth 64
  | .htstate => s.trapEntry.htstate.setWidth 64
  | .hintp => (BitVec.ofBool s.hsp).setWidth 64
  | .htba => s.htba ++ 0#14
  | .hver => Config.hver
  | .hstickCmpr => s.hstickCmpr.bits

/-- HprWrite(n, v) (44_window_state.md R791); HVER is read-only and never reaches it (R790). -/
def hprWrite (s : State) (v : Word) : HyperReg → State
  | .hpstate => { s with hpstate := HPState.ofBits (v.extractLsb' 0 11) }
  | .htstate => s.setTrapEntry { s.trapEntry with htstate := v.extractLsb' 0 11 }
  | .hintp => { s with hsp := v.getLsbD 0 }
  | .htba => { s with htba := v.extractLsb' 14 50 }
  | .hver => s
  | .hstickCmpr => { s with hstickCmpr := CompareReg.ofBits v }

/-! ## Reads of the ancillary state registers -/

/-- R[rd] <- Y (44_window_state.md R740). -/
def execRdy (rd : RegField) (s : State) : Result := writeBack s rd (s.y.setWidth 64)

/-- R[rd] <- CCR (44_window_state.md R741). -/
def execRdccr (rd : RegField) (s : State) : Result := writeBack s rd (s.ccr.setWidth 64)

/-- R[rd] <- ASI (44_window_state.md R742). -/
def execRdasi (rd : RegField) (s : State) : Result := writeBack s rd (s.asi.setWidth 64)

/-- R[rd] <- TICK; in nonprivileged mode only if TICK.npt = 0 (44_window_state.md R743). -/
def execRdtick (rd : RegField) (s : State) : Result := unlessLocked s s.tick.npt (writeBack s rd s.tick.bits)

/-- R[rd] <- the address of this instruction (44_window_state.md R744). -/
def execRdpc (rd : RegField) (s : State) : Result := writeBack s rd (s.amMask s.pc)

/-- R[rd] <- FPRS (44_window_state.md R745). -/
def execRdfprs (rd : RegField) (s : State) : Result := writeBack s rd (s.fprs.bits.setWidth 64)

/-- R[rd] <- PCR (44_window_state.md R746). -/
def execRdpcr (rd : RegField) (s : State) : Result := privilegedOnly s (writeBack s rd s.pcr.bits)

/-- R[rd] <- PIC; in nonprivileged mode only if PCR.priv = 0 (44_window_state.md R747). -/
def execRdpic (rd : RegField) (s : State) : Result := unlessLocked s s.pcr.priv (writeBack s rd s.pic.bits)

/-- R[rd] <- GSR, if the FPU is enabled (44_window_state.md R748). -/
def execRdgsr (rd : RegField) (s : State) : Result := withFp s (writeBack s rd s.gsr.bits)

/-- R[rd] <- SOFTINT (44_window_state.md R749). -/
def execRdsoftint (rd : RegField) (s : State) : Result := privilegedOnly s (writeBack s rd (s.softint.setWidth 64))

/-- R[rd] <- TICK_CMPR (44_window_state.md R750). -/
def execRdtick_cmpr (rd : RegField) (s : State) : Result := privilegedOnly s (writeBack s rd s.tickCmpr.bits)

/-- R[rd] <- STICK; in nonprivileged mode only if STICK.npt = 0 (44_window_state.md R751). -/
def execRdstick (rd : RegField) (s : State) : Result := unlessLocked s s.stick.npt (writeBack s rd s.stick.bits)

/-- R[rd] <- STICK_CMPR (44_window_state.md R752). -/
def execRdstick_cmpr (rd : RegField) (s : State) : Result := privilegedOnly s (writeBack s rd s.stickCmpr.bits)

/-! ## Writes of the ancillary state registers -/

/-- Y <- WrValue{31:0} (44_window_state.md R760). -/
def execWry (rs1 : RegField) (op2 : Op2) (s : State) : Result :=
  complete (s.setY ((wrValue s rs1 op2).extractLsb' 0 32))

/-- CCR <- WrValue{7:0} (44_window_state.md R761). -/
def execWrccr (rs1 : RegField) (op2 : Op2) (s : State) : Result :=
  complete (s.setCcr ((wrValue s rs1 op2).extractLsb' 0 8))

/-- ASI <- WrValue{7:0} (44_window_state.md R762). -/
def execWrasi (rs1 : RegField) (op2 : Op2) (s : State) : Result :=
  complete { s with asi := (wrValue s rs1 op2).extractLsb' 0 8 }

/-- FPRS <- WrValue{2:0} (44_window_state.md R763). -/
def execWrfprs (rs1 : RegField) (op2 : Op2) (s : State) : Result :=
  complete { s with fprs := Fprs.ofBits (wrValue s rs1 op2) }

/-- PCR <- the writable fields of WrValue (44_window_state.md R764). -/
def execWrpcr (rs1 : RegField) (op2 : Op2) (s : State) : Result :=
  privilegedOnly s (complete { s with pcr := Pcr.ofBits (wrValue s rs1 op2) })

/-- PIC <- WrValue; in nonprivileged mode only if PCR.priv = 0 (44_window_state.md R765). -/
def execWrpic (rs1 : RegField) (op2 : Op2) (s : State) : Result :=
  unlessLocked s s.pcr.priv (complete { s with pic := Pic.ofBits (wrValue s rs1 op2) })

/-- GSR <- the writable fields of WrValue, if the FPU is enabled (44_window_state.md R766). -/
def execWrgsr (rs1 : RegField) (op2 : Op2) (s : State) : Result :=
  withFp s (complete { s with gsr := Gsr.ofBits (wrValue s rs1 op2) })

/-- SOFTINT <- SOFTINT or WrValue{16:0} (44_window_state.md R767). -/
def execWrsoftint_set (rs1 : RegField) (op2 : Op2) (s : State) : Result :=
  privilegedOnly s (complete { s with softint := s.softint ||| (wrValue s rs1 op2).extractLsb' 0 17 })

/-- SOFTINT <- SOFTINT and not WrValue{16:0} (44_window_state.md R768). -/
def execWrsoftint_clr (rs1 : RegField) (op2 : Op2) (s : State) : Result :=
  privilegedOnly s (complete { s with softint := s.softint &&& ~~~(wrValue s rs1 op2).extractLsb' 0 17 })

/-- SOFTINT <- WrValue{16:0} (44_window_state.md R769). -/
def execWrsoftint (rs1 : RegField) (op2 : Op2) (s : State) : Result :=
  privilegedOnly s (complete { s with softint := (wrValue s rs1 op2).extractLsb' 0 17 })

/-- TICK_CMPR <- WrValue (44_window_state.md R770). -/
def execWrtick_cmpr (rs1 : RegField) (op2 : Op2) (s : State) : Result :=
  privilegedOnly s (complete { s with tickCmpr := CompareReg.ofBits (wrValue s rs1 op2) })

/-- STICK <- WrValue, in hyperprivileged mode only (44_window_state.md R771). -/
def execWrstick (rs1 : RegField) (op2 : Op2) (s : State) : Result :=
  hyperOnly s (complete { s with stick := CounterReg.ofBits Config.stickBits (wrValue s rs1 op2) })

/-- STICK_CMPR <- WrValue (44_window_state.md R772). -/
def execWrstick_cmpr (rs1 : RegField) (op2 : Op2) (s : State) : Result :=
  privilegedOnly s (complete { s with stickCmpr := CompareReg.ofBits (wrValue s rs1 op2) })

/-! ## Privileged and hyperprivileged registers -/

/-- Read a privileged register (44_window_state.md R775). -/
def execRdpr (rd : RegField) (pr : PrivReg) (s : State) : Result :=
  privilegedOnly s
    (if privPerTrapLevel pr && s.tl.val == 0 then raise .illegalInstruction s else writeBack s rd (prRead s pr))

/-- Write a privileged register; TICK in hyperprivileged mode only (44_window_state.md R780). -/
def execWrpr (pr : PrivReg) (rs1 : RegField) (op2 : Op2) (s : State) : Result :=
  privilegedOnly s
    (if pr = .tick ∧ s.hpstate.hpriv = false then raise .illegalInstruction s
    else if privPerTrapLevel pr && s.tl.val == 0 then raise .illegalInstruction s
    else complete (prWrite s (wrValue s rs1 op2) pr))

/-- Read a hyperprivileged register (44_window_state.md R785). -/
def execRdhpr (rd : RegField) (hpr : HyperReg) (s : State) : Result :=
  hyperOnly s
    (if hyperPerTrapLevel hpr && s.tl.val == 0 then raise .illegalInstruction s else writeBack s rd (hprRead s hpr))

/-- Write a hyperprivileged register; HVER is read-only (44_window_state.md R790). -/
def execWrhpr (hpr : HyperReg) (rs1 : RegField) (op2 : Op2) (s : State) : Result :=
  hyperOnly s
    (if hpr = .hver then raise .illegalInstruction s
    else if hyperPerTrapLevel hpr && s.tl.val == 0 then raise .illegalInstruction s
    else complete (hprWrite s (wrValue s rs1 op2) hpr))

/-! ## Software-initiated reset and the IMPDEP2 opcodes -/

/-- A software-initiated reset, of priority 1.3, in hyperprivileged mode only (44_window_state.md R795, 60_exceptions.md
R1005). -/
def execSir (_simm13 : BitVec 13) (s : State) : Result := hyperOnly s (.next (s.outrankIpe 1300).softwareReset)

/-- No extension is implemented: illegal_instruction (44_window_state.md R796, D28). -/
def execImpdep2a (_bits29_25 : RegField) (_bits18_7 : BitVec 12) (_bits4_0 : BitVec 5) (s : State) : Result :=
  raise .illegalInstruction s

/-- A reserved opcode space: illegal_instruction (44_window_state.md R796, D28). -/
def execImpdep2b (_bits29_25 : RegField) (_bits18_7 : BitVec 12) (_op4 : BitVec 2) (_bits4_0 : BitVec 5) (s : State) :
    Result :=
  raise .illegalInstruction s

end Sys2Proof.Machine
end

