-- ==== Sys2Proof/Machine/Vis.lean ====
section
/-!
DEFINITION. The VIS instructions of the IMPDEP1 opcode space (46_vis.md). None changes FSR (R880).
-/

namespace Sys2Proof.Machine

/-! ## Shared operations -/

/-- A VIS instruction with a single result. -/
def visSingle (s : State) (rd : RegField) (v : HWord) : Result :=
  withFpDest s State.markLower (complete (s.writeFS rd v))

/-- A VIS instruction with a double result. -/
def visDouble (s : State) (rd : RegField) (v : Word) : Result :=
  withFpDest s (fun t => t.markDouble rd) (complete (s.writeFD rd v))

/-- Not implemented in hardware: illegal_instruction (46_vis.md R905, R957, R959; D26). -/
def notInHardware (s : State) : Result := raise .illegalInstruction s

/-- Apply an operation to the four 16-bit lanes of two doublewords (46_vis.md R916). -/
def lanes16 (op : BitVec 16 → BitVec 16 → BitVec 16) (a b : Word) : Word :=
  op (a.extractLsb' 48 16) (b.extractLsb' 48 16) ++ op (a.extractLsb' 32 16) (b.extractLsb' 32 16) ++
    op (a.extractLsb' 16 16) (b.extractLsb' 16 16) ++ op (a.extractLsb' 0 16) (b.extractLsb' 0 16)

/-- Apply an operation to the two 16-bit lanes of two words (46_vis.md R917). -/
def lanes16s (op : BitVec 16 → BitVec 16 → BitVec 16) (a b : HWord) : HWord :=
  op (a.extractLsb' 16 16) (b.extractLsb' 16 16) ++ op (a.extractLsb' 0 16) (b.extractLsb' 0 16)

/-- Apply an operation to the two 32-bit lanes of two doublewords (46_vis.md R918). -/
def lanes32 (op : HWord → HWord → HWord) (a b : Word) : Word :=
  op (a.extractLsb' 32 32) (b.extractLsb' 32 32) ++ op (a.extractLsb' 0 32) (b.extractLsb' 0 32)

/-- Compare the four 16-bit lanes; lane 0 gives bit 0 (46_vis.md R903). -/
def compare16 (rel : BitVec 16 → BitVec 16 → Bool) (a b : Word) : Word :=
  (BitVec.ofBool (rel (a.extractLsb' 48 16) (b.extractLsb' 48 16)) ++
    BitVec.ofBool (rel (a.extractLsb' 32 16) (b.extractLsb' 32 16)) ++
    BitVec.ofBool (rel (a.extractLsb' 16 16) (b.extractLsb' 16 16)) ++
    BitVec.ofBool (rel (a.extractLsb' 0 16) (b.extractLsb' 0 16))).setWidth 64

/-- Compare the two 32-bit lanes; lane 0 gives bit 0 (46_vis.md R903). -/
def compare32 (rel : HWord → HWord → Bool) (a b : Word) : Word :=
  (BitVec.ofBool (rel (a.extractLsb' 32 32) (b.extractLsb' 32 32)) ++
    BitVec.ofBool (rel (a.extractLsb' 0 32) (b.extractLsb' 0 32))).setWidth 64

/-- An instruction of a class C3 group: illegal_instruction where the implementation leaves the group to software (46_vis.md
R881, 00_scope.md R7, D7). -/
def classC3 (present : Bool) (s : State) (k : Result) : Result := if present then k else raise .illegalInstruction s

/-- A SIMD compare into R[rd] (46_vis.md R903). -/
def visCompare (s : State) (rd : RegField) (v : Word) : Result :=
  classC3 Config.c3Compare s (withFp s (writeBack s rd v))

/-- The doubleword whose 16-bit lane k is `f k` (46_vis.md R906). -/
def fourLanes (f : Nat → BitVec 16) : Word := f 3 ++ f 2 ++ f 1 ++ f 0

/-- The doubleword whose 32-bit lane k is `f k` (46_vis.md R911). -/
def twoLanes (f : Nat → HWord) : Word := f 1 ++ f 0

/-- A product divided by 2^n and rounded to nearest, a tie toward +infinity, its low 16 bits (46_vis.md R906, R909, R910; D14). -/
def roundProduct (n : Nat) (p : Int) : BitVec 16 := BitVec.ofInt 16 ((p + 2 ^ (n - 1)) / 2 ^ n)

/-- Four unsigned bytes times a signed 16-bit multiplier for each lane (46_vis.md R906 to R908). -/
def multiplyBytes (a : HWord) (m : Nat → Int) : Word :=
  fourLanes fun k => roundProduct 8 ((a.extractLsb' (8 * k) 8).toNat * m k)

/-- Four signed upper bytes times four signed lanes (46_vis.md R909). -/
def multiplyUpper (a b : Word) : Word :=
  fourLanes fun k => roundProduct 8 ((a.extractLsb' (16 * k + 8) 8).toInt * (b.extractLsb' (16 * k) 16).toInt)

/-- Four unsigned lower bytes times four signed lanes (46_vis.md R910). -/
def multiplyLower (a b : Word) : Word :=
  fourLanes fun k => roundProduct 16 ((a.extractLsb' (16 * k) 8).toNat * (b.extractLsb' (16 * k) 16).toInt)

/-- Two signed upper bytes times two signed lanes, shifted left by 8 (46_vis.md R911). -/
def multiplyUpperWide (a b : HWord) : Word :=
  twoLanes fun k => BitVec.ofInt 32 ((a.extractLsb' (16 * k + 8) 8).toInt * (b.extractLsb' (16 * k) 16).toInt * 2 ^ 8)

/-- Two unsigned lower bytes times two signed lanes (46_vis.md R912). -/
def multiplyLowerWide (a b : HWord) : Word :=
  twoLanes fun k => BitVec.ofInt 32 ((a.extractLsb' (16 * k) 8).toNat * (b.extractLsb' (16 * k) 16).toInt)

/-- Shift left by the scale, drop the low n bits, and clip to the range (46_vis.md R913 to R915). -/
def scaleAndClip (v : Int) (scale n : Nat) (lo hi : Int) : Int := max lo (min hi (v * 2 ^ scale / 2 ^ n))

/-- Four signed 16-bit lanes packed into unsigned bytes, by GSR.scale{3:0} (46_vis.md R913). -/
def pack16 (scale : BitVec 5) (b : Word) : HWord :=
  let byte := fun k => BitVec.ofInt 8 (scaleAndClip (b.extractLsb' (16 * k) 16).toInt (scale.toNat % 16) 7 0 255)
  byte 3 ++ byte 2 ++ byte 1 ++ byte 0

/-- Two signed 32-bit lanes packed into unsigned bytes below the lanes of `a`, shifted left by 8 (46_vis.md R914). -/
def pack32 (scale : BitVec 5) (a b : Word) : Word :=
  twoLanes fun k =>
    (a.extractLsb' (32 * k) 32 <<< 8) |||
      BitVec.ofInt 32 (scaleAndClip (b.extractLsb' (32 * k) 32).toInt scale.toNat 23 0 255)

/-- Two signed 32-bit lanes packed into signed 16-bit lanes (46_vis.md R915). -/
def packFix (scale : BitVec 5) (b : Word) : HWord :=
  let lane := fun k =>
    BitVec.ofInt 16 (scaleAndClip (b.extractLsb' (32 * k) 32).toInt scale.toNat 16 (-32768) 32767)
  lane 1 ++ lane 0

/-- The bytes of two words in turn, those of `a` the higher of each pair (46_vis.md R920). -/
def mergeBytes (a b : HWord) : Word := fourLanes fun k => a.extractLsb' (8 * k) 8 ++ b.extractLsb' (8 * k) 8

/-- Replace GSR. -/
def State.setGsr (s : State) (g : Gsr) : State := { s with gsr := g }

/-- The operand sizes of the edge instructions, in bits. -/
inductive EdgeSize where
  | e8
  | e16
  | e32
  deriving DecidableEq, Repr

/-- Reverse the n low bits of a mask; above them 0. -/
def reverseLow (v : BitVec 8) : Nat → BitVec 8
  | 0 => 0#8
  | n + 1 => (reverseLow (v >>> 1) n) ||| ((v &&& 1#8) <<< n)

/-- How many partitions an edge mask has. -/
def EdgeSize.lanes : EdgeSize → Nat
  | .e8 => 8
  | .e16 => 4
  | .e32 => 2

/-- The partition that the low three bits of an address fall in. -/
def EdgeSize.index (z : EdgeSize) (low : BitVec 3) : Nat :=
  match z with
  | .e8 => low.toNat
  | .e16 => low.toNat / 2
  | .e32 => low.toNat / 4

/-- The big-endian left mask: the partition of the address and all after it (46_vis.md R889, TABLE 7-6). -/
def edgeLeft (z : EdgeSize) (low : BitVec 3) : BitVec 8 := BitVec.ofNat 8 (2 ^ (z.lanes - z.index low) - 1)

/-- The big-endian right mask: the partition of the address and all before it (46_vis.md R889, TABLE 7-6). -/
def edgeRight (z : EdgeSize) (low : BitVec 3) : BitVec 8 :=
  BitVec.ofNat 8 (2 ^ z.lanes - 2 ^ (z.lanes - 1 - z.index low))

/-- EdgeMask(size, little, a, b) (46_vis.md R889). -/
def edgeMask (s : State) (z : EdgeSize) (little : Bool) (a b : Word) : Word :=
  let order := fun m => if little then reverseLow m z.lanes else m
  let left := order (edgeLeft z (a.extractLsb' 0 3))
  let right := order (edgeRight z (b.extractLsb' 0 3))
  let same :=
    if s.pstate.am then a.extractLsb' 3 29 == b.extractLsb' 3 29 else a.extractLsb' 3 61 == b.extractLsb' 3 61
  (if same then left &&& right else left).setWidth 64

/-- EDGE without condition codes (46_vis.md R896). -/
def visEdge (s : State) (z : EdgeSize) (little : Bool) (rd rs1 rs2 : RegField) : Result :=
  classC3 Config.c3Edge s (writeBack s rd (edgeMask s z little (s.readR rs1) (s.readR rs2)))

/-- EDGE with the condition codes of SUBcc (46_vis.md R890). -/
def visEdgeCC (s : State) (z : EdgeSize) (little : Bool) (rd rs1 rs2 : RegField) : Result :=
  classC3 Config.c3Edge s
    (writeBackCC s rd (edgeMask s z little (s.readR rs1) (s.readR rs2))
      (subCC (s.readR rs1) (s.readR rs2) false (s.readR rs1 - s.readR rs2)))

/-- The n bits of a from bit `lo`, at bit `at_` of the result. -/
def placeField (a : Word) (lo n at_ : Nat) : Word := (a.extractLsb' lo n).setWidth 64 <<< at_

/-- The blocked-byte address of a three-dimensional array element, n = 0 to 5 (46_vis.md R884, TABLE 7-5). -/
def arrayAddress (a : Word) (n : Nat) : Word :=
  placeField a 11 2 0 ||| placeField a 33 2 2 ||| placeField a 55 1 4 ||| placeField a 13 4 5 ||| placeField a 35 4 9 |||
    placeField a 56 4 13 ||| placeField a 17 n 17 ||| placeField a 39 n (17 + n) ||| placeField a 60 4 (17 + 2 * n)

/-- ARRAY8, ARRAY16, ARRAY32: the address shifted left; with R[rs2] above 5 R[rd] is undefined, a free value (46_vis.md
R884 to R886; log 4). -/
def visArray (s : State) (shift : Nat) (rd rs1 rs2 : RegField) : Result :=
  classC3 Config.c3Array s
    (if (s.readR rs2).toNat ≤ 5 then writeBack s rd (arrayAddress (s.readR rs1) (s.readR rs2).toNat <<< shift)
    else writeBack s.drawn rd s.freeWord)

/-- ALIGNADDRESS: the aligned sum, and GSR.align as given by `align` (46_vis.md R882). -/
def visAlignAddress (s : State) (align : BitVec 3 → BitVec 3) (rd rs1 rs2 : RegField) : Result :=
  let sum := s.readR rs1 + s.readR rs2
  withFp s
    (writeBack (s.setGsr { s.gsr with align := align (sum.extractLsb' 0 3) }) rd (sum.extractLsb' 3 61 ++ 0#3))

/-- Byte k of a 128-bit value, byte 0 the most significant (46_vis.md R888). -/
def byteOf128 (v : BitVec 128) (k : BitVec 4) : Byte := v.extractLsb' (8 * (15 - k.toNat)) 8

/-- BSHUFFLE's permutation by GSR.mask (46_vis.md R888). -/
def shuffleBytes (v : BitVec 128) (mask : BitVec 32) : Word :=
  byteOf128 v (mask.extractLsb' 28 4) ++ byteOf128 v (mask.extractLsb' 24 4) ++ byteOf128 v (mask.extractLsb' 20 4) ++
    byteOf128 v (mask.extractLsb' 16 4) ++ byteOf128 v (mask.extractLsb' 12 4) ++ byteOf128 v (mask.extractLsb' 8 4) ++
    byteOf128 v (mask.extractLsb' 4 4) ++ byteOf128 v (mask.extractLsb' 0 4)

/-- Bytes k to k + 7 of a 128-bit value (46_vis.md R902). -/
def alignBytes (v : BitVec 128) (k : BitVec 3) : Word := v.extractLsb' (64 - 8 * k.toNat) 64

/-! ## Edges and arrays -/

/-- 8-bit edge mask, with the codes of SUBcc (46_vis.md R890). -/
def execEdge8cc (rd : RegField) (rs1 : RegField) (rs2 : RegField) (s : State) : Result :=
  visEdgeCC s .e8 false rd rs1 rs2

/-- 8-bit edge mask (46_vis.md R896). -/
def execEdge8n (rd : RegField) (rs1 : RegField) (rs2 : RegField) (s : State) : Result := visEdge s .e8 false rd rs1 rs2

/-- 8-bit edge mask, little-endian, with the codes of SUBcc (46_vis.md R891). -/
def execEdge8lcc (rd : RegField) (rs1 : RegField) (rs2 : RegField) (s : State) : Result :=
  visEdgeCC s .e8 true rd rs1 rs2

/-- 8-bit edge mask, little-endian (46_vis.md R897). -/
def execEdge8ln (rd : RegField) (rs1 : RegField) (rs2 : RegField) (s : State) : Result := visEdge s .e8 true rd rs1 rs2

/-- 16-bit edge mask, with the codes of SUBcc (46_vis.md R892). -/
def execEdge16cc (rd : RegField) (rs1 : RegField) (rs2 : RegField) (s : State) : Result :=
  visEdgeCC s .e16 false rd rs1 rs2

/-- 16-bit edge mask (46_vis.md R898). -/
def execEdge16n (rd : RegField) (rs1 : RegField) (rs2 : RegField) (s : State) : Result :=
  visEdge s .e16 false rd rs1 rs2

/-- 16-bit edge mask, little-endian, with the codes of SUBcc (46_vis.md R893). -/
def execEdge16lcc (rd : RegField) (rs1 : RegField) (rs2 : RegField) (s : State) : Result :=
  visEdgeCC s .e16 true rd rs1 rs2

/-- 16-bit edge mask, little-endian (46_vis.md R899). -/
def execEdge16ln (rd : RegField) (rs1 : RegField) (rs2 : RegField) (s : State) : Result :=
  visEdge s .e16 true rd rs1 rs2

/-- 32-bit edge mask, with the codes of SUBcc (46_vis.md R894). -/
def execEdge32cc (rd : RegField) (rs1 : RegField) (rs2 : RegField) (s : State) : Result :=
  visEdgeCC s .e32 false rd rs1 rs2

/-- 32-bit edge mask (46_vis.md R900). -/
def execEdge32n (rd : RegField) (rs1 : RegField) (rs2 : RegField) (s : State) : Result :=
  visEdge s .e32 false rd rs1 rs2

/-- 32-bit edge mask, little-endian, with the codes of SUBcc (46_vis.md R895). -/
def execEdge32lcc (rd : RegField) (rs1 : RegField) (rs2 : RegField) (s : State) : Result :=
  visEdgeCC s .e32 true rd rs1 rs2

/-- 32-bit edge mask, little-endian (46_vis.md R901). -/
def execEdge32ln (rd : RegField) (rs1 : RegField) (rs2 : RegField) (s : State) : Result :=
  visEdge s .e32 true rd rs1 rs2

/-- Three-dimensional array address, 8-bit elements (46_vis.md R884). -/
def execArray8 (rd : RegField) (rs1 : RegField) (rs2 : RegField) (s : State) : Result := visArray s 0 rd rs1 rs2

/-- Three-dimensional array address, 16-bit elements (46_vis.md R885). -/
def execArray16 (rd : RegField) (rs1 : RegField) (rs2 : RegField) (s : State) : Result := visArray s 1 rd rs1 rs2

/-- Three-dimensional array address, 32-bit elements (46_vis.md R886). -/
def execArray32 (rd : RegField) (rs1 : RegField) (rs2 : RegField) (s : State) : Result := visArray s 2 rd rs1 rs2

/-! ## Addresses and byte shuffles -/

/-- The aligned sum, its low bits in GSR.align (46_vis.md R882). -/
def execAlignaddress (rd : RegField) (rs1 : RegField) (rs2 : RegField) (s : State) : Result :=
  visAlignAddress s (fun a => a) rd rs1 rs2

/-- The aligned sum, the two's complement of its low bits in GSR.align (46_vis.md R883). -/
def execAlignaddress_little (rd : RegField) (rs1 : RegField) (rs2 : RegField) (s : State) : Result :=
  visAlignAddress s (fun a => -a) rd rs1 rs2

/-- The sum, its low word in GSR.mask (46_vis.md R887). -/
def execBmask (rd : RegField) (rs1 : RegField) (rs2 : RegField) (s : State) : Result :=
  classC3 Config.c3Bmask s
    (withFp s (writeBack (s.setGsr { s.gsr with mask := (s.readR rs1 + s.readR rs2).extractLsb' 0 32 }) rd
      (s.readR rs1 + s.readR rs2)))

/-- Shuffle sixteen bytes by GSR.mask (46_vis.md R888). -/
def execBshuffle (rd : RegField) (rs1 : RegField) (rs2 : RegField) (s : State) : Result :=
  classC3 Config.c3Bshuffle s (visDouble s rd (shuffleBytes (s.readFD rs1 ++ s.readFD rs2) s.gsr.mask))

/-- Eight bytes from GSR.align on (46_vis.md R902). -/
def execFaligndata (rd : RegField) (rs1 : RegField) (rs2 : RegField) (s : State) : Result :=
  visDouble s rd (alignBytes (s.readFD rs1 ++ s.readFD rs2) s.gsr.align)

/-! ## Compares -/

/-- Compare 16-bit lanes, LE (46_vis.md R903). -/
def execFcmple16 (rd : RegField) (rs1 : RegField) (rs2 : RegField) (s : State) : Result :=
  visCompare s rd (compare16 (fun x y => BitVec.sle x y) (s.readFD rs1) (s.readFD rs2))

/-- Compare 32-bit lanes, LE (46_vis.md R903). -/
def execFcmple32 (rd : RegField) (rs1 : RegField) (rs2 : RegField) (s : State) : Result :=
  visCompare s rd (compare32 (fun x y => BitVec.sle x y) (s.readFD rs1) (s.readFD rs2))

/-- Compare 16-bit lanes, NE (46_vis.md R903). -/
def execFcmpne16 (rd : RegField) (rs1 : RegField) (rs2 : RegField) (s : State) : Result :=
  visCompare s rd (compare16 (fun x y => x != y) (s.readFD rs1) (s.readFD rs2))

/-- Compare 32-bit lanes, NE (46_vis.md R903). -/
def execFcmpne32 (rd : RegField) (rs1 : RegField) (rs2 : RegField) (s : State) : Result :=
  visCompare s rd (compare32 (fun x y => x != y) (s.readFD rs1) (s.readFD rs2))

/-- Compare 16-bit lanes, GT (46_vis.md R903). -/
def execFcmpgt16 (rd : RegField) (rs1 : RegField) (rs2 : RegField) (s : State) : Result :=
  visCompare s rd (compare16 (fun x y => BitVec.slt y x) (s.readFD rs1) (s.readFD rs2))

/-- Compare 32-bit lanes, GT (46_vis.md R903). -/
def execFcmpgt32 (rd : RegField) (rs1 : RegField) (rs2 : RegField) (s : State) : Result :=
  visCompare s rd (compare32 (fun x y => BitVec.slt y x) (s.readFD rs1) (s.readFD rs2))

/-- Compare 16-bit lanes, EQ (46_vis.md R903). -/
def execFcmpeq16 (rd : RegField) (rs1 : RegField) (rs2 : RegField) (s : State) : Result :=
  visCompare s rd (compare16 (fun x y => x == y) (s.readFD rs1) (s.readFD rs2))

/-- Compare 32-bit lanes, EQ (46_vis.md R903). -/
def execFcmpeq32 (rd : RegField) (rs1 : RegField) (rs2 : RegField) (s : State) : Result :=
  visCompare s rd (compare32 (fun x y => x == y) (s.readFD rs1) (s.readFD rs2))

/-! ## Partitioned addition and subtraction -/

/-- Four 16-bit lanes (46_vis.md R916). -/
def execFpadd16 (rd : RegField) (rs1 : RegField) (rs2 : RegField) (s : State) : Result :=
  visDouble s rd (lanes16 (· + ·) (s.readFD rs1) (s.readFD rs2))

/-- Two 16-bit lanes (46_vis.md R917). -/
def execFpadd16s (rd : RegField) (rs1 : RegField) (rs2 : RegField) (s : State) : Result :=
  visSingle s rd (lanes16s (· + ·) (s.readFS rs1) (s.readFS rs2))

/-- Two 32-bit lanes (46_vis.md R918). -/
def execFpadd32 (rd : RegField) (rs1 : RegField) (rs2 : RegField) (s : State) : Result :=
  visDouble s rd (lanes32 (· + ·) (s.readFD rs1) (s.readFD rs2))

/-- One 32-bit lane (46_vis.md R919). -/
def execFpadd32s (rd : RegField) (rs1 : RegField) (rs2 : RegField) (s : State) : Result :=
  visSingle s rd (s.readFS rs1 + s.readFS rs2)

/-- Four 16-bit lanes (46_vis.md R921). -/
def execFpsub16 (rd : RegField) (rs1 : RegField) (rs2 : RegField) (s : State) : Result :=
  visDouble s rd (lanes16 (· - ·) (s.readFD rs1) (s.readFD rs2))

/-- Two 16-bit lanes (46_vis.md R922). -/
def execFpsub16s (rd : RegField) (rs1 : RegField) (rs2 : RegField) (s : State) : Result :=
  visSingle s rd (lanes16s (· - ·) (s.readFS rs1) (s.readFS rs2))

/-- Two 32-bit lanes (46_vis.md R923). -/
def execFpsub32 (rd : RegField) (rs1 : RegField) (rs2 : RegField) (s : State) : Result :=
  visDouble s rd (lanes32 (· - ·) (s.readFD rs1) (s.readFD rs2))

/-- One 32-bit lane (46_vis.md R924). -/
def execFpsub32s (rd : RegField) (rs1 : RegField) (rs2 : RegField) (s : State) : Result :=
  visSingle s rd (s.readFS rs1 - s.readFS rs2)

/-! ## Logical operations -/

/-- All zeros (46_vis.md R925). -/
def execFzero (rd : RegField) (s : State) : Result := visDouble s rd 0#64

/-- All zeros, 32 bits (46_vis.md R926). -/
def execFzeros (rd : RegField) (s : State) : Result := visSingle s rd 0#32

/-- All ones (46_vis.md R927). -/
def execFone (rd : RegField) (s : State) : Result := visDouble s rd 0xFFFFFFFFFFFFFFFF#64

/-- All ones, 32 bits (46_vis.md R928). -/
def execFones (rd : RegField) (s : State) : Result := visSingle s rd 0xFFFFFFFF#32

/-- Copy rs1 (46_vis.md R929). -/
def execFsrc1 (rd : RegField) (rs1 : RegField) (s : State) : Result := visDouble s rd (s.readFD rs1)

/-- Copy rs1, 32 bits (46_vis.md R930). -/
def execFsrc1s (rd : RegField) (rs1 : RegField) (s : State) : Result := visSingle s rd (s.readFS rs1)

/-- Copy rs2 (46_vis.md R931). -/
def execFsrc2 (rd : RegField) (rs2 : RegField) (s : State) : Result := visDouble s rd (s.readFD rs2)

/-- Copy rs2, 32 bits (46_vis.md R932). -/
def execFsrc2s (rd : RegField) (rs2 : RegField) (s : State) : Result := visSingle s rd (s.readFS rs2)

/-- Not rs1 (46_vis.md R933). -/
def execFnot1 (rd : RegField) (rs1 : RegField) (s : State) : Result := visDouble s rd (~~~(s.readFD rs1))

/-- Not rs1, 32 bits (46_vis.md R934). -/
def execFnot1s (rd : RegField) (rs1 : RegField) (s : State) : Result := visSingle s rd (~~~(s.readFS rs1))

/-- Not rs2 (46_vis.md R935). -/
def execFnot2 (rd : RegField) (rs2 : RegField) (s : State) : Result := visDouble s rd (~~~(s.readFD rs2))

/-- Not rs2, 32 bits (46_vis.md R936). -/
def execFnot2s (rd : RegField) (rs2 : RegField) (s : State) : Result := visSingle s rd (~~~(s.readFS rs2))

/-- a or b (46_vis.md R937). -/
def execFor (rd : RegField) (rs1 : RegField) (rs2 : RegField) (s : State) : Result :=
  visDouble s rd (s.readFD rs1 ||| s.readFD rs2)

/-- a or b, 32 bits (46_vis.md R938). -/
def execFors (rd : RegField) (rs1 : RegField) (rs2 : RegField) (s : State) : Result :=
  visSingle s rd (s.readFS rs1 ||| s.readFS rs2)

/-- not (a or b) (46_vis.md R939). -/
def execFnor (rd : RegField) (rs1 : RegField) (rs2 : RegField) (s : State) : Result :=
  visDouble s rd (~~~(s.readFD rs1 ||| s.readFD rs2))

/-- not (a or b), 32 bits (46_vis.md R940). -/
def execFnors (rd : RegField) (rs1 : RegField) (rs2 : RegField) (s : State) : Result :=
  visSingle s rd (~~~(s.readFS rs1 ||| s.readFS rs2))

/-- a and b (46_vis.md R941). -/
def execFand (rd : RegField) (rs1 : RegField) (rs2 : RegField) (s : State) : Result :=
  visDouble s rd (s.readFD rs1 &&& s.readFD rs2)

/-- a and b, 32 bits (46_vis.md R942). -/
def execFands (rd : RegField) (rs1 : RegField) (rs2 : RegField) (s : State) : Result :=
  visSingle s rd (s.readFS rs1 &&& s.readFS rs2)

/-- not (a and b) (46_vis.md R943). -/
def execFnand (rd : RegField) (rs1 : RegField) (rs2 : RegField) (s : State) : Result :=
  visDouble s rd (~~~(s.readFD rs1 &&& s.readFD rs2))

/-- not (a and b), 32 bits (46_vis.md R944). -/
def execFnands (rd : RegField) (rs1 : RegField) (rs2 : RegField) (s : State) : Result :=
  visSingle s rd (~~~(s.readFS rs1 &&& s.readFS rs2))

/-- a xor b (46_vis.md R945). -/
def execFxor (rd : RegField) (rs1 : RegField) (rs2 : RegField) (s : State) : Result :=
  visDouble s rd (s.readFD rs1 ^^^ s.readFD rs2)

/-- a xor b, 32 bits (46_vis.md R946). -/
def execFxors (rd : RegField) (rs1 : RegField) (rs2 : RegField) (s : State) : Result :=
  visSingle s rd (s.readFS rs1 ^^^ s.readFS rs2)

/-- not (a xor b) (46_vis.md R947). -/
def execFxnor (rd : RegField) (rs1 : RegField) (rs2 : RegField) (s : State) : Result :=
  visDouble s rd (~~~(s.readFD rs1 ^^^ s.readFD rs2))

/-- not (a xor b), 32 bits (46_vis.md R948). -/
def execFxnors (rd : RegField) (rs1 : RegField) (rs2 : RegField) (s : State) : Result :=
  visSingle s rd (~~~(s.readFS rs1 ^^^ s.readFS rs2))

/-- (not a) or b (46_vis.md R949). -/
def execFornot1 (rd : RegField) (rs1 : RegField) (rs2 : RegField) (s : State) : Result :=
  visDouble s rd (~~~(s.readFD rs1) ||| s.readFD rs2)

/-- (not a) or b, 32 bits (46_vis.md R950). -/
def execFornot1s (rd : RegField) (rs1 : RegField) (rs2 : RegField) (s : State) : Result :=
  visSingle s rd (~~~(s.readFS rs1) ||| s.readFS rs2)

/-- a or (not b) (46_vis.md R951). -/
def execFornot2 (rd : RegField) (rs1 : RegField) (rs2 : RegField) (s : State) : Result :=
  visDouble s rd (s.readFD rs1 ||| ~~~(s.readFD rs2))

/-- a or (not b), 32 bits (46_vis.md R952). -/
def execFornot2s (rd : RegField) (rs1 : RegField) (rs2 : RegField) (s : State) : Result :=
  visSingle s rd (s.readFS rs1 ||| ~~~(s.readFS rs2))

/-- (not a) and b (46_vis.md R953). -/
def execFandnot1 (rd : RegField) (rs1 : RegField) (rs2 : RegField) (s : State) : Result :=
  visDouble s rd (~~~(s.readFD rs1) &&& s.readFD rs2)

/-- (not a) and b, 32 bits (46_vis.md R954). -/
def execFandnot1s (rd : RegField) (rs1 : RegField) (rs2 : RegField) (s : State) : Result :=
  visSingle s rd (~~~(s.readFS rs1) &&& s.readFS rs2)

/-- a and (not b) (46_vis.md R955). -/
def execFandnot2 (rd : RegField) (rs1 : RegField) (rs2 : RegField) (s : State) : Result :=
  visDouble s rd (s.readFD rs1 &&& ~~~(s.readFD rs2))

/-- a and (not b), 32 bits (46_vis.md R956). -/
def execFandnot2s (rd : RegField) (rs1 : RegField) (rs2 : RegField) (s : State) : Result :=
  visSingle s rd (s.readFS rs1 &&& ~~~(s.readFS rs2))

/-! ## Interval arithmetic mode -/

/-- Set GSR.im and GSR.irnd (46_vis.md R958). -/
def execSiam (mode : BitVec 3) (s : State) : Result :=
  withFp s (complete (s.setGsr { s.gsr with im := mode.getLsbD 2, irnd := mode.extractLsb' 0 2 }))

/-! ## Packing and partitioned multiplication: illegal_instruction, unless the implementation has the group in hardware
(46_vis.md 7.30, 7.33, 7.35; D7, log 25) -/

/-- Unsigned bytes times signed 16-bit lanes (46_vis.md R906). -/
def execFmul8x16 (rd : RegField) (rs1 : RegField) (rs2 : RegField) (s : State) : Result :=
  classC3 Config.c3Fmul8 s
    (visDouble s rd (multiplyBytes (s.readFS rs1) fun k => ((s.readFD rs2).extractLsb' (16 * k) 16).toInt))

/-- Unsigned bytes times the upper half of FS[rs2] (46_vis.md R907). -/
def execFmul8x16au (rd : RegField) (rs1 : RegField) (rs2 : RegField) (s : State) : Result :=
  classC3 Config.c3Fmul8 s
    (visDouble s rd (multiplyBytes (s.readFS rs1) fun _ => ((s.readFS rs2).extractLsb' 16 16).toInt))

/-- Unsigned bytes times the lower half of FS[rs2] (46_vis.md R908). -/
def execFmul8x16al (rd : RegField) (rs1 : RegField) (rs2 : RegField) (s : State) : Result :=
  classC3 Config.c3Fmul8 s
    (visDouble s rd (multiplyBytes (s.readFS rs1) fun _ => ((s.readFS rs2).extractLsb' 0 16).toInt))

/-- Signed upper bytes times signed 16-bit lanes (46_vis.md R909). -/
def execFmul8sux16 (rd : RegField) (rs1 : RegField) (rs2 : RegField) (s : State) : Result :=
  classC3 Config.c3Fmul8 s
    (visDouble s rd (multiplyUpper (s.readFD rs1) (s.readFD rs2)))

/-- Unsigned lower bytes times signed 16-bit lanes (46_vis.md R910). -/
def execFmul8ulx16 (rd : RegField) (rs1 : RegField) (rs2 : RegField) (s : State) : Result :=
  classC3 Config.c3Fmul8 s
    (visDouble s rd (multiplyLower (s.readFD rs1) (s.readFD rs2)))

/-- Signed upper bytes times signed 16-bit lanes, 32-bit results (46_vis.md R911). -/
def execFmuld8sux16 (rd : RegField) (rs1 : RegField) (rs2 : RegField) (s : State) : Result :=
  classC3 Config.c3Fmul8 s
    (visDouble s rd (multiplyUpperWide (s.readFS rs1) (s.readFS rs2)))

/-- Unsigned lower bytes times signed 16-bit lanes, 32-bit results (46_vis.md R912). -/
def execFmuld8ulx16 (rd : RegField) (rs1 : RegField) (rs2 : RegField) (s : State) : Result :=
  classC3 Config.c3Fmul8 s
    (visDouble s rd (multiplyLowerWide (s.readFS rs1) (s.readFS rs2)))

/-- Pack two 32-bit lanes into bytes (46_vis.md R914). -/
def execFpack32 (rd : RegField) (rs1 : RegField) (rs2 : RegField) (s : State) : Result :=
  classC3 Config.c3Fpack s
    (visDouble s rd (pack32 s.gsr.scale (s.readFD rs1) (s.readFD rs2)))

/-- Pack four 16-bit lanes into bytes (46_vis.md R913). -/
def execFpack16 (rd : RegField) (_rs1 : RegField) (rs2 : RegField) (s : State) : Result :=
  classC3 Config.c3Fpack s
    (visSingle s rd (pack16 s.gsr.scale (s.readFD rs2)))

/-- Pack two 32-bit lanes into 16-bit ones (46_vis.md R915). -/
def execFpackfix (rd : RegField) (_rs1 : RegField) (rs2 : RegField) (s : State) : Result :=
  classC3 Config.c3Fpack s
    (visSingle s rd (packFix s.gsr.scale (s.readFD rs2)))

/-- Interleave the bytes of two words (46_vis.md R920). -/
def execFpmerge (rd : RegField) (rs1 : RegField) (rs2 : RegField) (s : State) : Result :=
  classC3 Config.c3Fpmerge s
    (visDouble s rd (mergeBytes (s.readFS rs1) (s.readFS rs2)))

/-! ## Not implemented in hardware -/

/-- illegal_instruction; emulated by software (46_vis.md R957). -/
def execPdist (_rd : RegField) (_rs1 : RegField) (_rs2 : RegField) (s : State) : Result := notInHardware s

/-- illegal_instruction; emulated by software (46_vis.md R905). -/
def execFexpand (_rd : RegField) (_rs1 : RegField) (_rs2 : RegField) (s : State) : Result := notInHardware s

/-- illegal_instruction; emulated by software (46_vis.md R959). -/
def execShutdown (_rd : RegField) (_rs1 : RegField) (_rs2 : RegField) (s : State) : Result := notInHardware s

end Sys2Proof.Machine
end

