-- ==== Sys2Proof/Machine/Window.lean ====
section
/-!
DEFINITION. The register-window instructions (44_window_state.md R720 to R738).
-/

namespace Sys2Proof.Machine

/-! ## Shared operations -/

/-- The spill exception of SAVE and FLUSHW (60_exceptions.md R1025, 44_window_state.md R720). -/
def State.spillExc (s : State) : Exc :=
  if s.win.otherwin = 0#3 then .spill false s.win.wstateNormal else .spill true s.win.wstateOther

/-- The window registers after SAVE (44_window_state.md R730). -/
def WindowRegs.saved (w : WindowRegs) : WindowRegs :=
  { w with cwp := windowAdd w.cwp 1, cansave := w.cansave - 1#3, canrestore := w.canrestore + 1#3 }

/-- The window registers after a window was spilled (44_window_state.md R732). -/
def WindowRegs.spilled (w : WindowRegs) : WindowRegs :=
  if w.otherwin = 0#3 then { w with cansave := w.cansave + 1#3, canrestore := w.canrestore - 1#3 }
  else { w with cansave := w.cansave + 1#3, otherwin := w.otherwin - 1#3 }

/-- CLEANWIN after RESTORED: one more, at most N_REG_WINDOWS - 1 (44_window_state.md R733, D27). -/
def cleanwinAfterFill (c : BitVec 3) : BitVec 3 := if Config.nRegWindows - 1 ≤ c.toNat then c else c + 1#3

/-- The window registers after a window was filled (44_window_state.md R733, D27). -/
def WindowRegs.filled (w : WindowRegs) : WindowRegs :=
  if w.otherwin = 0#3 then
    { w with
      canrestore := w.canrestore + 1#3, cansave := w.cansave - 1#3, cleanwin := cleanwinAfterFill w.cleanwin }
  else
    { w with
      canrestore := w.canrestore + 1#3, otherwin := w.otherwin - 1#3, cleanwin := cleanwinAfterFill w.cleanwin }

/-- Replace the window registers. -/
def State.setWin (s : State) (w : WindowRegs) : State := { s with win := w }

/-! ## Meanings -/

/-- A new window, with the sum of the old window's operands in the new window's R[rd] (44_window_state.md R730). -/
def execSave (rd : RegField) (rs1 : RegField) (op2 : Op2) (s : State) : Result :=
  if s.win.cansave = 0#3 then raise s.spillExc s
  else if s.win.cleanwin = s.win.canrestore then raise .cleanWindow s
  else writeBack (s.setWin s.win.saved) rd (s.readR rs1 + op2Value s op2)

/-- The previous window, with the sum of the old window's operands in its R[rd] (44_window_state.md R731). -/
def execRestore (rd : RegField) (rs1 : RegField) (op2 : Op2) (s : State) : Result :=
  if s.win.canrestore = 0#3 then raise s.fillExc s
  else writeBack (s.setWin s.win.restored) rd (s.readR rs1 + op2Value s op2)

/-- A spill handler has spilled a window (44_window_state.md R732). -/
def execSaved (s : State) : Result :=
  if s.isUser then raise .privilegedOpcode s else complete (s.setWin s.win.spilled)

/-- A fill handler has filled a window (44_window_state.md R733). -/
def execRestored (s : State) : Result :=
  if s.isUser then raise .privilegedOpcode s else complete (s.setWin s.win.filled)

/-- Spill until only the current window is active (44_window_state.md R734). -/
def execFlushw (_i : Bool) (s : State) : Result :=
  if s.win.cansave.toNat = Config.nRegWindows - 2 then complete s else raise s.spillExc s

/-- Not implemented in hardware: illegal_instruction in every mode (44_window_state.md R735, D26). -/
def execAllclean (s : State) : Result := raise .illegalInstruction s

/-- Not implemented in hardware: illegal_instruction in every mode (44_window_state.md R738, D26). -/
def execOtherw (s : State) : Result := raise .illegalInstruction s

/-- Not implemented in hardware: illegal_instruction in every mode (44_window_state.md R737, D26). -/
def execNormalw (s : State) : Result := raise .illegalInstruction s

/-- Not implemented in hardware: illegal_instruction in every mode (44_window_state.md R736, D26). -/
def execInvalw (s : State) : Result := raise .illegalInstruction s

end Sys2Proof.Machine
end

