-- ==== Sys2Proof/Machine/Step.lean ====
section
/-!
DEFINITION. One step of the machine (60_exceptions.md R1001), and how a word is placed where the next step fetches it.
`step` is `noncomputable` only because the decoder is.
-/

namespace Sys2Proof.Machine

/-- Fetch, decode and execute the instruction at pc (22_mmu.md R1470, 30_encoding.md R330). -/
noncomputable def attemptInstruction (s : State) : Host.Outcome State Fault Refusal :=
  match fetchAddress s with
  | .trap e => .next (raiseFetch s e)
  | .fault f => .fault f
  | .word pa =>
    match decode (fetchWord s.mem pa) with
    | .ok i => exec i s
    | .error e => undecodable s e

/-- One instruction, or the internal_processor_error that comes before what it does. -/
noncomputable def runInstruction (s : State) : Host.Outcome State Fault Refusal :=
  if s.lateIpe then s.settleIpe (attemptInstruction s) else attemptInstruction s

/-- Step() (60_exceptions.md R1001): count, then the highest-priority reset, error or interrupt, else one instruction. -/
noncomputable def step (s : State) : Host.Outcome State Fault Refusal :=
  match beforeFetch s.count with
  | some t => .next t
  | none => runInstruction s.count

/-- `s` with the word `w`, numbered as spec/opcode_table.json numbers it, stored where the next step fetches. -/
def State.withFetchWord (s : State) (_nbits w : Nat) : State := placeWord s (BitVec.ofNat 32 w)

end Sys2Proof.Machine
end

