-- ==== Sys2Proof/Machine/Host.lean ====
section
/-!
DEFINITION. The host operations: what the world outside the processor may do to it between two steps (00_scope.md R13,
22_mmu.md R1452, R1463, 61_interrupts_cmt.md R1156, R1180, 70_reset_and_hazards.md R1250). `step` calls none of them.
-/

namespace Sys2Proof.Machine

/-- The two TLBs (22_mmu.md R1452). -/
inductive WhichTlb where
  | itlb
  | dtlb
  deriving DecidableEq, Repr

/-- The four interrupt queues (61_interrupts_cmt.md R1180). -/
inductive WhichQueue where
  | cpuMondo
  | devMondo
  | resumable
  | nonresumable
  deriving DecidableEq, Repr

/-- Two entries of one partition and one kind of address cover a common address (22_mmu.md R1486). -/
def TlbEntry.overlaps (e f : TlbEntry) : Bool :=
  e.real == f.real && e.pid == f.pid && (e.real || e.ctx == f.ctx) &&
    (match pageBits (TlbEntry.size e), pageBits (TlbEntry.size f) with
      | some m, some n => e.vpn.toNat / 2 ^ max m n == f.vpn.toNat / 2 ^ max m n
      | _, _ => false)

/-- e = cp = cv = 1, whose result is undefined (22_mmu.md R1458). -/
def TlbEntry.attributesUndefined (e : TlbEntry) : Bool := e.sideEffect && e.cacheable && e.data.getLsbD 9

/-- TlbInsert(which, entry): the entry gets the current partition ID; refused if it is not valid, of a reserved page size,
side-effecting and fully cacheable at once, or overlaps an entry (22_mmu.md R1452, R1454, R1458, R1486). -/
def State.tlbInsert (s : State) (w : WhichTlb) (entry : TlbEntry) : Option State :=
  let e := { entry with pid := s.mmu.partitionId }
  let tlb := match w with | .itlb => s.mmu.itlb | .dtlb => s.mmu.dtlb
  if e.valid && (pageBits (TlbEntry.size e)).isSome && !e.attributesUndefined && !tlb.any (fun f => e.overlaps f) then
    match w with
    | .itlb => some { s with mmu := { s.mmu with itlb := e :: s.mmu.itlb } }
    | .dtlb => some { s with mmu := { s.mmu with dtlb := e :: s.mmu.dtlb } }
  else none

/-- TlbDemap(which, predicate): drop the entries the predicate selects (22_mmu.md R1452). -/
def State.tlbDemap (s : State) (w : WhichTlb) (p : TlbEntry → Bool) : State :=
  match w with
  | .itlb => { s with mmu := { s.mmu with itlb := s.mmu.itlb.filter fun e => !p e } }
  | .dtlb => { s with mmu := { s.mmu with dtlb := s.mmu.dtlb.filter fun e => !p e } }

/-- SetMmuEnable(i, d), not possible in RED_state (22_mmu.md R1463, D38). -/
def State.setMmuEnable (s : State) (i d : Bool) : State :=
  if s.hpstate.red then s else { s with mmu := { s.mmu with immuEnable := i, dmmuEnable := d } }

/-- The queues with a new tail (61_interrupts_cmt.md R1180). -/
def Queues.withTail (q : Queues) (which : WhichQueue) (newTail : Word) : Queues :=
  match which with
  | .cpuMondo => { q with cpuMondoTail := newTail }
  | .devMondo => { q with devMondoTail := newTail }
  | .resumable => { q with resumableTail := newTail }
  | .nonresumable => { q with nonresumableTail := newTail }

/-- An interrupt addressed to an interrupt ID: it reaches this strand if STRAND_INTR_ID holds that ID, and is dropped otherwise
(61_interrupts_cmt.md R1206). -/
def State.addressed (s : State) (intId : BitVec 16) (t : State) : State := if intId = s.strandIntrId then t else s

/-- HostSetSoftint(mask): an external interrupt request to the strand of an interrupt ID (61_interrupts_cmt.md R1156, R1206,
D48). -/
def State.hostSetSoftint (s : State) (intId : BitVec 16) (mask : BitVec 17) : State :=
  s.addressed intId { s with softint := s.softint ||| mask }

/-- HostQueueInsert(queue, newTail): an entry placed in an interrupt queue of the strand of an interrupt ID
(61_interrupts_cmt.md R1180, R1206, D54). -/
def State.hostQueueInsert (s : State) (intId : BitVec 16) (q : WhichQueue) (newTail : Word) : State :=
  s.addressed intId { s with queues := s.queues.withTail q newTail }

/-- HostPOR(): a power-on reset, applied at once; whatever was pending is dropped (70_reset_and_hazards.md R1250,
60_exceptions.md R1042). -/
def State.hostPor (s : State) : State := s.powerOnReset

/-- What is pending after more is asked for: each operation marks its request pending, none takes one back
(70_reset_and_hazards.md R1250; that the host cannot withdraw a request is log 3, DESIGN CHOICE). -/
def HostRequests.join (p r : HostRequests) : HostRequests where
  por := p.por || r.por
  wmr := p.wmr || r.wmr
  xir := p.xir || r.xir
  storeError := p.storeError || r.storeError
  internalProcessorError := p.internalProcessorError || r.internalProcessorError
  instructionAccessError := p.instructionAccessError || r.instructionAccessError
  dataAccessError := p.dataAccessError || r.dataAccessError

/-- What reaches the one strand: an XIR only where XIR_STEERING selects it (61_interrupts_cmt.md R1235). -/
def HostRequests.steered (r : HostRequests) (steering : Word) : HostRequests :=
  { r with xir := r.xir && steering.getLsbD 0 }

/-- HostWMR, HostXIR and the injected errors: requests the next step reads, beside those already pending; a POR among them is
applied at once, and the others are ignored (70_reset_and_hazards.md R1250, 62_exception_list.md, D46). What is pending stays
so until a step or a reset takes it: the spec names no way to withdraw it (log 3, DESIGN CHOICE). -/
def State.hostRequest (s : State) (r : HostRequests) : State :=
  if r.por then s.hostPor else { s with requests := s.requests.join (r.steered s.xirSteering) }

/-- The boot image: what external memory holds at power-on, cell by cell (00_scope.md R13, 70_reset_and_hazards.md R1255). A
cell that the platform map does not give to memory is left out (20_memory.md R1302). -/
def Memory.load (image : List Host.Cell) : List Host.Cell :=
  image.foldl (fun m c => if Config.platformMap c.1 = .memory then Memory.write m c.1 c.2 else m) []

/-- The machine after power-on with a boot image in its memory (00_scope.md R13). -/
def State.boot (image : List Host.Cell) : State := { State.reset with mem := Memory.load image }

end Sys2Proof.Machine
end

