-- ==== Sys2Proof/Safety.lean ====
section
/-!
DEFINITION. The words claims are written in: what a good state is, what it is to change one register or some bytes and
nothing else, exact values and condition codes, the condition tables, and which instructions write what. Nothing here is
used by the machine; each definition is written from the spec, not from the meanings.
-/

namespace Sys2Proof.Machine

/-! ## Good states -/

/-- Bits 1:0 of an instruction address are 0 (10_state.md R60). -/
abbrev wordAligned (a : Word) : Prop := a.extractLsb' 0 2 = 0#2

/-- The form of every state: pc, npc and the saved TPC and TNPC are word aligned (10_state.md R60, 11_state_privileged.md
R170, R171) and memory is canonical. -/
structure State.Good (s : State) : Prop where
  pc : wordAligned s.pc
  npc : wordAligned s.npc
  tpc : ∀ n : Fin 6, wordAligned (s.traps.get n).tpc
  tnpc : ∀ n : Fin 6, wordAligned (s.traps.get n).tnpc
  mem : Memory.wf s.mem

/-- CANSAVE + CANRESTORE + OTHERWIN = N_REG_WINDOWS - 2 (11_state_privileged.md R168). -/
abbrev State.windowsConsistent (s : State) : Prop :=
  s.win.cansave.toNat + s.win.canrestore.toNat + s.win.otherwin.toNat = Config.nRegWindows - 2

/-- No two entries of a TLB cover a common address (22_mmu.md R1486). -/
abbrev tlbDisjoint (l : List TlbEntry) : Prop := l.Pairwise fun a b => a.overlaps b = false ∧ b.overlaps a = false

/-! ## One change and nothing else -/

/-- `t` is `s` with R[rd] = v and nothing else changed: no other R register, visible or not, no byte of memory, no other
field. A write of R[0] changes nothing (10_state.md R22). -/
structure WritesR (s t : State) (rd : RegField) (v : Word) : Prop where
  value : t.readR rd = if rd = 0#5 then 0#64 else v
  visible : ∀ r, r ≠ rd → t.readR r = s.readR r
  globals : ∀ i : Fin 28, rd = 0#5 ∨ 8 ≤ rd.toNat ∨ i ≠ globalIndex s.gl rd → t.globals.get i = s.globals.get i
  windows : ∀ i : Fin 128, rd.toNat < 8 ∨ i ≠ (windowIndex s.win.cwp rd).toFin → t.windows.get i = s.windows.get i
  memory : ∀ a, Memory.read t.mem a = Memory.read s.mem a
  rest : t = { s with globals := t.globals, windows := t.windows }

/-- FS[f] is F[f] (10_state.md R70, R71). -/
def singleIndex (f : RegField) : Fin 64 := ⟨f.toNat, by omega⟩

/-- The high word of the double register that field f names: b4 b3 b2 b1 b5, that is F[32 b5 + 2 (f / 2)] (10_state.md R71,
R72). -/
def upperIndex (f : RegField) : Fin 64 := ⟨32 * (f.toNat % 2) + 2 * (f.toNat / 2), by omega⟩

/-- Its low word: the F register after it (10_state.md R71). -/
def lowerIndex (f : RegField) : Fin 64 := ⟨32 * (f.toNat % 2) + 2 * (f.toNat / 2) + 1, by omega⟩

/-- `t` is `s` with FS[f] = v, FPRS.dl set, and nothing else changed (10_state.md R70, R108). -/
structure WritesFS (s t : State) (f : RegField) (v : HWord) : Prop where
  value : t.readFS f = v
  others : ∀ i : Fin 64, i ≠ singleIndex f → t.fregs.get i = s.fregs.get i
  memory : ∀ a, Memory.read t.mem a = Memory.read s.mem a
  rest : t = { s with fregs := t.fregs, fprs := { s.fprs with dl := true } }

/-- `t` is `s` with FD[f] = v, the dirty bit of its half set (f odd names a register of the upper half), and nothing else
changed (10_state.md R71, R72, R108). -/
structure WritesFD (s t : State) (f : RegField) (v : Word) : Prop where
  value : t.readFD f = v
  others : ∀ i : Fin 64, i ≠ upperIndex f → i ≠ lowerIndex f → t.fregs.get i = s.fregs.get i
  memory : ∀ a, Memory.read t.mem a = Memory.read s.mem a
  rest :
    t = { s with
      fregs := t.fregs
      fprs := if f.toNat % 2 = 1 then { s.fprs with du := true } else { s.fprs with dl := true } }

/-- `t` is `s` with the bytes `bs` stored from `pa` upward and nothing else changed. -/
structure StoresBytes (s t : State) (pa : Nat) (bs : List Byte) : Prop where
  stored : ∀ i (h : i < bs.length), Memory.read t.mem (pa + i) = bs[i]
  others : ∀ a, a < pa ∨ pa + bs.length ≤ a → Memory.read t.mem a = Memory.read s.mem a
  rest : t = { s with mem := t.mem }

/-! ## Exact values -/

/-- The weight of byte i of n: the lowest address is the most significant byte, or the least significant when
little-endian (20_memory.md R1303, R1304). -/
def byteWeight (n : Nat) (little : Bool) (i : Nat) : Nat := 256 ^ (if little then i else n - 1 - i)

/-- The n bytes of a value as memory holds them, lowest address first. -/
def bytesOf (v : Nat) (n : Nat) (little : Bool) : List Byte :=
  (List.range n).map fun i => BitVec.ofNat 8 (v / byteWeight n little i)

/-- The value of the n bytes at `a`. -/
def valueAt (m : List Host.Cell) (a n : Nat) (little : Bool) : Nat :=
  ((List.range n).map fun i => (Memory.read m (a + i)).toNat * byteWeight n little i).sum

/-- `t` is `s` with the eight doublewords from `pa` upward in FD[rd], FD[rd + 2] to FD[rd + 14] of the register numbers, the
dirty bit of their half set, and nothing else changed (43_fp_loadstore.md R690, R691, 10_state.md R72, R108). -/
structure LoadsBlock (s t : State) (rd : RegField) (pa : Nat) (little : Bool) : Prop where
  values : ∀ k : Fin 8,
    t.readFD (rd + BitVec.ofNat 5 (2 * k.val)) = BitVec.ofNat 64 (valueAt s.mem (pa + 8 * k.val) 8 little)
  others : ∀ i : Fin 64, i.val / 16 ≠ 2 * (rd.toNat % 2) + rd.toNat / 16 → t.fregs.get i = s.fregs.get i
  memory : ∀ a, Memory.read t.mem a = Memory.read s.mem a
  rest :
    t = { s with
      fregs := t.fregs
      fprs := if rd.toNat % 2 = 1 then { s.fprs with du := true } else { s.fprs with dl := true } }

/-- The 64 bytes that STBLOCKF stores from the same eight registers (43_fp_loadstore.md R690, R692). -/
def blockBytes (s : State) (rd : RegField) (little : Bool) : List Byte :=
  (List.range 8).flatMap fun k => bytesOf (s.readFD (rd + BitVec.ofNat 5 (2 * k))).toNat 8 little

/-- A value of n bytes read as a two's-complement number. -/
def signedOf (n v : Nat) : Int := if v < 2 ^ (8 * n - 1) then v else (v : Int) - 2 ^ (8 * n)

/-- The condition codes of an exact result: n and z of the w-bit result, v when the exact signed result does not fit w
bits, c as given (40_integer.md R400, R401). -/
def exactCodes {w : Nat} (r : BitVec w) (signed : Int) (carry : Bool) : BitVec 4 :=
  nzvc (decide (r.toInt < 0)) (decide (r.toInt = 0)) (decide (signed < -(2 ^ (w - 1)) ∨ 2 ^ (w - 1) ≤ signed)) carry

/-- CCR after an addition with carry in: both widths computed exactly (40_integer.md R400). -/
def exactAddCC (a b : Word) (c : Nat) (r : Word) : BitVec 8 :=
  exactCodes r (a.toInt + b.toInt + c) (decide (2 ^ 64 ≤ a.toNat + b.toNat + c)) ++
    exactCodes (r.setWidth 32) ((a.setWidth 32).toInt + (b.setWidth 32).toInt + c)
      (decide (2 ^ 32 ≤ (a.setWidth 32).toNat + (b.setWidth 32).toNat + c))

/-- CCR after a subtraction with borrow in: both widths computed exactly (40_integer.md R401). -/
def exactSubCC (a b : Word) (c : Nat) (r : Word) : BitVec 8 :=
  exactCodes r (a.toInt - b.toInt - c) (decide (a.toNat < b.toNat + c)) ++
    exactCodes (r.setWidth 32) ((a.setWidth 32).toInt - (b.setWidth 32).toInt - c)
      (decide ((a.setWidth 32).toNat < (b.setWidth 32).toNat + c))

/-- CCR after a logical instruction or a multiply: n and z of both widths, v and c clear (40_integer.md R402). -/
def exactLogicCC (r : Word) : BitVec 8 := exactCodes r 0 false ++ exactCodes (r.setWidth 32) 0 false

/-- The carry or borrow in: icc.c (10_state.md R102). -/
def carryIn (s : State) : Nat := (s.ccr.getLsbD 0).toNat

/-- A tagged operation overflows: a nonzero tag in bits 1:0 of an operand, or an exact signed 32-bit result that does not
fit (40_integer.md R474, R475). -/
def tagOverflows (a b : Word) (signed : Int) : Bool :=
  decide (a.toNat % 4 ≠ 0 ∨ b.toNat % 4 ≠ 0 ∨ signed < -(2 ^ 31) ∨ 2 ^ 31 ≤ signed)

/-! ## Conditions (41_control.md R501 to R503) -/

/-- One integer condition: its code, its four instructions, and its test of n, z, v, c (TABLE of 41_control.md R501). -/
structure IccRow where
  cond : BitVec 4
  branch : Bool → BitVec 22 → Instr
  predicted : Bool → IntCC → Bool → BitVec 19 → Instr
  move : RegField → IntCC → Op2x11 → Instr
  trap : IntCC → RegField → Op2x8 → Instr
  test : Bool → Bool → Bool → Bool → Bool

/-- The sixteen integer conditions. -/
noncomputable def integerConditions : List IccRow :=
  [⟨8#4, .ba, .bpa, .mova, .ta, fun _ _ _ _ => true⟩, ⟨0#4, .bn, .bpn, .movn, .tn, fun _ _ _ _ => false⟩,
    ⟨9#4, .bne, .bpne, .movne, .tne, fun _ z _ _ => !z⟩, ⟨1#4, .be, .bpe, .move, .te, fun _ z _ _ => z⟩,
    ⟨10#4, .bg, .bpg, .movg, .tg, fun n z v _ => !(z || n != v)⟩,
    ⟨2#4, .ble, .bple, .movle, .tle, fun n z v _ => z || n != v⟩,
    ⟨11#4, .bge, .bpge, .movge, .tge, fun n _ v _ => n == v⟩, ⟨3#4, .bl, .bpl, .movl, .tl, fun n _ v _ => n != v⟩,
    ⟨12#4, .bgu, .bpgu, .movgu, .tgu, fun _ z _ c => !(c || z)⟩,
    ⟨4#4, .bleu, .bpleu, .movleu, .tleu, fun _ z _ c => c || z⟩,
    ⟨13#4, .bcc, .bpcc, .movcc, .tcc, fun _ _ _ c => !c⟩, ⟨5#4, .bcs, .bpcs, .movcs, .tcs, fun _ _ _ c => c⟩,
    ⟨14#4, .bpos, .bppos, .movpos, .tpos, fun n _ _ _ => !n⟩, ⟨6#4, .bneg, .bpneg, .movneg, .tneg, fun n _ _ _ => n⟩,
    ⟨15#4, .bvc, .bpvc, .movvc, .tvc, fun _ _ v _ => !v⟩, ⟨7#4, .bvs, .bpvs, .movvs, .tvs, fun _ _ v _ => v⟩]

/-- Does the row's condition hold of icc (bits 3:0 of CCR) or xcc (bits 7:4)? -/
def IccRow.holds (r : IccRow) (s : State) (cc : IntCC) : Bool :=
  let k := match cc with | .icc => 0 | .xcc => 4
  r.test (s.ccr.getLsbD (k + 3)) (s.ccr.getLsbD (k + 2)) (s.ccr.getLsbD (k + 1)) (s.ccr.getLsbD k)

/-- One floating-point condition: its code, its three instructions, and the fcc values it accepts, 0 equal, 1 less, 2
greater, 3 unordered (TABLE of 41_control.md R502). -/
structure FccRow where
  cond : BitVec 4
  branch : Bool → BitVec 22 → Instr
  predicted : Bool → FccSel → Bool → BitVec 19 → Instr
  move : RegField → FccSel → Op2x11 → Instr
  accepts : List (BitVec 2)

/-- The sixteen floating-point conditions. -/
def fpConditions : List FccRow :=
  [⟨8#4, .fba, .fbpa, .movfa, [0#2, 1#2, 2#2, 3#2]⟩, ⟨0#4, .fbn, .fbpn, .movfn, []⟩,
    ⟨7#4, .fbu, .fbpu, .movfu, [3#2]⟩, ⟨6#4, .fbg, .fbpg, .movfg, [2#2]⟩, ⟨5#4, .fbug, .fbpug, .movfug, [2#2, 3#2]⟩,
    ⟨4#4, .fbl, .fbpl, .movfl, [1#2]⟩, ⟨3#4, .fbul, .fbpul, .movful, [1#2, 3#2]⟩,
    ⟨2#4, .fblg, .fbplg, .movflg, [1#2, 2#2]⟩, ⟨1#4, .fbne, .fbpne, .movfne, [1#2, 2#2, 3#2]⟩,
    ⟨9#4, .fbe, .fbpe, .movfe, [0#2]⟩, ⟨10#4, .fbue, .fbpue, .movfue, [0#2, 3#2]⟩,
    ⟨11#4, .fbge, .fbpge, .movfge, [0#2, 2#2]⟩, ⟨12#4, .fbuge, .fbpuge, .movfuge, [0#2, 2#2, 3#2]⟩,
    ⟨13#4, .fble, .fbple, .movfle, [0#2, 1#2]⟩, ⟨14#4, .fbule, .fbpule, .movfule, [0#2, 1#2, 3#2]⟩,
    ⟨15#4, .fbo, .fbpo, .movfo, [0#2, 1#2, 2#2]⟩]

/-- FSR.fcc<n>. -/
def fccValue (s : State) : FccSel → BitVec 2
  | 0#2 => s.fsr.fcc0
  | 1#2 => s.fsr.fcc1
  | 2#2 => s.fsr.fcc2
  | _ => s.fsr.fcc3

/-- One register condition: its four instructions that complete, and its test of the register as a signed number (TABLE of
41_control.md R503). -/
structure RegRow where
  branch : Bool → Bool → RegField → BitVec 16 → Instr
  move : RegField → RegField → Op2x10 → Instr
  moveSingle : RegField → RegField → RegField → Instr
  moveDouble : RegField → RegField → RegField → Instr
  test : Int → Bool

/-- The six register conditions. -/
noncomputable def registerConditions : List RegRow :=
  [⟨.brz, .movrz, .fmovrsz, .fmovrdz, fun v => decide (v = 0)⟩,
    ⟨.brlez, .movrlez, .fmovrslez, .fmovrdlez, fun v => decide (v ≤ 0)⟩,
    ⟨.brlz, .movrlz, .fmovrslz, .fmovrdlz, fun v => decide (v < 0)⟩,
    ⟨.brnz, .movrnz, .fmovrsnz, .fmovrdnz, fun v => decide (v ≠ 0)⟩,
    ⟨.brgz, .movrgz, .fmovrsgz, .fmovrdgz, fun v => decide (0 < v)⟩,
    ⟨.brgez, .movrgez, .fmovrsgez, .fmovrdgez, fun v => decide (0 ≤ v)⟩]

/-- A branch target: the displacement counts words from this instruction, modulo 2^64 (41_control.md R504). -/
def targetOf (s : State) (disp : Int) : Word := BitVec.ofInt 64 (s.pc.toNat + 4 * disp)

/-- What a conditional branch leaves: taken, or not taken with or without its delay instruction annulled (41_control.md
R500). -/
def branchOutcome (s : State) (taken annul : Bool) (ea : Word) : State :=
  if taken then { s with pc := s.npc, npc := ea }
  else if annul then { s with pc := s.npc + 4#64, npc := s.npc + 8#64 }
  else { s with pc := s.npc, npc := s.npc + 4#64 }

/-! ## Traps (60_exceptions.md R1005) -/

/-- One exception: its trap type, and whether it goes to privileged mode when it is detected below hyperprivileged mode (P
in the columns NP and Priv). -/
structure TrapRow where
  exc : Exc
  number : Nat
  privileged : Bool

/-- The rows of 60_exceptions.md R1005 that the machine raises, window traps and numbered ones spelled out. -/
def trapTable : List TrapRow :=
  [⟨.storeError, 0x007, false⟩, ⟨.internalProcessorError, 0x029, false⟩, ⟨.trapLevelZero, 0x05F, false⟩,
    ⟨.instructionRealTranslationMiss, 0x03E, false⟩, ⟨.fastInstructionAccessMMUMiss, 0x064, false⟩,
    ⟨.instructionAccessException, 0x008, false⟩, ⟨.instructionAccessError, 0x00A, false⟩,
    ⟨.instructionBreakpoint, 0x076, false⟩, ⟨.illegalInstruction, 0x010, false⟩, ⟨.privilegedOpcode, 0x011, true⟩,
    ⟨.fpDisabled, 0x020, true⟩, ⟨.cleanWindow, 0x024, true⟩, ⟨.lddfMemAddressNotAligned, 0x035, false⟩,
    ⟨.stdfMemAddressNotAligned, 0x036, false⟩, ⟨.memAddressNotAligned, 0x034, false⟩, ⟨.fpExceptionOther, 0x022, true⟩,
    ⟨.fpExceptionIeee754, 0x021, true⟩, ⟨.privilegedAction, 0x037, false⟩, ⟨.vaWatchpoint, 0x062, true⟩,
    ⟨.dataAccessException, 0x030, false⟩, ⟨.dataRealTranslationMiss, 0x03F, false⟩,
    ⟨.fastDataAccessMMUMiss, 0x068, false⟩, ⟨.fastDataAccessProtection, 0x06C, false⟩, ⟨.paWatchpoint, 0x061, false⟩,
    ⟨.dataAccessError, 0x032, false⟩, ⟨.tagOverflow, 0x023, true⟩, ⟨.divisionByZero, 0x028, true⟩,
    ⟨.hstickMatch, 0x05E, false⟩, ⟨.cpuMondo, 0x07C, true⟩, ⟨.devMondo, 0x07D, true⟩, ⟨.resumableError, 0x07E, true⟩] ++
  ((List.range 8).flatMap fun n =>
    [⟨.spill false (BitVec.ofNat 3 n), 0x080 + 4 * n, true⟩, ⟨.spill true (BitVec.ofNat 3 n), 0x0A0 + 4 * n, true⟩,
      ⟨.fill false (BitVec.ofNat 3 n), 0x0C0 + 4 * n, true⟩, ⟨.fill true (BitVec.ofNat 3 n), 0x0E0 + 4 * n, true⟩]) ++
  ((List.range 15).map fun n => ⟨.interruptLevel (BitVec.ofNat 4 (n + 1)), 0x040 + (n + 1), true⟩) ++
  ((List.range 128).map fun n => ⟨.trapInstruction (BitVec.ofNat 8 n), 0x100 + n, true⟩) ++
  (List.range 128).map fun n => ⟨.htrapInstruction (BitVec.ofNat 8 (128 + n)), 0x180 + n, false⟩

/-- `t` is `s` after the trap `e`, but for what the MMU records, the host's request it used up and the free values it
drew. -/
abbrev Takes (s t : State) (e : Exc) : Prop :=
  t = { takeTrap e s with mmu := t.mmu, requests := t.requests, freeCount := t.freeCount }

/-- The software interrupt levels pending: SOFTINT bit n, and TM and SM for level 14 (61_interrupts_cmt.md R1155). -/
abbrev levelPending (softint : BitVec 17) (n : Nat) : Prop :=
  softint.getLsbD n = true ∨ n = 14 ∧ (softint.getLsbD 0 = true ∨ softint.getLsbD 16 = true)

/-! ## Address spaces (21_asi.md R1400 to R1417, TABLE 10-1) -/

/-- A translating ASI: the address it presents, the instruction classes that may use it, its byte order; the AS_IF_USER
ASIs (R1410, R1412), those of them to which TTE.ie does not apply in hyperprivileged mode (R1402), the nonfaulting ones, and
the twin ASIs that are physical in hyperprivileged mode. -/
structure AsiRow where
  asi : BitVec 8
  kind : AddrKind
  classes : List InstrClass := [.load, .loadX, .loadD, .store, .storeX, .storeD, .atomic]
  little : Bool := false
  asUser : Bool := false
  fixedOrder : Bool := false
  noFault : Bool := false
  physical : Bool := false

/-- Every translating ASI: each base form and, 8 above it, its _LITTLE form. -/
def asiRows : List AsiRow :=
  ([{ asi := 0x04, kind := .virtualIn .nucleus },
    { asi := 0x10, kind := .virtualIn .primary, asUser := true, fixedOrder := true },
    { asi := 0x11, kind := .virtualIn .secondary, asUser := true, fixedOrder := true },
    { asi := 0x14, kind := .real },
    { asi := 0x15, kind := .real, classes := [.load, .loadX, .loadD, .store, .storeX, .storeD] },
    { asi := 0x16, kind := .virtualIn .primary, asUser := true, fixedOrder := true, classes := [.loadBlock, .storeBlock] },
    { asi := 0x17, kind := .virtualIn .secondary, asUser := true, fixedOrder := true, classes := [.loadBlock, .storeBlock] },
    { asi := 0x22, kind := .virtualIn .primary, asUser := true, classes := [.loadTwinX] },
    { asi := 0x23, kind := .virtualIn .secondary, asUser := true, classes := [.loadTwinX] },
    { asi := 0x26, kind := .real, classes := [.loadTwinX] },
    { asi := 0x27, kind := .virtualIn .nucleus, classes := [.loadTwinX], physical := true },
    { asi := 0x30, kind := .virtualIn .primary },
    { asi := 0x31, kind := .virtualIn .secondary },
    { asi := 0x36, kind := .virtualIn .nucleus },
    { asi := 0x80, kind := .virtualIn .primary },
    { asi := 0x81, kind := .virtualIn .secondary },
    { asi := 0x82, kind := .virtualIn .primary, noFault := true, classes := [.load, .loadX, .loadD] },
    { asi := 0x83, kind := .virtualIn .secondary, noFault := true, classes := [.load, .loadX, .loadD] },
    { asi := 0xE2, kind := .virtualIn .primary, classes := [.loadTwinX], physical := true },
    { asi := 0xE3, kind := .virtualIn .secondary, classes := [.loadTwinX], physical := true },
    { asi := 0xF0, kind := .virtualIn .primary, classes := [.loadBlock, .storeBlock] },
    { asi := 0xF1, kind := .virtualIn .secondary, classes := [.loadBlock, .storeBlock] }] : List AsiRow).flatMap
    fun r => [r, { r with asi := r.asi + 8#8, little := true }]

/-- The ASIs that reach registers. -/
def registerAsis : List (BitVec 8) := [0x20, 0x21, 0x25, 0x41, 0x4F, 0x50, 0x58, 0x63]

/-- The access sizes, in bytes, of each instruction class. -/
def accessSizes : InstrClass → List Nat
  | .load | .store => [1, 2, 4, 8]
  | .loadX | .storeX | .loadD | .storeD => [8]
  | .loadTwinX => [16]
  | .loadBlock | .storeBlock => [64]
  | .atomic => [1, 4, 8]

/-- The modes that may use an ASI: 0x00 to 0x2F not nonprivileged, 0x30 to 0x7F hyperprivileged only (20_memory.md R1308). -/
abbrev asiPermitted (m : Mode) (asi : BitVec 8) : Prop :=
  0x80 ≤ asi.toNat ∨ m = .hyperprivileged ∨ m = .privileged ∧ asi.toNat < 0x30

/-- TTE.sz and the log2 of the page's size (22_mmu.md R1454). -/
def pageSizes : List (BitVec 4 × Nat) := [(0b0000, 13), (0b0001, 16), (0b0011, 22), (0b0101, 28)]

/-- The physical address of `a` in the 2^n-byte page of a TTE: target address bits 55:n, then the offset (22_mmu.md R1455). -/
def pageAddress (data a : Word) (n : Nat) : Nat := data.toNat / 2 ^ n % 2 ^ (56 - n) * 2 ^ n + a.toNat % 2 ^ n

/-- The ID of a context: the context registers, 0 for the nucleus (22_mmu.md R1452). -/
def contextOf (m : MmuState) : Context → BitVec 16
  | .primary => m.primaryContext
  | .secondary => m.secondaryContext
  | .nucleus => 0#16

/-- A TLB entry matches an address: it is valid, of the current partition, real for a real address and of the context for a
virtual one, and its page, of the size it names, holds the address (22_mmu.md R1452, R1454, R1455). -/
def entryMatches (m : MmuState) (k : AddrKind) (a : Word) (e : TlbEntry) : Prop :=
  e.data.getLsbD 63 = true ∧ e.pid = m.partitionId ∧
  (match k with
    | .real => e.real = true
    | .virtualIn c => e.real = false ∧ e.ctx = contextOf m c
    | .physical | .register => False) ∧
  ∃ p ∈ pageSizes, e.data.extractLsb' 0 4 = p.1 ∧ a.toNat / 2 ^ p.2 = e.vpn.toNat / 2 ^ p.2

/-- The exceptions whose trap writes D-SFAR (22_mmu.md R1480, D37). -/
def dsfarExceptions : List Exc :=
  [.fastDataAccessMMUMiss, .dataRealTranslationMiss, .dataAccessException, .fastDataAccessProtection, .privilegedAction,
    .paWatchpoint, .vaWatchpoint, .memAddressNotAligned, .lddfMemAddressNotAligned, .stdfMemAddressNotAligned]

/-- Those among them whose trap writes the D/UMMU tag access register too (22_mmu.md R1480, D37). -/
def dtagExceptions : List Exc :=
  [.fastDataAccessMMUMiss, .dataRealTranslationMiss, .dataAccessException, .fastDataAccessProtection]

/-- What the page of a TLB entry makes of an access: the exceptions of the TTE's bits in their order, else the physical address
in the page of 2^n bytes, in the byte order given, inverted by TTE.ie (22_mmu.md R1450, R1455 to R1461). -/
def pageOutcome (data : Word) (cls : InstrClass) (user noFault little fixedOrder : Bool) (a : Word) (n : Nat) :
    AccessResult :=
  if data.getLsbD 8 ∧ user then .trap .dataAccessException
  else if data.getLsbD 62 ∧ !noFault then .trap .dataAccessException
  else if data.getLsbD 11 ∧ noFault then .trap .dataAccessException
  else if !data.getLsbD 10 ∧ cls ∈ [.atomic, .loadTwinX] then .trap .dataAccessException
  else if !data.getLsbD 6 ∧ cls ∈ [.store, .storeX, .storeD, .storeBlock, .atomic] then .trap .fastDataAccessProtection
  else .memory (pageAddress data a n) (little != (data.getLsbD 12 && !fixedOrder))

/-- A register behind a non-translating ASI: what LDXA reads, none if it may not, and what STXA of a word leaves, none if it
may not. -/
structure AsiRegister where
  asi : BitVec 8
  va : Nat
  read : State → Option Word
  write : State → Word → Option State

/-- The registers behind the non-translating ASIs (21_asi.md R1420, R1421; 22_mmu.md R1481 to R1484; 61_interrupts_cmt.md
R1180, R1201, R1206, R1240). The tail pointers of the queues are written in hyperprivileged mode only. -/
def asiRegisters : List AsiRegister :=
  let queue := fun (va : Nat) (get : Queues → Word) (set : Queues → Word → Queues) (tail : Bool) =>
    (⟨0x25, va, fun s => some (get s.queues), fun s v =>
      if tail ∧ s.hpstate.hpriv = false then none else some { s with queues := set s.queues v }⟩ : AsiRegister)
  let mmu := fun (asi : BitVec 8) (va : Nat) (get : MmuState → Word) (set : MmuState → Word → MmuState) =>
    (⟨asi, va, fun s => some (get s.mmu), fun s v => some { s with mmu := set s.mmu v }⟩ : AsiRegister)
  let shared := fun (va : Nat) (readable ignored : Bool) =>
    (⟨0x41, va, fun _ => if readable then some 1#64 else none, fun s _ => if ignored then some s else none⟩ : AsiRegister)
  ((List.finRange 8).flatMap fun k : Fin 8 =>
    [⟨0x20, 8 * k.val, fun s => some (s.scratchpad.get k), fun s v =>
        some { s with scratchpad := s.scratchpad.set k.val v k.isLt }⟩,
      ⟨0x4F, 8 * k.val, fun s => some (s.hyperScratchpad.get k), fun s v =>
        some { s with hyperScratchpad := s.hyperScratchpad.set k.val v k.isLt }⟩]) ++
  [mmu 0x21 0x08 (fun m => m.primaryContext.setWidth 64) fun m v => { m with primaryContext := v.setWidth 16 },
    mmu 0x21 0x10 (fun m => m.secondaryContext.setWidth 64) fun m v => { m with secondaryContext := v.setWidth 16 },
    queue 0x3C0 Queues.cpuMondoHead (fun q v => { q with cpuMondoHead := v }) false,
    queue 0x3C8 Queues.cpuMondoTail (fun q v => { q with cpuMondoTail := v }) true,
    queue 0x3D0 Queues.devMondoHead (fun q v => { q with devMondoHead := v }) false,
    queue 0x3D8 Queues.devMondoTail (fun q v => { q with devMondoTail := v }) true,
    queue 0x3E0 Queues.resumableHead (fun q v => { q with resumableHead := v }) false,
    queue 0x3E8 Queues.resumableTail (fun q v => { q with resumableTail := v }) true,
    queue 0x3F0 Queues.nonresumableHead (fun q v => { q with nonresumableHead := v }) false,
    queue 0x3F8 Queues.nonresumableTail (fun q v => { q with nonresumableTail := v }) true,
    shared 0x00 true false, shared 0x10 true false, shared 0x20 true true, shared 0x30 true true, shared 0x50 true true,
    shared 0x58 true false, shared 0x60 false true, shared 0x68 false true,
    mmu 0x50 0x18 MmuState.isfsr fun m v => { m with isfsr := v },
    mmu 0x50 0x30 MmuState.itagAccess fun m v => { m with itagAccess := v },
    mmu 0x58 0x18 MmuState.dsfsr fun m v => { m with dsfsr := v },
    ⟨0x58, 0x20, fun s => some s.mmu.dsfar, fun _ _ => none⟩,
    mmu 0x58 0x30 MmuState.dtagAccess fun m v => { m with dtagAccess := v },
    mmu 0x58 0x80 (fun m => m.partitionId.setWidth 64) fun m v => { m with partitionId := v.setWidth 8 },
    ⟨0x63, 0x00, fun s => some (s.strandIntrId.setWidth 64), fun s v => some { s with strandIntrId := v.setWidth 16 }⟩,
    ⟨0x63, 0x10, fun _ => some 0#64, fun _ _ => none⟩]

/-! ## Floating-point conditions -/

/-- FSR with fcc<n> replaced. -/
def withFcc (f : Fsr) (n : FccSel) (v : BitVec 2) : Fsr :=
  match n with
  | 0#2 => { f with fcc0 := v }
  | 1#2 => { f with fcc1 := v }
  | 2#2 => { f with fcc2 := v }
  | _ => { f with fcc3 := v }

/-- The conditions an operation detects, nv of uf dz nx from bit 4 to bit 0: uf when tiny and inexact, or tiny with its trap
enabled (45_fp.md R806). -/
def detected (tem : BitVec 5) (c : Float.Computed) : BitVec 5 :=
  BitVec.ofBool c.nv ++ BitVec.ofBool c.ovf ++ BitVec.ofBool (c.tiny && (tem.getLsbD 2 || c.nx)) ++ BitVec.ofBool c.dz ++
    BitVec.ofBool c.nx

/-- The most significant bit that is set, alone. -/
def leading (b : BitVec 5) : BitVec 5 :=
  if b.getLsbD 4 then 0b10000#5 else if b.getLsbD 3 then 0b01000#5 else if b.getLsbD 2 then 0b00100#5
  else if b.getLsbD 1 then 0b00010#5 else b

end Sys2Proof.Machine

namespace Sys2Proof.Float

/-! ## Exact values of floating-point patterns -/

/-- The sign bit of a pattern. -/
def Format.negative (f : Format) (x : Nat) : Bool := decide (x / f.signBit % 2 = 1)

/-- The number a finite pattern stands for: (-1)^s · 1.fraction · 2^(e - bias), or (-1)^s · 0.fraction · 2^(1 - bias) when
e = 0; none for an infinity or a NaN (10_state.md R75). -/
def Format.number (f : Format) (x : Nat) : Option ℚ :=
  let e := x / 2 ^ f.fracBits % 2 ^ f.expBits
  let fraction : ℚ := ((x % 2 ^ f.fracBits : Nat) : ℚ) / 2 ^ f.fracBits
  let sign : ℚ := if f.negative x then -1 else 1
  if e = 2 ^ f.expBits - 1 then none
  else if e = 0 then some (sign * fraction * 2 ^ (1 - f.bias))
  else some (sign * (1 + fraction) * 2 ^ ((e : Int) - f.bias))

/-- A NaN: exponent all ones, fraction nonzero. -/
def Format.isNaN (f : Format) (x : Nat) : Bool := decide (f.infMag < x % f.signBit)

/-- A signalling NaN: a NaN whose most significant fraction bit is 0 (45_fp.md R808). -/
def Format.isSNaN (f : Format) (x : Nat) : Bool := f.isNaN x && decide (x / f.quietBit % 2 = 0)

/-- An infinity. -/
def Format.isInf (f : Format) (x : Nat) : Bool := decide (x % f.signBit = f.infMag)

/-- The number of a pattern that is no NaN, an infinity standing beyond all finite numbers. -/
def Format.extended (f : Format) (x : Nat) : ℚ :=
  (f.number x).getD (if f.negative x then -(2 ^ (f.bias + 1)) else 2 ^ (f.bias + 1))

/-- The largest finite number. -/
def Format.largest (f : Format) : ℚ := (2 - 1 / 2 ^ f.fracBits) * 2 ^ f.bias

/-- Overflow: with an unbounded exponent, x would round to a number beyond the largest (45_fp.md R807). -/
def Format.overflows (f : Format) (mode : RoundMode) (x : ℚ) : Prop :=
  match mode with
  | .nearestEven => f.largest + 2 ^ (f.bias - f.fracBits - 1) ≤ |x|
  | .towardZero => 2 ^ (f.bias + 1) ≤ |x|
  | .towardPosInf => f.largest < x ∨ x ≤ -(2 ^ (f.bias + 1))
  | .towardNegInf => 2 ^ (f.bias + 1) ≤ x ∨ x < -f.largest

/-- r is a closest admissible number to x in a rounding direction; `even` says that the pattern of r ends in 0. -/
def Format.closest (f : Format) (mode : RoundMode) (x r : ℚ) (even : Prop) : Prop :=
  ∀ (p : Nat) (q : ℚ), f.number p = some q →
    match mode with
    | .nearestEven => |r - x| ≤ |q - x| ∧ (q ≠ r → |q - x| = |r - x| → even)
    | .towardZero => |r| ≤ |x| ∧ (|q| ≤ |x| → |q| ≤ |r|)
    | .towardPosInf => x ≤ r ∧ (x ≤ q → r ≤ q)
    | .towardNegInf => r ≤ x ∧ (q ≤ x → q ≤ r)

/-- `c` is the exact nonzero number x rounded once, with the conditions of 45_fp.md R806 and R807: tininess before
rounding, inexactness against x, and on overflow the infinity or the largest number as the direction says. -/
structure Rounds (f : Format) (mode : RoundMode) (x : ℚ) (c : Computed) : Prop where
  pattern : c.bits < 2 * f.signBit
  sign : f.negative c.bits = decide (x < 0)
  valid : c.nv = false ∧ c.dz = false
  tiny : c.tiny = true ↔ |x| < 2 ^ (1 - f.bias)
  overflow : c.ovf = true ↔ f.overflows mode x
  overflowed : c.ovf = true → c.nx = true ∧
    c.bits % f.signBit =
      match mode with
      | .nearestEven => f.infMag
      | .towardZero => f.infMag - 1
      | .towardPosInf => if 0 < x then f.infMag else f.infMag - 1
      | .towardNegInf => if x < 0 then f.infMag else f.infMag - 1
  finite : c.ovf = false →
    ∃ r, f.number c.bits = some r ∧ (c.nx = true ↔ r ≠ x) ∧ f.closest mode x r (c.bits % 2 = 0)

end Sys2Proof.Float

namespace Sys2Proof

open Machine

/-! ## Which instructions write what -/

/-- The access of an instruction that stores to memory, none for every other. -/
def Instr.storeAccess (s : State) : Instr → Option Access
  | .stb _ rs1 o => some (plainAccess s .store rs1 o 1)
  | .sth _ rs1 o => some (plainAccess s .store rs1 o 2)
  | .stw _ rs1 o | .stf _ rs1 o | .stfsr rs1 o => some (plainAccess s .store rs1 o 4)
  | .stx _ rs1 o | .sttw _ rs1 o | .stxfsr rs1 o => some (plainAccess s .store rs1 o 8)
  | .stdf _ rs1 o => some (plainAccess s .storeD rs1 o 8)
  | .stba _ rs1 o => some (altAccess s .store rs1 o 1)
  | .stha _ rs1 o => some (altAccess s .store rs1 o 2)
  | .stwa _ rs1 o | .stfa _ rs1 o => some (altAccess s .store rs1 o 4)
  | .sttwa _ rs1 o => some (altAccess s .store rs1 o 8)
  | .stxa _ rs1 o => some (altAccess s .storeX rs1 o 8)
  | .stdfa _ rs1 o =>
    some (if isBlockAsi (asiOf s o) then altAccess s .storeBlock rs1 o 64 else altAccess s .storeD rs1 o 8)
  | .stblockf _ rs1 asi rs2 => some (altAccess s .storeBlock rs1 (.reg asi rs2) 64)
  | .stshortf _ rs1 asi rs2 => some (altAccess s .storeD rs1 (.reg asi rs2) 8)
  | .stpartialf _ rs1 asi _ => some { cls := .storeD, asi := some asi, addr := s.readR rs1, size := 8 }
  | .ldstub _ rs1 o => some (plainAccess s .atomic rs1 o 1)
  | .swap _ rs1 o => some (plainAccess s .atomic rs1 o 4)
  | .ldstuba _ rs1 o => some (altAccess s .atomic rs1 o 1)
  | .swapa _ rs1 o => some (altAccess s .atomic rs1 o 4)
  | .casa _ rs1 asi _ => some (casAccess s rs1 asi 4)
  | .casxa _ rs1 asi _ => some (casAccess s rs1 asi 8)
  | _ => none

/-- The access of an instruction that loads from memory and stores nothing, none for every other. -/
def Instr.loadAccess (s : State) : Instr → Option Access
  | .ldub _ rs1 o | .ldsb _ rs1 o => some (plainAccess s .load rs1 o 1)
  | .lduh _ rs1 o | .ldsh _ rs1 o => some (plainAccess s .load rs1 o 2)
  | .lduw _ rs1 o | .ldsw _ rs1 o | .ldf _ rs1 o | .ldfsr rs1 o => some (plainAccess s .load rs1 o 4)
  | .ldx _ rs1 o | .ldtw _ rs1 o | .ldxfsr rs1 o => some (plainAccess s .load rs1 o 8)
  | .lddf _ rs1 o => some (plainAccess s .loadD rs1 o 8)
  | .lduba _ rs1 o | .ldsba _ rs1 o => some (altAccess s .load rs1 o 1)
  | .lduha _ rs1 o | .ldsha _ rs1 o => some (altAccess s .load rs1 o 2)
  | .lduwa _ rs1 o | .ldswa _ rs1 o | .ldfa _ rs1 o => some (altAccess s .load rs1 o 4)
  | .ldxa _ rs1 o => some (altAccess s .loadX rs1 o 8)
  | .ldtwa _ rs1 o =>
    some (if isTwinAsi (asiOf s o) then altAccess s .loadTwinX rs1 o 16 else altAccess s .load rs1 o 8)
  | .ldtxa _ rs1 asi rs2 => some (altAccess s .loadTwinX rs1 (.reg asi rs2) 16)
  | .lddfa _ rs1 o =>
    some (if isBlockAsi (asiOf s o) then altAccess s .loadBlock rs1 o 64 else altAccess s .loadD rs1 o 8)
  | .ldblockf _ rs1 asi rs2 => some (altAccess s .loadBlock rs1 (.reg asi rs2) 64)
  | .ldshortf _ rs1 asi rs2 => some (altAccess s .loadD rs1 (.reg asi rs2) 8)
  | _ => none

/-- The register of a block transfer starts a group of eight double registers (43_fp_loadstore.md R690). -/
abbrev blockRegister (rd : RegField) : Prop := rd.toNat / 2 % 8 = 0

/-- What a memory instruction asks before it makes its access: an even register for a twin transfer, the FPU for a
floating-point one, the register of a block, no partial-store ASI in the ASI register for STDFA (42_loadstore.md R590, R593;
43_fp_loadstore.md R662 to R697). -/
def Instr.reachesAccess (s : State) : Instr → Prop
  | .ldtw rd _ _ | .ldtwa rd _ _ | .ldtxa rd _ _ _ | .sttw rd _ _ | .sttwa rd _ _ => rd.toNat % 2 = 0
  | .ldf .. | .ldfa .. | .lddf .. | .ldshortf .. | .ldfsr .. | .ldxfsr .. | .stf .. | .stfa .. | .stdf .. | .stshortf ..
  | .stpartialf .. | .stfsr .. | .stxfsr .. => s.fpEnabled = true
  | .lddfa rd _ o => s.fpEnabled = true ∧ (isBlockAsi (asiOf s o) = true → blockRegister rd)
  | .stdfa rd _ o =>
    s.fpEnabled = true ∧ (isBlockAsi (asiOf s o) = true → blockRegister rd) ∧
      match o with
      | .reg _ _ => True
      | .imm _ => isPartialAsi s.asi = false
  | .ldblockf rd _ _ _ | .stblockf rd _ _ _ => s.fpEnabled = true ∧ blockRegister rd
  | _ => True

/-- The R registers an instruction may write, by number in the window it writes them in. -/
def Instr.destinations : Instr → List RegField
  | .call _ => [15#5]
  | .ldtw rd _ _ | .ldtwa rd _ _ | .ldtxa rd _ _ _ => [rd, pairOdd rd]
  | .sethi rd _ | .popc rd _ | .rdy rd | .rdccr rd | .rdasi rd | .rdtick rd | .rdpc rd | .rdfprs rd | .rdpcr rd
  | .rdpic rd | .rdgsr rd | .rdsoftint rd | .rdtick_cmpr rd | .rdstick rd | .rdstick_cmpr rd | .rdhpr rd _ | .rdpr rd _
  | .add rd _ _ | .and rd _ _ | .or rd _ _ | .xor rd _ _ | .sub rd _ _ | .andn rd _ _ | .orn rd _ _ | .xnor rd _ _
  | .addc rd _ _ | .mulx rd _ _ | .umul rd _ _ | .smul rd _ _ | .subc rd _ _ | .udivx rd _ _ | .udiv rd _ _
  | .sdiv rd _ _ | .addcc rd _ _ | .andcc rd _ _ | .orcc rd _ _ | .xorcc rd _ _ | .subcc rd _ _ | .andncc rd _ _
  | .orncc rd _ _ | .xnorcc rd _ _ | .addccc rd _ _ | .umulcc rd _ _ | .smulcc rd _ _ | .subccc rd _ _
  | .udivcc rd _ _ | .sdivcc rd _ _ | .taddcc rd _ _ | .tsubcc rd _ _ | .taddcctv rd _ _ | .tsubcctv rd _ _
  | .mulscc rd _ _ | .sdivx rd _ _ | .jmpl rd _ _ | .save rd _ _ | .restore rd _ _ | .sll rd _ _ | .srl rd _ _
  | .sra rd _ _ | .sllx rd _ _ | .srlx rd _ _ | .srax rd _ _ | .mova rd _ _ | .movn rd _ _ | .movne rd _ _
  | .move rd _ _ | .movg rd _ _ | .movle rd _ _ | .movge rd _ _ | .movl rd _ _ | .movgu rd _ _ | .movleu rd _ _
  | .movcc rd _ _ | .movcs rd _ _ | .movpos rd _ _ | .movneg rd _ _ | .movvc rd _ _ | .movvs rd _ _ | .movfa rd _ _
  | .movfn rd _ _ | .movfu rd _ _ | .movfg rd _ _ | .movfug rd _ _ | .movfl rd _ _ | .movful rd _ _ | .movflg rd _ _
  | .movfne rd _ _ | .movfe rd _ _ | .movfue rd _ _ | .movfge rd _ _ | .movfuge rd _ _ | .movfle rd _ _
  | .movfule rd _ _ | .movfo rd _ _ | .movrz rd _ _ | .movrlez rd _ _ | .movrlz rd _ _ | .movrnz rd _ _
  | .movrgz rd _ _ | .movrgez rd _ _ | .edge8cc rd _ _ | .edge8n rd _ _ | .edge8lcc rd _ _ | .edge8ln rd _ _
  | .edge16cc rd _ _ | .edge16n rd _ _ | .edge16lcc rd _ _ | .edge16ln rd _ _ | .edge32cc rd _ _ | .edge32n rd _ _
  | .edge32lcc rd _ _ | .edge32ln rd _ _ | .array8 rd _ _ | .array16 rd _ _ | .array32 rd _ _ | .alignaddress rd _ _
  | .bmask rd _ _ | .alignaddress_little rd _ _ | .fcmple16 rd _ _ | .fcmpne16 rd _ _ | .fcmple32 rd _ _
  | .fcmpne32 rd _ _ | .fcmpgt16 rd _ _ | .fcmpeq16 rd _ _ | .fcmpgt32 rd _ _ | .fcmpeq32 rd _ _ | .lduw rd _ _
  | .ldub rd _ _ | .lduh rd _ _ | .ldsw rd _ _ | .ldsb rd _ _ | .ldsh rd _ _ | .ldx rd _ _ | .ldstub rd _ _
  | .swap rd _ _ | .lduwa rd _ _ | .lduba rd _ _ | .lduha rd _ _ | .ldswa rd _ _ | .ldsba rd _ _ | .ldsha rd _ _
  | .ldxa rd _ _ | .ldstuba rd _ _ | .swapa rd _ _ | .casa rd _ _ _ | .casxa rd _ _ _ => [rd]
  | _ => []

/-- SAVE, RESTORE and RETURN move the register window. -/
def Instr.movesWindow : Instr → Bool
  | .save .. | .restore .. | .return_ .. => true
  | _ => false

/-- The instructions that write CCR. -/
def Instr.writesCcr : Instr → Bool
  | .addcc .. | .andcc .. | .orcc .. | .xorcc .. | .subcc .. | .andncc .. | .orncc .. | .xnorcc .. | .addccc ..
  | .umulcc .. | .smulcc .. | .subccc .. | .udivcc .. | .sdivcc .. | .taddcc .. | .tsubcc .. | .taddcctv ..
  | .tsubcctv .. | .mulscc .. | .edge8cc .. | .edge8lcc .. | .edge16cc .. | .edge16lcc .. | .edge32cc .. | .edge32lcc ..
  | .wrccr .. | .done | .retry => true
  | _ => false

/-- The instructions that write Y. -/
def Instr.writesY : Instr → Bool
  | .wry .. | .mulscc .. | .umul .. | .smul .. | .umulcc .. | .smulcc .. | .udiv .. | .sdiv .. | .udivcc ..
  | .sdivcc .. => true
  | _ => false

/-- The instructions that write GSR. -/
def Instr.writesGsr : Instr → Bool
  | .wrgsr .. | .alignaddress .. | .alignaddress_little .. | .bmask .. | .siam .. => true
  | _ => false

/-- The FPop1 and FPop2 instructions and the loads and stores of FSR: all that write FSR. -/
def Instr.writesFsr : Instr → Bool
  | .ldfsr .. | .ldxfsr .. | .stfsr .. | .stxfsr .. | .fmovs .. | .fmovd .. | .fmovq .. | .fnegs .. | .fnegd ..
  | .fnegq .. | .fabss .. | .fabsd .. | .fabsq .. | .fsqrts .. | .fsqrtd .. | .fsqrtq .. | .fadds .. | .faddd ..
  | .faddq .. | .fsubs .. | .fsubd .. | .fsubq .. | .fmuls .. | .fmuld .. | .fmulq .. | .fdivs .. | .fdivd ..
  | .fdivq .. | .fsmuld .. | .fdmulq .. | .fstox .. | .fdtox .. | .fqtox .. | .fxtos .. | .fxtod .. | .fxtoq ..
  | .fitos .. | .fdtos .. | .fqtos .. | .fitod .. | .fstod .. | .fqtod .. | .fitoq .. | .fstoq .. | .fdtoq ..
  | .fstoi .. | .fdtoi .. | .fqtoi .. | .fmovsicc .. | .fmovsxcc .. | .fmovsfcc .. | .fmovdicc .. | .fmovdxcc ..
  | .fmovdfcc .. | .fmovqicc .. | .fmovqxcc .. | .fmovqfcc .. | .fmovrsz .. | .fmovrslez .. | .fmovrslz ..
  | .fmovrsnz .. | .fmovrsgz .. | .fmovrsgez .. | .fmovrdz .. | .fmovrdlez .. | .fmovrdlz .. | .fmovrdnz ..
  | .fmovrdgz .. | .fmovrdgez .. | .fmovrqz .. | .fmovrqlez .. | .fmovrqlz .. | .fmovrqnz .. | .fmovrqgz ..
  | .fmovrqgez .. | .fcmps .. | .fcmpd .. | .fcmpq .. | .fcmpes .. | .fcmped .. | .fcmpeq .. => true
  | _ => false

/-- What an instruction that needs the FPU marks dirty when it finds it disabled: its destination (45_fp.md R800, D13). -/
inductive FpuUse where
  | none
  | noDestination
  | single
  | double (rd : RegField)
  deriving DecidableEq, Repr

/-- The FPops, the VIS instructions and the loads and stores of F registers and FSR that check the FPU before anything else
(43_fp_loadstore.md R662 to R697; of the block transfers, which may be illegal first, LDDFA, STDFA, LDBLOCKF and STBLOCKF are
left out). -/
def Instr.fpuUse : Instr → FpuUse
  | .stf .. | .stfa .. | .stdf .. | .stshortf .. | .stpartialf .. | .ldfsr .. | .ldxfsr .. | .stfsr .. | .stxfsr .. =>
    .noDestination
  | .ldf .. | .ldfa .. => .single
  | .lddf rd _ _ | .ldshortf rd _ _ _ => .double rd
  | .fcmps .. | .fcmpd .. | .fcmpq .. | .fcmpes .. | .fcmped .. | .fcmpeq .. | .alignaddress ..
  | .alignaddress_little .. | .bmask .. | .fcmple16 .. | .fcmpne16 .. | .fcmple32 .. | .fcmpne32 .. | .fcmpgt16 ..
  | .fcmpeq16 .. | .fcmpgt32 .. | .fcmpeq32 .. | .siam .. => .noDestination
  | .fmovs .. | .fabss .. | .fnegs .. | .fsqrts .. | .fadds .. | .fsubs .. | .fmuls .. | .fdivs .. | .fstoi ..
  | .fdtoi .. | .fqtoi .. | .fxtos .. | .fitos .. | .fdtos .. | .fqtos .. | .fmovsicc .. | .fmovsxcc ..
  | .fmovsfcc .. | .fmovrsz .. | .fmovrslez .. | .fmovrslz .. | .fmovrsnz .. | .fmovrsgz .. | .fmovrsgez ..
  | .fpadd16s .. | .fpadd32s .. | .fpsub16s .. | .fpsub32s .. | .fzeros .. | .fones .. | .fsrc1s .. | .fsrc2s ..
  | .fnot1s .. | .fnot2s .. | .fors .. | .fnors .. | .fands .. | .fnands .. | .fxors .. | .fxnors .. | .fornot1s ..
  | .fornot2s .. | .fandnot1s .. | .fandnot2s .. => .single
  | .fmovd rd _ | .fmovq rd _ | .fabsd rd _ | .fabsq rd _ | .fnegd rd _ | .fnegq rd _ | .fsqrtd rd _ | .fsqrtq rd _
  | .faddd rd _ _ | .faddq rd _ _ | .fsubd rd _ _ | .fsubq rd _ _ | .fmuld rd _ _ | .fmulq rd _ _ | .fdivd rd _ _
  | .fdivq rd _ _ | .fsmuld rd _ _ | .fdmulq rd _ _ | .fstox rd _ | .fdtox rd _ | .fqtox rd _ | .fxtod rd _
  | .fxtoq rd _ | .fitod rd _ | .fitoq rd _ | .fstod rd _ | .fqtod rd _ | .fstoq rd _ | .fdtoq rd _
  | .fmovdicc rd _ _ | .fmovdxcc rd _ _ | .fmovdfcc rd _ _ _ | .fmovqicc rd _ _ | .fmovqxcc rd _ _
  | .fmovqfcc rd _ _ _ | .fmovrdz rd _ _ | .fmovrdlez rd _ _ | .fmovrdlz rd _ _ | .fmovrdnz rd _ _ | .fmovrdgz rd _ _
  | .fmovrdgez rd _ _ | .fmovrqz rd _ _ | .fmovrqlez rd _ _ | .fmovrqlz rd _ _ | .fmovrqnz rd _ _ | .fmovrqgz rd _ _
  | .fmovrqgez rd _ _ | .faligndata rd _ _ | .bshuffle rd _ _ | .fpadd16 rd _ _ | .fpadd32 rd _ _ | .fpsub16 rd _ _
  | .fpsub32 rd _ _ | .fzero rd | .fone rd | .fsrc1 rd _ | .fsrc2 rd _ | .fnot1 rd _ | .fnot2 rd _ | .for_ rd _ _
  | .fnor rd _ _ | .fand rd _ _ | .fnand rd _ _ | .fxor rd _ _ | .fxnor rd _ _ | .fornot1 rd _ _ | .fornot2 rd _ _
  | .fandnot1 rd _ _ | .fandnot2 rd _ _ => .double rd
  | _ => .none

/-- The 32-bit F registers an instruction may write: the one of a single, the two of a double, the sixteen of a block
(10_state.md R70 to R72, 43_fp_loadstore.md R690). -/
def Instr.fDestinations (i : Instr) : List (Fin 64) :=
  match i with
  | .ldf rd _ _ | .ldfa rd _ _ | .fmovs rd _ | .fabss rd _ | .fnegs rd _ | .fsqrts rd _ | .fadds rd _ _
  | .fsubs rd _ _ | .fmuls rd _ _ | .fdivs rd _ _ | .fstoi rd _ | .fdtoi rd _ | .fqtoi rd _ | .fxtos rd _
  | .fitos rd _ | .fdtos rd _ | .fqtos rd _ | .fmovsicc rd _ _ | .fmovsxcc rd _ _ | .fmovsfcc rd _ _ _
  | .fmovrsz rd _ _ | .fmovrslez rd _ _ | .fmovrslz rd _ _ | .fmovrsnz rd _ _ | .fmovrsgz rd _ _ | .fmovrsgez rd _ _
  | .fpadd16s rd _ _ | .fpadd32s rd _ _ | .fpsub16s rd _ _ | .fpsub32s rd _ _ | .fzeros rd | .fones rd | .fsrc1s rd _
  | .fsrc2s rd _ | .fnot1s rd _ | .fnot2s rd _ | .fors rd _ _ | .fnors rd _ _ | .fands rd _ _ | .fnands rd _ _
  | .fxors rd _ _ | .fxnors rd _ _ | .fornot1s rd _ _ | .fornot2s rd _ _ | .fandnot1s rd _ _
  | .fandnot2s rd _ _ => [singleIndex rd]
  | .lddfa rd _ _ | .ldblockf rd _ _ _ =>
    (List.finRange 64).filter fun n => n.val / 16 = 2 * (rd.toNat % 2) + rd.toNat / 16
  | i =>
    match i.fpuUse with
    | .double rd => [upperIndex rd, lowerIndex rd]
    | .none | .noDestination | .single => []

end Sys2Proof
end

