-- ==== Sys2Proof/Certificates/Slice0/Obligations.lean ====
section
/-!
DEFINITION. The statements for the provers. `WritesR`, `StoresBytes`, the condition tables and the other words they use
are Safety.lean's. A statement of the form `exec i s = .next t` says where the instruction completes; the state it names
is its whole effect, so it is the frame too. -/

open Sys2Proof Sys2Proof.Machine

/-! ## Encoding and decoding -/

/-- Encoding a well-formed instruction and decoding the word gives the instruction back (30_encoding.md R301 to R326). -/
def Obligations.DecodeOfEncode : Prop := ∀ i : Instr, i.wellFormed = true → decode (encode i) = .ok i

/-- A word that decodes is the encoding of what it decodes to, which is well formed: no bit of a word is dropped
(30_encoding.md R302, R324, R330, R343). -/
def Obligations.EncodeOfDecode : Prop :=
  ∀ (w : HWord) (i : Instr), decode w = .ok i → encode i = w ∧ i.wellFormed = true

/-- Words of the spec's examples decode to the instructions the spec says they are (40_integer.md R405, R439;
41_control.md R512, R517; 42_loadstore.md; 44_window_state.md R730, R775; 45_fp.md; 95_test_vectors.md). The positions
of op2, imm22, disp22 and disp30 in the words of SETHI, NOP, BNE and CALL are from general knowledge (R302, log 9). -/
def Obligations.SpecWordsDecode : Prop :=
  decode 0x86004002#32 = .ok (.add 3#5 1#5 (.reg 2#5)) ∧
  decode 0x112AF344#32 = .ok (.sethi 8#5 0x2AF344#22) ∧
  decode 0x01000000#32 = .ok .nop ∧
  decode 0x12BFFFFE#32 = .ok (.bne false 0x3FFFFE#22) ∧
  decode 0x40000003#32 = .ok (.call 3#30) ∧
  decode 0xD6821100#32 = .ok (.lduwa 11#5 8#5 (.reg 0x88#8 0#5)) ∧
  decode 0xD5F21009#32 = .ok (.casxa 10#5 8#5 (.immAsi 0x80#8) 9#5) ∧
  decode 0x9DE3BF50#32 = .ok (.save 14#5 14#5 (.imm 0x1F50#13)) ∧
  decode 0x8350C000#32 = .ok (.rdpr 1#5 .tt) ∧
  decode 0x85A00821#32 = .ok (.fadds 2#5 0#5 1#5) ∧
  decode 0x89B00902#32 = .ok (.faligndata 4#5 0#5 2#5) ∧
  decode 0x86004022#32 = .error .illegalInstruction ∧
  decode 0x81A00000#32 = .error .unimplementedFPop

/-! ## One step -/

/-- When no reset, error or interrupt comes first and the fetch succeeds, a step runs the decoded instruction on the state
whose timers have counted (60_exceptions.md R1001, 22_mmu.md R1470). -/
def Obligations.StepRunsTheDecodedInstruction : Prop :=
  ∀ (s : State) (pa : Nat) (i : Instr), beforeFetch s.count = none → fetchAddress s.count = .word pa →
    decode (fetchWord s.mem pa) = .ok i → step s = exec i s.count

/-- A word that is no instruction raises illegal_instruction; in the FPop spaces fp_disabled if the FPU is off, else
fp_exception_other with FSR.ftt = 3 (30_encoding.md R330). A reserved opf_cc or rcond names a destination, whose dirty bit
fp_disabled sets (45_fp.md R800, R832, R842); that another reserved opf sets none is the model's choice (log 18, D13). -/
def Obligations.UndecodableWordTraps : Prop :=
  ∀ (s : State) (pa : Nat), beforeFetch s.count = none → fetchAddress s.count = .word pa →
    (decode (fetchWord s.mem pa) = .error .illegalInstruction →
      step s = .next (takeTrap .illegalInstruction s.count)) ∧
    (decode (fetchWord s.mem pa) = .error .unimplementedFPop →
      (s.fpEnabled = false → step s = .next (takeTrap .fpDisabled s.count)) ∧
      (s.fpEnabled = true →
        step s = .next (takeTrap .fpExceptionOther { s.count with fsr := { s.fsr with ftt := 3#3 } }))) ∧
    ∀ (double : Bool) (rd : RegField), decode (fetchWord s.mem pa) = .error (.unimplementedFMove double rd) →
      (s.fpEnabled = false →
        step s =
          .next (takeTrap .fpDisabled
            { s.count with
              fprs :=
                if double = true ∧ rd.toNat % 2 = 1 then { s.fprs with du := true } else { s.fprs with dl := true } })) ∧
      (s.fpEnabled = true →
        step s = .next (takeTrap .fpExceptionOther { s.count with fsr := { s.fsr with ftt := 3#3 } }))

/-- While no two entries of a TLB overlap, every step answers a next state, and they still do not overlap: no ordinary
state stops the machine. An insertion into a TLB keeps it so (22_mmu.md R1452, R1486; 60_exceptions.md R1001). That no
access ends in a device or nowhere is D30 (log 8), that overlapping entries would is the model fault of log 27. -/
def Obligations.EveryStepCompletes : Prop :=
  (∀ s : State, tlbDisjoint s.mmu.itlb → tlbDisjoint s.mmu.dtlb →
    ∃ t, step s = .next t ∧ tlbDisjoint t.mmu.itlb ∧ tlbDisjoint t.mmu.dtlb) ∧
  ∀ (s t : State) (which : WhichTlb) (e : TlbEntry), tlbDisjoint s.mmu.itlb → tlbDisjoint s.mmu.dtlb →
    s.tlbInsert which e = some t → tlbDisjoint t.mmu.itlb ∧ tlbDisjoint t.mmu.dtlb

/-! ## Reset -/

/-- What a power-on reset sets, in the state after reset, in the one HostPOR leaves at once and in the one a step leaves
that finds a power-on reset asked for (60_exceptions.md R1041, R1042; 61_interrupts_cmt.md R1230;
70_reset_and_hazards.md R1250, R1255). STRAND_AVAILABLE, which the CMT registers copy, is the default 1 (log 8). That
memory is kept, which R1255 leaves undefined, is the model's choice (log 14), and that the step serves it in error_state
before a watchdog reset is log 13; RSTVADDR is D45 (log 8), and the images of PSTATE and HPSTATE as words rest on the
positions of log 9. -/
def Obligations.PowerOnResetValues : Prop :=
  let IsReset := fun t : State =>
    t.pc = 0xFFFFFFFFF0000020#64 ∧ t.npc = 0xFFFFFFFFF0000024#64 ∧ t.tl = 6 ∧ t.gl = 3 ∧ t.trapEntry.tt = 0x001#9 ∧
    t.pstate.bits = 0x0010#13 ∧ t.hpstate.bits = 0x024#11 ∧ t.tick.npt = true ∧ t.tickCmpr.intDis = true ∧
    t.stickCmpr.intDis = true ∧ t.hstickCmpr.intDis = true ∧ t.mmu.immuEnable = false ∧ t.mmu.dmmuEnable = false ∧
    t.errorState = none ∧ t.cmt = { strandEnable := 1#64, strandEnableStatus := 1#64, xirSteering := 1#64 }
  IsReset State.reset ∧
  (∀ s : State, s.requests.por = true → ∃ t, step s = .next t ∧ IsReset t ∧ t.mem = s.mem ∧ t.requests.por = false) ∧
  ∀ (s : State) (r : HostRequests), r.por = true →
    let t := s.hostRequest r
    t = s.hostPor ∧ IsReset t ∧ t.mem = s.mem ∧ t.requests = State.reset.requests

/-- The state after reset is good (10_state.md R60). -/
def Obligations.ResetIsGood : Prop := State.reset.Good

/-! ## Invariants and whole-machine rules -/

/-- Every step keeps pc, npc, TPC and TNPC word aligned and memory canonical (10_state.md R60, 11_state_privileged.md
R170, R171). -/
def Obligations.StepKeepsGood : Prop := ∀ s t : State, s.Good → step s = .next t → t.Good

/-- No instruction that nonprivileged code completes or traps on, short of entering a higher mode, changes a privileged
or hyperprivileged register, a trap-stack entry, an MMU register, a CMT register, a scratchpad or a timer. Short of
entering hyperprivileged mode, an instruction of privileged code changes no timer, no CMT register, no queue tail,
nothing of the MMU but the context registers, and no hyperprivileged register but HPSTATE by DONE or RETRY and, by a
trap, the HTSTATE of the new level, which saves HPSTATE (60_exceptions.md R1002, R1040, R1060; 11_state_privileged.md
R200; 44_window_state.md R759, R785, R790; 61_interrupts_cmt.md R1201). That privileged code cannot write the queue
tails is D54 and the choice of impl. dep. #422 (log 8), that no watchpoint writes D-SFAR D44 (log 8), that a trap into
error_state writes no MMU register log 11. -/
def Obligations.LowerModesAreConfined : Prop :=
  (∀ (i : Instr) (s t : State), s.isUser = true → exec i s = .next t → t.isUser = true →
    t.pstate = s.pstate ∧ t.hpstate = s.hpstate ∧ t.tl = s.tl ∧ t.gl = s.gl ∧ t.traps = s.traps ∧ t.tba = s.tba ∧
    t.htba = s.htba ∧ t.hsp = s.hsp ∧ t.pil = s.pil ∧ t.softint = s.softint ∧ t.tick = s.tick ∧ t.stick = s.stick ∧
    t.tickCmpr = s.tickCmpr ∧ t.stickCmpr = s.stickCmpr ∧ t.hstickCmpr = s.hstickCmpr ∧ t.pcr = s.pcr ∧
    t.mmu = s.mmu ∧ t.scratchpad = s.scratchpad ∧ t.hyperScratchpad = s.hyperScratchpad ∧ t.queues = s.queues ∧
    t.strandIntrId = s.strandIntrId ∧ t.cmt = s.cmt ∧ t.win.wstateNormal = s.win.wstateNormal ∧
    t.win.wstateOther = s.win.wstateOther ∧ t.win.cleanwin = s.win.cleanwin ∧ t.win.otherwin = s.win.otherwin) ∧
  ∀ (i : Instr) (s t : State), s.mode = .privileged → exec i s = .next t → t.hpstate.hpriv = false →
    t.htba = s.htba ∧ t.hsp = s.hsp ∧ t.hstickCmpr = s.hstickCmpr ∧ t.tick = s.tick ∧ t.stick = s.stick ∧
    t.hyperScratchpad = s.hyperScratchpad ∧ t.strandIntrId = s.strandIntrId ∧ t.cmt = s.cmt ∧
    t.mmu =
      { s.mmu with primaryContext := t.mmu.primaryContext, secondaryContext := t.mmu.secondaryContext } ∧
    t.queues.cpuMondoTail = s.queues.cpuMondoTail ∧ t.queues.devMondoTail = s.queues.devMondoTail ∧
    t.queues.resumableTail = s.queues.resumableTail ∧ t.queues.nonresumableTail = s.queues.nonresumableTail ∧
    (t.hpstate ≠ s.hpstate → i = .done ∨ i = .retry) ∧
    ∀ n : Fin 6, (t.traps.get n).htstate ≠ (s.traps.get n).htstate →
      s.tl < t.tl ∧ n.val = s.tl.val ∧ (t.traps.get n).htstate = s.hpstate.bits

/-- Memory changes only where a store goes: an instruction that stores nothing leaves every byte, and a storing one leaves
every byte outside its access at the address DataAccess gives, all bytes when it gives none (42_loadstore.md R561). -/
def Obligations.MemoryFrame : Prop :=
  ∀ (i : Instr) (s t : State), exec i s = .next t →
    (i.storeAccess s = none → ∀ a, Memory.read t.mem a = Memory.read s.mem a) ∧
    ∀ acc, i.storeAccess s = some acc →
      (∀ pa little, dataAccess s acc = .memory pa little →
        ∀ a, a < pa ∨ pa + acc.size ≤ a → Memory.read t.mem a = Memory.read s.mem a) ∧
      ((∀ pa little, dataAccess s acc ≠ .memory pa little) → ∀ a, Memory.read t.mem a = Memory.read s.mem a)

/-- Only an instruction's destination registers change among all the R registers, the hidden windows and global sets
included (10_state.md R22). -/
def Obligations.GeneralRegisterFrame : Prop :=
  ∀ (i : Instr) (s t : State), exec i s = .next t →
    (∀ n : Fin 28, t.globals.get n ≠ s.globals.get n →
      ∃ r ∈ i.destinations, r ≠ 0#5 ∧ r.toNat < 8 ∧ n = globalIndex s.gl r) ∧
    ∀ n : Fin 128, t.windows.get n ≠ s.windows.get n →
      ∃ r ∈ i.destinations, 8 ≤ r.toNat ∧ n = (windowIndex t.win.cwp r).toFin

/-- CCR, Y, GSR, FSR and ASI are changed only by the instructions that write them, each of the other registers below by
its own write alone: F registers and their dirty bits by destination, window registers, the trap stack, TL, GL, PSTATE
and HPSTATE by a trap, a trap return or their own write, the registers behind ASIs by STXA, D-SFAR by the trap of a data
access that records its address and by nothing else, D-SFSR and the data tag access register by that trap or by STXA,
the TLBs by nothing, nor, with N_STRANDS = 1 (log 8), are STRAND_ENABLE, its status and XIR_STEERING (10_state.md R71,
R80, R102, R108, R125; 11_state_privileged.md R161 to R167, R180, R201, R220; 22_mmu.md R1480 to R1484;
44_window_state.md R759 to R791; 61_interrupts_cmt.md R1240). That the dirty bits are exact is D13 (log 18), that TLBs
change between steps only is log 28, that D-SFSR changes with D-SFAR, to any value, log 10, that the real translation
miss records its address and JMPL and RETURN do not is D37 (log 23), that a trap into error_state writes no MMU register
log 11. -/
def Obligations.SpecialRegisterFrame : Prop :=
  ∀ (i : Instr) (s t : State), exec i s = .next t →
    (i.writesCcr = false → t.ccr = s.ccr) ∧ (i.writesY = false → t.y = s.y) ∧ (i.writesGsr = false → t.gsr = s.gsr) ∧
    (i.writesFsr = false → t.fsr = s.fsr) ∧
    (t.asi ≠ s.asi → i = .done ∨ i = .retry ∨ ∃ rs1 o, i = .wrasi rs1 o) ∧
    (t.tba ≠ s.tba → ∃ rs1 o, i = .wrpr .tba rs1 o) ∧ (t.pil ≠ s.pil → ∃ rs1 o, i = .wrpr .pil rs1 o) ∧
    (t.tick ≠ s.tick → ∃ rs1 o, i = .wrpr .tick rs1 o) ∧ (t.stick ≠ s.stick → ∃ rs1 o, i = .wrstick rs1 o) ∧
    (t.tickCmpr ≠ s.tickCmpr → ∃ rs1 o, i = .wrtick_cmpr rs1 o) ∧
    (t.stickCmpr ≠ s.stickCmpr → ∃ rs1 o, i = .wrstick_cmpr rs1 o) ∧
    (t.hstickCmpr ≠ s.hstickCmpr → ∃ rs1 o, i = .wrhpr .hstickCmpr rs1 o) ∧
    (t.htba ≠ s.htba → ∃ rs1 o, i = .wrhpr .htba rs1 o) ∧ (t.hsp ≠ s.hsp → ∃ rs1 o, i = .wrhpr .hintp rs1 o) ∧
    (t.pcr ≠ s.pcr → ∃ rs1 o, i = .wrpcr rs1 o) ∧ (t.pic ≠ s.pic → ∃ rs1 o, i = .wrpic rs1 o) ∧
    (t.softint ≠ s.softint →
      ∃ rs1 o, i = .wrsoftint rs1 o ∨ i = .wrsoftint_set rs1 o ∨ i = .wrsoftint_clr rs1 o) ∧
    (∀ n : Fin 64, t.fregs.get n ≠ s.fregs.get n → n ∈ i.fDestinations) ∧
    (t.fprs.fef ≠ s.fprs.fef → ∃ rs1 o, i = .wrfprs rs1 o) ∧
    (t.fprs.dl ≠ s.fprs.dl → (∃ rs1 o, i = .wrfprs rs1 o) ∨ ∃ n ∈ i.fDestinations, n.val < 32) ∧
    (t.fprs.du ≠ s.fprs.du → (∃ rs1 o, i = .wrfprs rs1 o) ∨ ∃ n ∈ i.fDestinations, 32 ≤ n.val) ∧
    (t.win.cwp ≠ s.win.cwp →
      s.tl < t.tl ∨ i.movesWindow = true ∨ i = .done ∨ i = .retry ∨ ∃ rs1 o, i = .wrpr .cwp rs1 o) ∧
    (t.win.cansave ≠ s.win.cansave →
      i.movesWindow = true ∨ i = .saved ∨ i = .restored ∨ ∃ rs1 o, i = .wrpr .cansave rs1 o) ∧
    (t.win.canrestore ≠ s.win.canrestore →
      i.movesWindow = true ∨ i = .saved ∨ i = .restored ∨ ∃ rs1 o, i = .wrpr .canrestore rs1 o) ∧
    (t.win.otherwin ≠ s.win.otherwin → i = .saved ∨ i = .restored ∨ ∃ rs1 o, i = .wrpr .otherwin rs1 o) ∧
    (t.win.cleanwin ≠ s.win.cleanwin → i = .restored ∨ ∃ rs1 o, i = .wrpr .cleanwin rs1 o) ∧
    (t.win.wstateNormal ≠ s.win.wstateNormal ∨ t.win.wstateOther ≠ s.win.wstateOther →
      ∃ rs1 o, i = .wrpr .wstate rs1 o) ∧
    (t.traps ≠ s.traps →
      s.tl < t.tl ∨ (∃ rs1 o, i = .wrhpr .htstate rs1 o) ∨
        ∃ pr ∈ [PrivReg.tpc, .tnpc, .tstate, .tt], ∃ rs1 o, i = .wrpr pr rs1 o) ∧
    (t.tl < s.tl → i = .done ∨ i = .retry ∨ ∃ rs1 o, i = .wrpr .tl rs1 o) ∧
    (t.gl ≠ s.gl → s.tl < t.tl ∨ i = .done ∨ i = .retry ∨ ∃ rs1 o, i = .wrpr .gl rs1 o) ∧
    (t.pstate ≠ s.pstate → s.tl < t.tl ∨ i = .done ∨ i = .retry ∨ ∃ rs1 o, i = .wrpr .pstate rs1 o) ∧
    (t.hpstate ≠ s.hpstate → s.tl < t.tl ∨ i = .done ∨ i = .retry ∨ ∃ rs1 o, i = .wrhpr .hpstate rs1 o) ∧
    (t.errorState ≠ s.errorState → s.tl = 6) ∧
    (t.scratchpad ≠ s.scratchpad ∨ t.hyperScratchpad ≠ s.hyperScratchpad ∨ t.queues ≠ s.queues ∨
        t.strandIntrId ≠ s.strandIntrId ∨ t.mmu.primaryContext ≠ s.mmu.primaryContext ∨
        t.mmu.secondaryContext ≠ s.mmu.secondaryContext ∨ t.mmu.partitionId ≠ s.mmu.partitionId ∨
        t.mmu.itagAccess ≠ s.mmu.itagAccess ∨ t.mmu.isfsr ≠ s.mmu.isfsr →
      ∃ rd rs1 o, i = .stxa rd rs1 o) ∧
    (t.mmu.dsfar ≠ s.mmu.dsfar ∨ t.mmu.dsfsr ≠ s.mmu.dsfsr ∨ t.mmu.dtagAccess ≠ s.mmu.dtagAccess →
      ((∃ rd rs1 o, i = .stxa rd rs1 o) ∧ t.mmu.dsfar = s.mmu.dsfar) ∨
        ∃ acc, (i.loadAccess s = some acc ∨ i.storeAccess s = some acc) ∧
          ∃ e ∈ dsfarExceptions, Takes s t e ∧ s.tl < t.tl ∧ t.mmu.dsfar = s.amMask acc.addr ∧
            (t.mmu.dtagAccess ≠ s.mmu.dtagAccess → e ∈ dtagExceptions)) ∧
    (t.mmu.immuEnable ≠ s.mmu.immuEnable ∨ t.mmu.dmmuEnable ≠ s.mmu.dmmuEnable → s.tl < t.tl) ∧
    t.mmu.itlb = s.mmu.itlb ∧ t.mmu.dtlb = s.mmu.dtlb ∧ t.cmt = s.cmt

/-! ## Registers and memory -/

/-- R[8] to R[15] of window w are R[24] to R[31] of window w + 1; a local register is no other window's; a global of one
level is no other level's (10_state.md R22, R23). -/
def Obligations.WindowsOverlap : Prop :=
  (∀ (s : State) (k : BitVec 3),
    { s with win := { s.win with cwp := s.win.cwp + 1#3 } }.readR (3#2 ++ k) = s.readR (1#2 ++ k)) ∧
  (∀ (s : State) (k : BitVec 3) (v : Word) (w : BitVec 3) (r : RegField), w ≠ s.win.cwp →
    { s.writeR (2#2 ++ k) v with win := { s.win with cwp := w } }.readR r =
      { s with win := { s.win with cwp := w } }.readR r) ∧
  ∀ (s : State) (r q : RegField) (v : Word) (g : Fin 4), r.toNat < 8 → g ≠ s.gl →
    { s.writeR r v with gl := g }.readR q = { s with gl := g }.readR q

/-- A read of n bytes is the sum of its bytes by their weights in the byte order; a store puts each byte where a read of
that order finds it, so that storing and reading gives the low n bytes back, and changes no other byte (20_memory.md R1303
to R1305). -/
def Obligations.StoreThenLoad : Prop :=
  ∀ (m : List Host.Cell) (a n : Nat) (little : Bool) (v : Word), Memory.wf m → n ≤ 8 →
    (Memory.readInt (Memory.writeInt m a n little v) a n little).toNat = v.toNat % 256 ^ n ∧
    (Memory.readInt m a n little).toNat = valueAt m a n little ∧
    (∀ i, i < n → Memory.read (Memory.writeInt m a n little v) (a + i) = BitVec.ofNat 8 (v.toNat / byteWeight n little i)) ∧
    ∀ b, b < a ∨ a + n ≤ b → Memory.read (Memory.writeInt m a n little v) b = Memory.read m b

/-! ## Traps -/

/-- A trap delivered to privileged mode (60_exceptions.md R1040, R1020): from a lower level than MAXPTL, outside RED_state,
on an exception of the P rows outside hyperprivileged mode. -/
def Obligations.TrapToPrivilegedMode : Prop :=
  ∀ (s : State) (e : Exc), s.hpstate.red = false → s.hpstate.hpriv = false → s.tl.val < 2 → e.privilegedRow = true →
    let t := takeTrap e s
    t.tl.val = s.tl.val + 1 ∧ t.gl.val = min (s.gl.val + 1) 2 ∧ t.mode = .privileged ∧
    t.trapEntry.tpc = s.amMask s.pc ∧ t.trapEntry.tnpc = s.amMask s.npc ∧ t.trapEntry.tt = e.tt ∧
    t.trapEntry.htstate = s.hpstate.bits ∧ t.trapEntry.tstate.ccr = s.ccr ∧ t.trapEntry.tstate.asi = s.asi ∧
    t.trapEntry.tstate.pstate = s.pstate.bits ∧ t.trapEntry.tstate.cwp.toNat = s.win.cwp.toNat ∧
    t.trapEntry.tstate.gl.toNat = s.gl.val ∧
    t.pstate =
      { tct := false, cle := s.pstate.tle, tle := s.pstate.tle, pef := true, am := false, priv := true, ie := false } ∧
    t.pc.toNat = s.tba.toNat * 2 ^ 15 + (if s.tl.val = 0 then 0 else 2 ^ 14) + e.tt.toNat * 32 ∧
    t.npc = t.pc + 4#64 ∧ (∀ n : Fin 6, n.val ≠ s.tl.val → t.traps.get n = s.traps.get n) ∧
    t = { s with
      tl := t.tl, gl := t.gl, traps := t.traps, pstate := t.pstate, win := { s.win with cwp := t.win.cwp }, pc := t.pc,
      npc := t.npc }

/-- A trap delivered to hyperprivileged mode (60_exceptions.md R1040, R1022): an exception of the H rows, or any exception in
hyperprivileged mode, below MAXTL - 1 and outside RED_state. A privileged exception at TL ≥ MAXPTL is a guest watchdog:
the watchdog vector, the original trap type. The trap type of every exception and the mode it is delivered to are those of
the table of R1005, number by number. -/
def Obligations.TrapToHyperprivilegedMode : Prop :=
  (∀ (s : State) (e : Exc), s.hpstate.red = false → s.tl.val < 5 →
    (e.privilegedRow = false ∨ s.hpstate.hpriv = true ∨ 2 ≤ s.tl.val) →
    let t := takeTrap e s
    t.tl.val = s.tl.val + 1 ∧ t.gl.val = min (s.gl.val + 1) 3 ∧ t.mode = .hyperprivileged ∧
    t.trapEntry = s.savedTrap e.tt ∧
    t.pstate =
      { tct := false, cle := false, tle := s.pstate.tle, pef := true, am := false, priv := false, ie := false } ∧
    t.hpstate = { ibe := false, red := false, hpriv := true, tlz := s.hpstate.tlz } ∧
    t.pc.toNat =
      s.htba.toNat * 2 ^ 14 + (if e.privilegedRow = true ∧ s.hpstate.hpriv = false then 0x40 else e.tt.toNat * 32) ∧
    t.npc = t.pc + 4#64 ∧
    (∀ n : Fin 6, n.val ≠ s.tl.val → t.traps.get n = s.traps.get n) ∧ t.mem = s.mem ∧ t.globals = s.globals ∧
    t.windows = s.windows ∧ t.fregs = s.fregs ∧ t.fsr = s.fsr ∧ t.ccr = s.ccr ∧ t.mmu = s.mmu) ∧
  ∀ row ∈ trapTable, ∀ s : State, s.hpstate.red = false → s.tl.val < 5 →
    (takeTrap row.exc s).trapEntry.tt.toNat = row.number ∧
    (takeTrap row.exc s).mode =
      if row.privileged = true ∧ s.hpstate.hpriv = false ∧ s.tl.val < 2 then .privileged else .hyperprivileged

/-- A trap at TL = MAXTL - 1, or in RED_state below MAXTL, enters RED_state at RSTVADDR + 0xA0 with both MMUs
disabled. SIR is a software-initiated reset in hyperprivileged mode, RED_state at RSTVADDR + 0x80 with TT = 4; illegal
elsewhere; at MAXTL it enters error_state (60_exceptions.md R1023, R1041, R1045, R1046; 44_window_state.md R795). A
warm reset enters it at TL = MAXTL and an XIR one level up, both keeping every other register and memory (R1044,
70_reset_and_hazards.md R1253). What a WMR keeps is D56; that it drops a pending XIR and keeps the injected errors is
log 30, that an XIR at MAXTL resets is D40; that a WMR or an XIR comes before the watchdog reset of error_state is log
13, RSTVADDR D45 (log 8). -/
def Obligations.EntriesIntoRedState : Prop :=
  (∀ (s : State) (e : Exc), s.tl.val < 6 → (s.tl.val = 5 ∨ s.hpstate.red = true) →
     let t := takeTrap e s
     t.tl.val = s.tl.val + 1 ∧ t.hpstate.red = true ∧ t.mode = .hyperprivileged ∧ t.trapEntry = s.savedTrap e.tt ∧
     t.mmu.immuEnable = false ∧ t.mmu.dmmuEnable = false ∧ t.pc = 0xFFFFFFFFF00000A0#64 ∧
     t.npc = 0xFFFFFFFFF00000A4#64 ∧ t.mem = s.mem) ∧
  (∀ (s : State) (k : BitVec 13),
    (s.hpstate.hpriv = false → exec (.sir k) s = .next (takeTrap .illegalInstruction s)) ∧
    (s.hpstate.hpriv = true → s.tl = 6 → exec (.sir k) s = .next { s with errorState := some 0x004#9 }) ∧
    (s.hpstate.hpriv = true → s.tl ≠ 6 → ∃ t, exec (.sir k) s = .next t ∧ t.tl.val = s.tl.val + 1 ∧
      t.hpstate.red = true ∧ t.trapEntry = s.savedTrap 0x004#9 ∧ t.pc = 0xFFFFFFFFF0000080#64 ∧
      t.npc = 0xFFFFFFFFF0000084#64 ∧ t.mem = s.mem ∧ t.globals = s.globals ∧ t.windows = s.windows)) ∧
  ∀ s : State, s.requests.por = false →
    let u := s.count
    let Red := fun (t : State) (tl : Fin 7) (gl : Fin 4) (tt : TrapType) (offset : Nat) =>
      t.tl = tl ∧ t.gl = gl ∧ t.trapEntry = u.savedTrap tt ∧ t.pc.toNat = 0xFFFFFFFFF0000000 + offset ∧
      t.npc.toNat = 0xFFFFFFFFF0000000 + offset + 4 ∧
      t.pstate =
        { tct := false, cle := false, tle := s.pstate.tle, pef := true, am := false, priv := false, ie := false } ∧
      t.hpstate = { ibe := false, red := true, hpriv := true, tlz := false } ∧ t.errorState = none ∧
      (∀ n : Fin 6, n.val + 1 ≠ tl.val → t.traps.get n = s.traps.get n) ∧
      t = { u with
        tl := t.tl, gl := t.gl, traps := t.traps, pc := t.pc, npc := t.npc, pstate := t.pstate, hpstate := t.hpstate,
        errorState := none, tick := t.tick, requests := t.requests,
        mmu := { s.mmu with immuEnable := false, dmmuEnable := false } }
    (s.requests.wmr = true → ∃ t, step s = .next t ∧ Red t 6 3 0x001#9 0x20 ∧
      t.tick = { npt := true, counter := u.tick.counter } ∧ t.requests = { s.requests with wmr := false, xir := false }) ∧
    (s.requests.wmr = false → s.requests.xir = true → ∃ t, step s = .next t ∧
      Red t ⟨min (s.tl.val + 1) 6, by omega⟩ ⟨min (s.gl.val + 1) 3, by omega⟩ (s.errorState.getD 0x003#9) 0x60 ∧
      t.tick = u.tick ∧ t.requests = { s.requests with xir := false })

/-- A trap at TL = MAXTL enters error_state and changes nothing else; the step after it, unless a reset is asked for,
is a watchdog reset: RED_state at RSTVADDR + 0x40 with TL = MAXTL (60_exceptions.md R1043, R1047). That it comes at
the very next step, keeps memory and has this TT is the model's choice (log 13, D41). -/
def Obligations.ErrorStateThenWatchdogReset : Prop :=
  (∀ (s : State) (e : Exc), s.tl = 6 → takeTrap e s = { s with errorState := some e.tt }) ∧
  ∀ (s : State) (tt : TrapType), s.errorState = some tt → s.requests.por = false → s.requests.wmr = false →
    s.requests.xir = false →
    ∃ t, step s = .next t ∧ t.errorState = none ∧ t.hpstate.red = true ∧ t.hpstate.hpriv = true ∧
      t.tl.val = min (s.tl.val + 1) 6 ∧ t.pc = 0xFFFFFFFFF0000040#64 ∧ t.npc = 0xFFFFFFFFF0000044#64 ∧
      t.trapEntry.tt = tt ∧ t.mem = s.mem

/-- CWP at the handler: one on for clean_window, past the windows that can be saved for a spill, one back for a fill,
unchanged otherwise; TSTATE.cwp keeps the old one (60_exceptions.md R1025, R1051). -/
def Obligations.WindowTrapsMoveCwp : Prop :=
  ∀ (s : State) (e : Exc), s.tl.val < 6 →
    (takeTrap e s).trapEntry.tstate.cwp.toNat = s.win.cwp.toNat ∧
    (takeTrap e s).win.cwp.toNat =
      match e with
      | .cleanWindow => (s.win.cwp.toNat + 1) % 8
      | .spill _ _ => (s.win.cwp.toNat + s.win.cansave.toNat + 2) % 8
      | .fill _ _ => (s.win.cwp.toNat + 7) % 8
      | _ => s.win.cwp.toNat

/-- RETRY after any normal trap gives back the state before it, the trap-stack entry apart: every piece of state a trap
changes is one that it saves (60_exceptions.md R1040, R1060, R1061; 41_control.md R527). -/
def Obligations.RetryUndoesTheTrap : Prop :=
  ∀ (s : State) (e : Exc), s.tl.val < 5 → s.hpstate.red = false → s.pstate.am = false → s.gl.val ≤ 2 →
    exec .retry (takeTrap e s) = .next { s with traps := (takeTrap e s).traps }

/-- DONE and RETRY restore what TSTATE and HTSTATE hold and lower TL; DONE continues at TNPC, RETRY at TPC then TNPC;
both trap in nonprivileged mode and at TL = 0 (41_control.md R518, R527; 60_exceptions.md R1060). That TPC and TNPC
are copied whole where the restored PSTATE.am is 1 is the model's choice (impl. dep. #417-S10, log 24); the masks
0x131E and 0x425 rest on the positions of log 9. -/
def Obligations.DoneAndRetry : Prop :=
  ∀ s : State,
    (s.isUser = true → exec .done s = .next (takeTrap .privilegedOpcode s) ∧
      exec .retry s = .next (takeTrap .privilegedOpcode s)) ∧
    (s.isUser = false → s.tl = 0 → exec .done s = .next (takeTrap .illegalInstruction s) ∧
      exec .retry s = .next (takeTrap .illegalInstruction s)) ∧
    (s.isUser = false → s.tl ≠ 0 →
      ∃ t, exec .done s = .next t ∧
        exec .retry s = .next { t with pc := s.trapEntry.tpc, npc := s.trapEntry.tnpc } ∧
        t.pc = s.trapEntry.tnpc ∧ t.npc = s.trapEntry.tnpc + 4#64 ∧ t.tl.val + 1 = s.tl.val ∧
        t.ccr = s.trapEntry.tstate.ccr ∧ t.asi = s.trapEntry.tstate.asi ∧
        t.win.cwp.toNat = s.trapEntry.tstate.cwp.toNat % 8 ∧
        t.pstate.bits = s.trapEntry.tstate.pstate &&& 0x131E#13 ∧ t.hpstate.bits = s.trapEntry.htstate &&& 0x425#11 ∧
        t.gl.val =
          min (min s.trapEntry.tstate.gl.toNat 3)
            (if s.hpstate.hpriv = false ∧ s.trapEntry.htstate.getLsbD 2 = false then 2 else 3) ∧
        t = { s with
          pc := t.pc, npc := t.npc, tl := t.tl, ccr := t.ccr, asi := t.asi, pstate := t.pstate, hpstate := t.hpstate,
          gl := t.gl, win := { s.win with cwp := t.win.cwp } })

/-- What a step does before it fetches, and the fetch. The timers count, and a match posts SOFTINT.tm, SOFTINT.sm or
HINTP.hsp. With no reset asked for and no error_state, a step takes an injected error, trap_level_zero, hstick_match,
then outside hyperprivileged mode with PSTATE.ie = 1 cpu_mondo, dev_mondo, the greatest level above PIL,
resumable_error, in that order; with none of them it fetches: from the physical address in hyperprivileged mode and
RED_state, else through the ITLB entry that matches, a miss, a forbidden page or an injected error being the
instruction's trap (60_exceptions.md R1013, R1030; 61_interrupts_cmt.md R1155, R1158 to R1165, R1180; 22_mmu.md R1470,
R1480, R1483). One count a step is D49 (log 6), the place of internal_processor_error D46, PIC that counts nothing D53
(log 8), the tag access register after instruction_real_translation_miss D37; that a deliverable disrupting trap comes
before the instruction is D43 (log 29), that a trap into error_state writes no MMU register log 11, the layout of the
tag access register log 9 (R1483), the values the ISFSR gets log 10, and the fetch from the physical address D38 and
D51. -/
def Obligations.TimersInterruptsAndFetch : Prop :=
  (∀ s : State,
    let now := s.stick.counter + 1#63
    let Hits := fun (r : CompareReg) (v : BitVec 63) => r.intDis = false ∧ r.value = v
    let u := s.count
    u.tick = { s.tick with counter := s.tick.counter + 1#63 } ∧ u.stick = { s.stick with counter := now } ∧
    (∀ n < 17, u.softint.getLsbD n = true ↔
      s.softint.getLsbD n = true ∨ n = 0 ∧ Hits s.tickCmpr (s.tick.counter + 1#63) ∨ n = 16 ∧ Hits s.stickCmpr now) ∧
    (u.hsp = true ↔ s.hsp = true ∨ Hits s.hstickCmpr now) ∧
    u = { s with tick := u.tick, stick := u.stick, softint := u.softint, hsp := u.hsp }) ∧
  (∀ s : State, s.requests.por = false → s.requests.wmr = false → s.requests.xir = false → s.errorState = none →
    let u := s.count
    let Trap := fun (e : Exc) => step s = .next (takeTrap e u)
    let Waits := fun (head tail : Word) => head ≠ tail
    let level := fun n : Nat => u.pil.toNat < n ∧ n ≤ 15 ∧ levelPending u.softint n
    let levelZero := u.hpstate.tlz = true ∧ u.hpstate.hpriv = false ∧ u.tl = 0
    let hstick := u.hsp = true ∧ (u.hpstate.hpriv = false ∨ u.pstate.ie = true)
    let opened := u.hpstate.hpriv = false ∧ u.pstate.ie = true
    let cpu := Waits u.queues.cpuMondoHead u.queues.cpuMondoTail
    let dev := Waits u.queues.devMondoHead u.queues.devMondoTail
    let resumable := Waits u.queues.resumableHead u.queues.resumableTail
    if s.requests.storeError then
      step s = .next (takeTrap .storeError { u with requests := { s.requests with storeError := false } })
    else if s.requests.internalProcessorError then
      step s =
        .next (takeTrap .internalProcessorError { u with requests := { s.requests with internalProcessorError := false } })
    else
      (levelZero → Trap .trapLevelZero) ∧ (¬levelZero → hstick → Trap .hstickMatch) ∧
      (¬levelZero → ¬hstick → opened →
        (cpu → Trap .cpuMondo) ∧ (¬cpu → dev → Trap .devMondo) ∧
        (∀ n, ¬cpu → ¬dev → level n → (∀ k, level k → k ≤ n) → Trap (.interruptLevel (BitVec.ofNat 4 n))) ∧
        (¬cpu → ¬dev → (∀ n, ¬level n) → resumable → Trap .resumableError)) ∧
      (¬levelZero → ¬hstick → ¬opened ∨ ¬cpu ∧ ¬dev ∧ ¬resumable ∧ (∀ n, ¬level n) →
        beforeFetch u = none)) ∧
  ∀ s : State, beforeFetch s.count = none →
    let u := s.count
    let a := if u.pstate.am then BitVec.ofNat 64 (u.pc.toNat % 2 ^ 32) else u.pc
    let ctx := if u.mmu.immuEnable = true ∧ u.tl = 0 then u.mmu.primaryContext.toNat else 0
    let kind := if u.mmu.immuEnable then AddrKind.virtualIn (if u.tl = 0 then .primary else .nucleus) else .real
    let Gives := fun (pa : Nat) =>
      if u.requests.instructionAccessError then
        step s =
          .next (takeTrap .instructionAccessError
            { u with requests := { u.requests with instructionAccessError := false } })
      else fetchAddress u = .word pa
    let Traps := fun (e : Exc) => ∃ t, step s = .next t ∧ Takes u t e ∧ t.requests = u.requests ∧
      t.mmu = { (takeTrap e u).mmu with itagAccess := t.mmu.itagAccess, isfsr := t.mmu.isfsr } ∧
      if u.tl = 6 then t.mmu = u.mmu
      else t.mmu.itagAccess = BitVec.ofNat 64 (a.toNat / 2 ^ 13 * 2 ^ 13 + ctx % 2 ^ 13)
    (u.hpstate.hpriv = true ∨ u.hpstate.red = true → Gives (u.pc.toNat % 2 ^ 56)) ∧
    (u.hpstate.hpriv = false → u.hpstate.red = false →
      (tlbLookup u.mmu.itlb u.mmu kind a = .miss →
        Traps (if u.mmu.immuEnable then .fastInstructionAccessMMUMiss else .instructionRealTranslationMiss)) ∧
      ∀ e : TlbEntry, tlbLookup u.mmu.itlb u.mmu kind a = .hit e →
        if e.data.getLsbD 8 = true ∧ u.pstate.priv = false ∨ e.data.getLsbD 7 = false ∨ e.data.getLsbD 62 = true then
          Traps .instructionAccessException
        else ∀ p ∈ pageSizes, TlbEntry.size e = p.1 → Gives (pageAddress e.data a p.2))

/-! ## Integer instructions -/

/-- ADD, ADDC, SUB and SUBC, and their cc forms with all eight condition codes, against exact integer arithmetic;
TADDcc and TSUBcc set icc.v on a tag overflow; TADDccTV and TSUBccTV raise tag_overflow instead, and otherwise do the
same (40_integer.md R400, R401, R405 to R408, R470 to R477). The order n, z, v, c in CCR is from general knowledge
(R102, log 9). -/
def Obligations.AdditionAndSubtraction : Prop :=
  (∀ (s : State) (rd rs1 : RegField) (o : Op2),
     let a := s.readR rs1
     let b := op2Value s o
     let c := carryIn s
     let add := BitVec.ofInt 64 (a.toInt + b.toInt)
     let addc := BitVec.ofInt 64 (a.toInt + b.toInt + c)
     let sub := BitVec.ofInt 64 (a.toInt - b.toInt)
     let subc := BitVec.ofInt 64 (a.toInt - b.toInt - c)
     (∃ t, exec (.add rd rs1 o) s = .next t ∧ WritesR s.advance t rd add) ∧
     (∃ t, exec (.addc rd rs1 o) s = .next t ∧ WritesR s.advance t rd addc) ∧
     (∃ t, exec (.sub rd rs1 o) s = .next t ∧ WritesR s.advance t rd sub) ∧
     (∃ t, exec (.subc rd rs1 o) s = .next t ∧ WritesR s.advance t rd subc) ∧
     (∃ t, exec (.addcc rd rs1 o) s = .next t ∧ WritesR { s.advance with ccr := exactAddCC a b 0 add } t rd add) ∧
     (∃ t, exec (.addccc rd rs1 o) s = .next t ∧ WritesR { s.advance with ccr := exactAddCC a b c addc } t rd addc) ∧
     (∃ t, exec (.subcc rd rs1 o) s = .next t ∧ WritesR { s.advance with ccr := exactSubCC a b 0 sub } t rd sub) ∧
     (∃ t, exec (.subccc rd rs1 o) s = .next t ∧ WritesR { s.advance with ccr := exactSubCC a b c subc } t rd subc)) ∧
  ∀ (s : State) (rd rs1 : RegField) (o : Op2),
    let a := s.readR rs1
    let b := op2Value s o
    let vAdd := tagOverflows a b ((a.setWidth 32).toInt + (b.setWidth 32).toInt)
    let vSub := tagOverflows a b ((a.setWidth 32).toInt - (b.setWidth 32).toInt)
    (∃ t, exec (.taddcc rd rs1 o) s = .next t ∧
      WritesR { s.advance with ccr := setIccV (exactAddCC a b 0 (a + b)) vAdd } t rd (a + b)) ∧
    (∃ t, exec (.tsubcc rd rs1 o) s = .next t ∧
      WritesR { s.advance with ccr := setIccV (exactSubCC a b 0 (a - b)) vSub } t rd (a - b)) ∧
    (vAdd = false → exec (.taddcctv rd rs1 o) s = exec (.taddcc rd rs1 o) s) ∧
    (vAdd = true → exec (.taddcctv rd rs1 o) s = .next (takeTrap .tagOverflow s)) ∧
    (vSub = false → exec (.tsubcctv rd rs1 o) s = exec (.tsubcc rd rs1 o) s) ∧
    (vSub = true → exec (.tsubcctv rd rs1 o) s = .next (takeTrap .tagOverflow s))

/-- The logical instructions, bit by bit, and the condition codes of their cc forms (40_integer.md R402, R409 to R412,
R432 to R435, R482 to R485). The order n, z, v, c in CCR is from general knowledge (R102, log 9). -/
def Obligations.LogicalOperations : Prop :=
  ∀ p ∈ ([(Instr.and, Instr.andcc, fun x y => x && y), (Instr.andn, Instr.andncc, fun x y => x && !y),
      (Instr.or, Instr.orcc, fun x y => x || y), (Instr.orn, Instr.orncc, fun x y => x || !y),
      (Instr.xor, Instr.xorcc, fun x y => x != y), (Instr.xnor, Instr.xnorcc, fun x y => x == y)] :
      List ((RegField → RegField → Op2 → Instr) × (RegField → RegField → Op2 → Instr) × (Bool → Bool → Bool))),
    ∀ (s : State) (rd rs1 : RegField) (o : Op2), ∃ r : Word,
      (∀ k, k < 64 → r.getLsbD k = p.2.2 ((s.readR rs1).getLsbD k) ((op2Value s o).getLsbD k)) ∧
      (∃ t, exec (p.1 rd rs1 o) s = .next t ∧ WritesR s.advance t rd r) ∧
      ∃ t, exec (p.2.1 rd rs1 o) s = .next t ∧ WritesR { s.advance with ccr := exactLogicCC r } t rd r

/-- The shifts: by the low five or six bits of the count; SLL shifts all 64 bits, SRL and SRA the low word (40_integer.md
R440 to R448). -/
def Obligations.Shifts : Prop :=
  (∀ (s : State) (rd rs1 : RegField) (o : Shift32),
    let n := match o with | .reg rs2 => (s.readR rs2).toNat % 32 | .imm c => c.toNat
    (∃ t, exec (.sll rd rs1 o) s = .next t ∧
      WritesR s.advance t rd (BitVec.ofNat 64 ((s.readR rs1).toNat * 2 ^ n))) ∧
    (∃ t, exec (.srl rd rs1 o) s = .next t ∧
      WritesR s.advance t rd (BitVec.ofNat 64 ((s.readR rs1).toNat % 2 ^ 32 / 2 ^ n))) ∧
    ∃ t, exec (.sra rd rs1 o) s = .next t ∧
      WritesR s.advance t rd (BitVec.ofInt 64 (((s.readR rs1).setWidth 32).toInt / 2 ^ n))) ∧
  ∀ (s : State) (rd rs1 : RegField) (o : Shift64),
    let n := match o with | .reg rs2 => (s.readR rs2).toNat % 64 | .imm c => c.toNat
    (∃ t, exec (.sllx rd rs1 o) s = .next t ∧
      WritesR s.advance t rd (BitVec.ofNat 64 ((s.readR rs1).toNat * 2 ^ n))) ∧
    (∃ t, exec (.srlx rd rs1 o) s = .next t ∧
      WritesR s.advance t rd (BitVec.ofNat 64 ((s.readR rs1).toNat / 2 ^ n))) ∧
    ∃ t, exec (.srax rd rs1 o) s = .next t ∧ WritesR s.advance t rd (BitVec.ofInt 64 ((s.readR rs1).toInt / 2 ^ n))

/-- The multiplies: MULX modulo 2^64; UMUL and SMUL of the low words with the high word of the product in Y, and the
cc forms' condition codes; MULScc, one multiply step: the shifted word plus the multiplicand if Y is odd, icc of that
32-bit addition, Y shifted, the upper half of R[rd] and xcc undefined, any value (40_integer.md R427, R428, R446,
R447, R480, R481). The order n, z, v, c in CCR is from general knowledge (R102, log 9). -/
def Obligations.Multiplication : Prop :=
  ∀ (s : State) (rd rs1 : RegField) (o : Op2),
    let a := s.readR rs1
    let b := op2Value s o
    let u := BitVec.ofNat 64 (a.toNat % 2 ^ 32 * (b.toNat % 2 ^ 32))
    let p := BitVec.ofInt 64 ((a.setWidth 32).toInt * (b.setWidth 32).toInt)
    (∃ t, exec (.mulx rd rs1 o) s = .next t ∧ WritesR s.advance t rd (BitVec.ofInt 64 (a.toInt * b.toInt))) ∧
    (∃ t, exec (.umul rd rs1 o) s = .next t ∧
      WritesR { s.advance with y := BitVec.ofNat 32 (u.toNat / 2 ^ 32) } t rd u) ∧
    (∃ t, exec (.smul rd rs1 o) s = .next t ∧
      WritesR { s.advance with y := BitVec.ofNat 32 (p.toNat / 2 ^ 32) } t rd p) ∧
    (∃ t, exec (.umulcc rd rs1 o) s = .next t ∧
      WritesR { s.advance with y := BitVec.ofNat 32 (u.toNat / 2 ^ 32), ccr := exactLogicCC u } t rd u) ∧
    (∃ t, exec (.smulcc rd rs1 o) s = .next t ∧
      WritesR { s.advance with y := BitVec.ofNat 32 (p.toNat / 2 ^ 32), ccr := exactLogicCC p } t rd p) ∧
    let sh : HWord :=
      BitVec.ofNat 32 ((if s.ccr.getLsbD 3 = s.ccr.getLsbD 1 then 0 else 2 ^ 31) + (s.readR rs1).toNat % 2 ^ 32 / 2)
    let add : HWord := if s.y.toNat % 2 = 1 then (op2Value s o).setWidth 32 else 0#32
    ∃ (t : State) (hi : HWord) (xcc : BitVec 4), exec (.mulscc rd rs1 o) s = .next t ∧
      WritesR
        { s.advance with
          ccr := xcc ++ exactCodes (sh + add) (sh.toInt + add.toInt) (decide (2 ^ 32 ≤ sh.toNat + add.toNat))
          y := BitVec.ofNat 32 ((s.readR rs1).toNat % 2 * 2 ^ 31 + s.y.toNat / 2)
          freeCount := s.freeCount + 1 } t rd (hi ++ (sh + add))

/-- The divides: quotients toward zero, the 32-bit ones of Y :: R[rs1] saturated, icc.v the overflow; Y is left
undefined by those (any value); a zero divisor raises division_by_zero (40_integer.md R429, R430, R437, R438, R478,
R479). The order n, z, v, c in CCR is from general knowledge (R102, log 9). -/
def Obligations.Division : Prop :=
  ∀ (s : State) (rd rs1 : RegField) (o : Op2),
    let a := s.readR rs1
    let b := op2Value s o
    let uq := (s.y.toNat * 2 ^ 32 + a.toNat % 2 ^ 32) / (b.toNat % 2 ^ 32)
    let sq := (s.y.toInt * 2 ^ 32 + (a.toNat % 2 ^ 32 : Nat)).tdiv (b.setWidth 32).toInt
    let u := BitVec.ofNat 64 (min uq (2 ^ 32 - 1))
    let q := BitVec.ofInt 64 (max (-(2 ^ 31)) (min sq (2 ^ 31 - 1)))
    (b ≠ 0#64 →
      (∃ t, exec (.sdivx rd rs1 o) s = .next t ∧ WritesR s.advance t rd (BitVec.ofInt 64 (a.toInt.tdiv b.toInt))) ∧
      ∃ t, exec (.udivx rd rs1 o) s = .next t ∧ WritesR s.advance t rd (BitVec.ofNat 64 (a.toNat / b.toNat))) ∧
    (b.toNat % 2 ^ 32 ≠ 0 →
      (∃ t, exec (.udiv rd rs1 o) s = .next t ∧
        WritesR { s.advance with y := t.y, freeCount := s.freeCount + 1 } t rd u) ∧
      (∃ t, exec (.sdiv rd rs1 o) s = .next t ∧
        WritesR { s.advance with y := t.y, freeCount := s.freeCount + 1 } t rd q) ∧
      (∃ t, exec (.udivcc rd rs1 o) s = .next t ∧
        WritesR { s.advance with
          y := t.y, freeCount := s.freeCount + 1, ccr := setIccV (exactLogicCC u) (decide (2 ^ 32 ≤ uq)) } t rd u) ∧
      ∃ t, exec (.sdivcc rd rs1 o) s = .next t ∧
        WritesR { s.advance with
          y := t.y, freeCount := s.freeCount + 1,
          ccr := setIccV (exactLogicCC q) (decide (2 ^ 31 ≤ sq ∨ sq < -(2 ^ 31))) } t rd q) ∧
    (b = 0#64 → exec (.sdivx rd rs1 o) s = .next (takeTrap .divisionByZero s) ∧
      exec (.udivx rd rs1 o) s = .next (takeTrap .divisionByZero s)) ∧
    (b.toNat % 2 ^ 32 = 0 → exec (.udiv rd rs1 o) s = .next (takeTrap .divisionByZero s) ∧
      exec (.sdiv rd rs1 o) s = .next (takeTrap .divisionByZero s) ∧
      exec (.udivcc rd rs1 o) s = .next (takeTrap .divisionByZero s) ∧
      exec (.sdivcc rd rs1 o) s = .next (takeTrap .divisionByZero s))

/-- SETHI puts imm22 into bits 31:10; NOP, MEMBAR, STBAR, FLUSH and a PREFETCH of a kind that is not reserved only
advance (40_integer.md R431, R439; 42_loadstore.md R615 to R622). That the barriers and FLUSH do nothing more is the
model's choice for one strand (log 5), after the spec's decisions D19 for PREFETCH, D22 for STBAR and D33 for the
fetch. -/
def Obligations.SethiAndHints : Prop :=
  ∀ s : State,
    (∀ (rd : RegField) (imm : BitVec 22),
      ∃ t, exec (.sethi rd imm) s = .next t ∧ WritesR s.advance t rd (BitVec.ofNat 64 (imm.toNat * 1024))) ∧
    exec .nop s = .next s.advance ∧ exec .stbar s = .next s.advance ∧
    (∀ c m, exec (.membar c m) s = .next s.advance) ∧ (∀ rs1 o, exec (.flush rs1 o) s = .next s.advance) ∧
    ∀ (fcn : BitVec 5) (rs1 : RegField), fcn.toNat ≤ 4 ∨ 16 ≤ fcn.toNat →
      (∀ o, exec (.prefetch fcn rs1 o) s = .next s.advance) ∧ ∀ o, exec (.prefetcha fcn rs1 o) s = .next s.advance

/-- MOVcc and MOVr move the second operand when the condition holds and do nothing else; the floating-point forms need
the FPU (40_integer.md R413 to R426; 41_control.md R501 to R503). That the integer forms complete with the FPU off is
the spec's own decision D15, not its source's. The order n, z, v, c in CCR is from general knowledge (R102, log 9). -/
def Obligations.ConditionalMoves : Prop :=
  ∀ s : State,
    (∀ row ∈ integerConditions, ∀ (rd : RegField) (cc : IntCC) (o : Op2x11),
      (row.holds s cc = true → ∃ t, exec (row.move rd cc o) s = .next t ∧ WritesR s.advance t rd (op2Value s o)) ∧
      (row.holds s cc = false → exec (row.move rd cc o) s = .next s.advance)) ∧
    (∀ row ∈ fpConditions, ∀ (rd : RegField) (n : FccSel) (o : Op2x11),
      (s.fpEnabled = true → fccValue s n ∈ row.accepts →
        ∃ t, exec (row.move rd n o) s = .next t ∧ WritesR s.advance t rd (op2Value s o)) ∧
      (s.fpEnabled = true → fccValue s n ∉ row.accepts → exec (row.move rd n o) s = .next s.advance) ∧
      (s.fpEnabled = false → exec (row.move rd n o) s = .next (takeTrap .fpDisabled s))) ∧
    ∀ row ∈ registerConditions, ∀ (rd rs1 : RegField) (o : Op2x10),
      (row.test (s.readR rs1).toInt = true →
        ∃ t, exec (row.move rd rs1 o) s = .next t ∧ WritesR s.advance t rd (op2Value s o)) ∧
      (row.test (s.readR rs1).toInt = false → exec (row.move rd rs1 o) s = .next s.advance)

/-! ## Control transfer -/

/-- The branches: taken or not, with the delay instruction annulled when a = 1 and the branch is not taken; the branch
always with a = 1 goes straight to the target, with no delay instruction. The floating-point ones need the FPU
(41_control.md R500 to R504, R510 to R516, R519 to R524). That a branch in the delay slot of another control transfer
follows these same rules, npc being any address, is the spec's own decision D58 (70_reset_and_hazards.md R1270; log 24).
The order n, z, v, c in CCR is from general knowledge (R102, log 9). -/
def Obligations.Branches : Prop :=
  ∀ (s : State) (a : Bool),
    let Outcome := fun (cond : BitVec 4) (taken : Bool) (ea : Word) =>
      if cond = 8#4 ∧ a = true then { s with pc := ea, npc := ea + 4#64 } else branchOutcome s taken a ea
    (∀ row ∈ integerConditions,
      (∀ d : BitVec 22,
        exec (row.branch a d) s = .next (Outcome row.cond (row.holds s .icc) (targetOf s d.toInt))) ∧
      ∀ (cc : IntCC) (p : Bool) (d : BitVec 19),
        exec (row.predicted a cc p d) s = .next (Outcome row.cond (row.holds s cc) (targetOf s d.toInt))) ∧
    (∀ row ∈ registerConditions, ∀ (p : Bool) (rs1 : RegField) (d : BitVec 16),
      exec (row.branch a p rs1 d) s =
        .next (branchOutcome s (row.test (s.readR rs1).toInt) a (targetOf s d.toInt))) ∧
    ∀ row ∈ fpConditions,
      (s.fpEnabled = true →
        (∀ d : BitVec 22,
          exec (row.branch a d) s =
            .next (Outcome row.cond (decide (s.fsr.fcc0 ∈ row.accepts)) (targetOf s d.toInt))) ∧
        ∀ (n : FccSel) (p : Bool) (d : BitVec 19),
          exec (row.predicted a n p d) s =
            .next (Outcome row.cond (decide (fccValue s n ∈ row.accepts)) (targetOf s d.toInt))) ∧
      (s.fpEnabled = false →
        (∀ d, exec (row.branch a d) s = .next (takeTrap .fpDisabled s)) ∧
        ∀ n p d, exec (row.predicted a n p d) s = .next (takeTrap .fpDisabled s))

/-- CALL and JMPL write their own address, masked by PSTATE.am, and transfer after the delay instruction; RETURN
restores the window instead; an unaligned target traps (41_control.md R517, R526, R528). That an unaligned target
writes no D-SFAR is the model's choice (log 23, D37); that npc gets the whole target, masked by PSTATE.am only where it
is used, is 10_state.md R60 and 11_state_privileged.md R185 and R190 against the printed operations of R526 and R528 (log
31); in window states the spec leaves undefined RETURN follows the printed operation (log 21); that CALL, JMPL and RETURN in the delay slot of another control transfer follow these same rules, npc being any
address, is the spec's own decision D58 (70_reset_and_hazards.md R1270; log 24). -/
def Obligations.CallsJumpsAndReturns : Prop :=
  ∀ s : State,
    let Low := fun a : Word => BitVec.ofNat 64 (a.toNat % 2 ^ 32)
    let link := if s.pstate.am then Low s.pc else s.pc
    (∀ d : BitVec 30, ∃ t, exec (.call d) s = .next t ∧
      WritesR { s with pc := s.npc, npc := targetOf s d.toInt } t 15#5 link) ∧
    ∀ (x rs1 : RegField) (o : Op2),
      let ea := s.readR rs1 + op2Value s o
      (ea.toNat % 4 = 0 →
        (∃ t, exec (.jmpl x rs1 o) s = .next t ∧ WritesR { s with pc := s.npc, npc := ea } t x link) ∧
        (s.win.canrestore ≠ 0#3 →
          exec (.return_ x rs1 o) s =
            .next { s with
              pc := s.npc
              npc := ea
              win :=
                { s.win with
                  cwp := s.win.cwp - 1#3, canrestore := s.win.canrestore - 1#3, cansave := s.win.cansave + 1#3 } })) ∧
      (ea.toNat % 4 ≠ 0 →
        exec (.jmpl x rs1 o) s = .next (takeTrap .memAddressNotAligned s) ∧
        (s.win.canrestore ≠ 0#3 → exec (.return_ x rs1 o) s = .next (takeTrap .memAddressNotAligned s))) ∧
      (s.win.canrestore = 0#3 → exec (.return_ x rs1 o) s = .next (takeTrap s.fillExc s))

/-- Tcc: when the condition holds, a software trap whose number is the low seven bits of the sum in nonprivileged mode
and the low eight above it, to hyperprivileged mode from 128 up or in that mode; otherwise nothing (41_control.md R529
to R532). That imm_trap_# enters the sum as an unsigned number is the spec's own decision D18. The order n, z, v, c in
CCR is from general knowledge (R102, log 9). -/
def Obligations.TrapOnCondition : Prop :=
  ∀ row ∈ integerConditions, ∀ (s : State) (cc : IntCC) (rs1 : RegField) (o : Op2x8),
    let n := (s.readR rs1).toNat + (match o with | .reg rs2 => (s.readR rs2).toNat | .imm v => v.toNat)
    (row.holds s cc = false → exec (row.trap cc rs1 o) s = .next s.advance) ∧
    (row.holds s cc = true →
      (s.mode = .nonprivileged →
        exec (row.trap cc rs1 o) s = .next (takeTrap (.trapInstruction (BitVec.ofNat 8 (n % 128))) s)) ∧
      (s.mode = .privileged → n % 256 < 128 →
        exec (row.trap cc rs1 o) s = .next (takeTrap (.trapInstruction (BitVec.ofNat 8 n)) s)) ∧
      (s.mode = .privileged → 128 ≤ n % 256 →
        exec (row.trap cc rs1 o) s = .next (takeTrap (.htrapInstruction (BitVec.ofNat 8 n)) s)) ∧
      (s.mode = .hyperprivileged →
        exec (row.trap cc rs1 o) s = .next (takeTrap (.htrapInstruction (BitVec.ofNat 8 n)) s)))

/-- The instructions whose effect is illegal_instruction, in every mode: ILLTRAP, and those the hardware leaves to
software (41_control.md R525; 40_integer.md R436; 43_fp_loadstore.md R664, R677; 44_window_state.md R735 to R738,
R796; 46_vis.md R905, R959). For the window and VIS instructions that is the spec's decision D26, for IMPDEP2 D28 (log
25); for FMUL8, FPACK and FPMERGE it is their page's sentence, the default of their switch (R906 to R915, R920; D7, log
25). -/
def Obligations.InstructionsLeftToSoftware : Prop :=
  (∀ i ∈ [Instr.allclean, Instr.otherw, Instr.normalw, Instr.invalw], ∀ s : State,
    exec i s = .next (takeTrap .illegalInstruction s)) ∧
  (∀ f ∈ [Instr.fexpand, Instr.fmul8x16, Instr.fmul8x16au, Instr.fmul8x16al, Instr.fmul8sux16, Instr.fmul8ulx16,
      Instr.fmuld8sux16, Instr.fmuld8ulx16, Instr.fpack16, Instr.fpack32, Instr.fpackfix, Instr.fpmerge, Instr.pdist,
      Instr.shutdown], ∀ (s : State) (rd rs1 rs2 : RegField),
    exec (f rd rs1 rs2) s = .next (takeTrap .illegalInstruction s)) ∧
  (∀ f ∈ [Instr.ldqf, Instr.stqf], ∀ (s : State) (rd rs1 : RegField) (o : Op2),
    exec (f rd rs1 o) s = .next (takeTrap .illegalInstruction s)) ∧
  (∀ f ∈ [Instr.ldqfa, Instr.stqfa], ∀ (s : State) (rd rs1 : RegField) (o : AsiOp2),
    exec (f rd rs1 o) s = .next (takeTrap .illegalInstruction s)) ∧
  (∀ (s : State) (x : RegField) (c : BitVec 22), exec (.illtrap x c) s = .next (takeTrap .illegalInstruction s)) ∧
  (∀ (s : State) (rd : RegField) (o : Op2), exec (.popc rd o) s = .next (takeTrap .illegalInstruction s)) ∧
  (∀ (s : State) (x : RegField) (m : BitVec 12) (y : BitVec 5),
    exec (.impdep2a x m y) s = .next (takeTrap .illegalInstruction s)) ∧
  ∀ (s : State) (x : RegField) (m : BitVec 12) (k : BitVec 2) (y : BitVec 5),
    exec (.impdep2b x m k y) s = .next (takeTrap .illegalInstruction s)

/-! ## Windows -/

/-- SAVE and RESTORE add in the old window, move the window and write the new one's R[rd]; without a window to save or
restore, or a clean one, they raise spill, fill or clean_window. FLUSHW does nothing when CANSAVE = N_REG_WINDOWS - 2
and spills otherwise; SAVED and RESTORED count a window spilled or filled, in privileged modes (44_window_state.md
R730 to R734). RESTORED's condition and its CLEANWIN step are from general knowledge (log 9, D27); window states the
spec leaves undefined follow the printed operations (log 21), and clean windows trap (D42). -/
def Obligations.SaveAndRestore : Prop :=
  (∀ (s : State) (rd rs1 : RegField) (o : Op2),
     let v := s.readR rs1 + op2Value s o
     (s.win.cansave ≠ 0#3 → s.win.cleanwin ≠ s.win.canrestore →
       ∃ t, exec (.save rd rs1 o) s = .next t ∧
         WritesR { s.advance with
           win :=
             { s.win with
               cwp := s.win.cwp + 1#3, cansave := s.win.cansave - 1#3, canrestore := s.win.canrestore + 1#3 } } t rd v) ∧
     (s.win.cansave = 0#3 → exec (.save rd rs1 o) s = .next (takeTrap s.spillExc s)) ∧
     (s.win.cansave ≠ 0#3 → s.win.cleanwin = s.win.canrestore →
       exec (.save rd rs1 o) s = .next (takeTrap .cleanWindow s)) ∧
     (s.win.canrestore ≠ 0#3 →
       ∃ t, exec (.restore rd rs1 o) s = .next t ∧
         WritesR { s.advance with
           win :=
             { s.win with
               cwp := s.win.cwp - 1#3, canrestore := s.win.canrestore - 1#3, cansave := s.win.cansave + 1#3 } } t rd v) ∧
     (s.win.canrestore = 0#3 → exec (.restore rd rs1 o) s = .next (takeTrap s.fillExc s)) ∧
     s.spillExc.tt.toNat =
       (if s.win.otherwin = 0#3 then 0x080 + 4 * s.win.wstateNormal.toNat else 0x0A0 + 4 * s.win.wstateOther.toNat) ∧
     s.fillExc.tt.toNat =
       (if s.win.otherwin = 0#3 then 0x0C0 + 4 * s.win.wstateNormal.toNat else 0x0E0 + 4 * s.win.wstateOther.toNat)) ∧
  ∀ s : State,
    (∀ i, s.win.cansave = 6#3 → exec (.flushw i) s = .next s.advance) ∧
    (∀ i, s.win.cansave ≠ 6#3 → exec (.flushw i) s = .next (takeTrap s.spillExc s)) ∧
    (s.isUser = true → exec .saved s = .next (takeTrap .privilegedOpcode s) ∧
      exec .restored s = .next (takeTrap .privilegedOpcode s)) ∧
    (s.isUser = false →
      exec .saved s =
        .next { s.advance with
          win :=
            if s.win.otherwin = 0#3 then
              { s.win with cansave := s.win.cansave + 1#3, canrestore := s.win.canrestore - 1#3 }
            else { s.win with cansave := s.win.cansave + 1#3, otherwin := s.win.otherwin - 1#3 } } ∧
      ∃ t, exec .restored s = .next t ∧
        t.win.canrestore = s.win.canrestore + 1#3 ∧ t.win.cleanwin.toNat = min (s.win.cleanwin.toNat + 1) 7 ∧
        (s.win.otherwin = 0#3 → t.win.cansave = s.win.cansave - 1#3 ∧ t.win.otherwin = 0#3) ∧
        (s.win.otherwin ≠ 0#3 → t.win.otherwin = s.win.otherwin - 1#3 ∧ t.win.cansave = s.win.cansave) ∧
        t = { s.advance with
          win :=
            { s.win with
              cansave := t.win.cansave, canrestore := t.win.canrestore, otherwin := t.win.otherwin,
              cleanwin := t.win.cleanwin } })

/-! ## State registers -/

/-- The reads of the ancillary state registers, in the modes that may make them (44_window_state.md R740 to R752): the
field values at their places. That PCR's implementation-dependent bits 47:32, 26:17 and 3 read back is log 15; places
that rest on general knowledge are log 9. -/
def Obligations.AncillaryReads : Prop :=
  ∀ (s : State) (rd : RegField),
    (∃ t, exec (.rdy rd) s = .next t ∧ WritesR s.advance t rd (BitVec.ofNat 64 s.y.toNat)) ∧
    (∃ t, exec (.rdccr rd) s = .next t ∧ WritesR s.advance t rd (BitVec.ofNat 64 s.ccr.toNat)) ∧
    (∃ t, exec (.rdasi rd) s = .next t ∧ WritesR s.advance t rd (BitVec.ofNat 64 s.asi.toNat)) ∧
    (∃ t, exec (.rdpc rd) s = .next t ∧
      WritesR s.advance t rd (if s.pstate.am then BitVec.ofNat 64 (s.pc.toNat % 2 ^ 32) else s.pc)) ∧
    (∃ t, exec (.rdfprs rd) s = .next t ∧
      WritesR s.advance t rd
        (BitVec.ofNat 64 (4 * s.fprs.fef.toNat + 2 * s.fprs.du.toNat + s.fprs.dl.toNat))) ∧
    (s.isUser = false ∨ s.tick.npt = false → ∃ t, exec (.rdtick rd) s = .next t ∧
      WritesR s.advance t rd (BitVec.ofNat 64 (s.tick.npt.toNat * 2 ^ 63 + s.tick.counter.toNat))) ∧
    (s.isUser = false ∨ s.stick.npt = false → ∃ t, exec (.rdstick rd) s = .next t ∧
      WritesR s.advance t rd (BitVec.ofNat 64 (s.stick.npt.toNat * 2 ^ 63 + s.stick.counter.toNat))) ∧
    (s.isUser = false ∨ s.pcr.priv = false → ∃ t, exec (.rdpic rd) s = .next t ∧
      WritesR s.advance t rd (BitVec.ofNat 64 (s.pic.picu.toNat * 2 ^ 32 + s.pic.picl.toNat))) ∧
    (s.fpEnabled = true → ∃ t, exec (.rdgsr rd) s = .next t ∧
      WritesR s.advance t rd
        (BitVec.ofNat 64 (s.gsr.mask.toNat * 2 ^ 32 + s.gsr.im.toNat * 2 ^ 27 + s.gsr.irnd.toNat * 2 ^ 25 +
          s.gsr.scale.toNat * 8 + s.gsr.align.toNat))) ∧
    (s.isUser = false →
      (∃ t, exec (.rdpcr rd) s = .next t ∧
        WritesR s.advance t rd
          (BitVec.ofNat 64
            (s.pcr.impl47.toNat * 2 ^ 32 + s.pcr.impl26.toNat * 2 ^ 17 + s.pcr.su.toNat * 2 ^ 11 + s.pcr.sl.toNat * 16 +
              8 * s.pcr.impl3.toNat + 4 * s.pcr.ut.toNat + 2 * s.pcr.st.toNat + s.pcr.priv.toNat))) ∧
      (∃ t, exec (.rdsoftint rd) s = .next t ∧ WritesR s.advance t rd (BitVec.ofNat 64 s.softint.toNat)) ∧
      (∃ t, exec (.rdtick_cmpr rd) s = .next t ∧
        WritesR s.advance t rd (BitVec.ofNat 64 (s.tickCmpr.intDis.toNat * 2 ^ 63 + s.tickCmpr.value.toNat))) ∧
      ∃ t, exec (.rdstick_cmpr rd) s = .next t ∧
        WritesR s.advance t rd (BitVec.ofNat 64 (s.stickCmpr.intDis.toNat * 2 ^ 63 + s.stickCmpr.value.toNat)))

/-- The writes of the ancillary state registers: the exclusive or of R[rs1] and Op2, its fields into the register, in
the modes that may make them (44_window_state.md R721, R760 to R772). That a write of PCR stores its implementation-
dependent bits 47:32, 26:17 and 3 is log 15. -/
def Obligations.AncillaryWrites : Prop :=
  ∀ (s : State) (rs1 : RegField) (o : Op2),
    let v := s.readR rs1 ^^^ op2Value s o
    exec (.wry rs1 o) s = .next { s.advance with y := BitVec.ofNat 32 v.toNat } ∧
    exec (.wrccr rs1 o) s = .next { s.advance with ccr := BitVec.ofNat 8 v.toNat } ∧
    exec (.wrasi rs1 o) s = .next { s.advance with asi := BitVec.ofNat 8 v.toNat } ∧
    exec (.wrfprs rs1 o) s =
      .next { s.advance with fprs := { fef := v.getLsbD 2, du := v.getLsbD 1, dl := v.getLsbD 0 } } ∧
    (s.isUser = false ∨ s.pcr.priv = false →
      exec (.wrpic rs1 o) s =
        .next { s.advance with
          pic := { picu := BitVec.ofNat 32 (v.toNat / 2 ^ 32), picl := BitVec.ofNat 32 v.toNat } }) ∧
    (s.fpEnabled = true →
      exec (.wrgsr rs1 o) s =
        .next { s.advance with
          gsr :=
            { mask := BitVec.ofNat 32 (v.toNat / 2 ^ 32), im := v.getLsbD 27, irnd := BitVec.ofNat 2 (v.toNat / 2 ^ 25),
              scale := BitVec.ofNat 5 (v.toNat / 8), align := BitVec.ofNat 3 v.toNat } }) ∧
    (s.isUser = false →
      exec (.wrpcr rs1 o) s =
        .next { s.advance with
          pcr :=
            { impl47 := BitVec.ofNat 16 (v.toNat / 2 ^ 32), impl26 := BitVec.ofNat 10 (v.toNat / 2 ^ 17),
              su := BitVec.ofNat 6 (v.toNat / 2 ^ 11), sl := BitVec.ofNat 6 (v.toNat / 16), impl3 := v.getLsbD 3,
              ut := v.getLsbD 2, st := v.getLsbD 1, priv := v.getLsbD 0 } } ∧
      exec (.wrsoftint rs1 o) s = .next { s.advance with softint := BitVec.ofNat 17 v.toNat } ∧
      exec (.wrsoftint_set rs1 o) s = .next { s.advance with softint := s.softint ||| BitVec.ofNat 17 v.toNat } ∧
      exec (.wrsoftint_clr rs1 o) s = .next { s.advance with softint := s.softint &&& ~~~BitVec.ofNat 17 v.toNat } ∧
      exec (.wrtick_cmpr rs1 o) s =
        .next { s.advance with tickCmpr := { intDis := v.getLsbD 63, value := BitVec.ofNat 63 v.toNat } } ∧
      exec (.wrstick_cmpr rs1 o) s =
        .next { s.advance with stickCmpr := { intDis := v.getLsbD 63, value := BitVec.ofNat 63 v.toNat } }) ∧
    (s.hpstate.hpriv = true →
      exec (.wrstick rs1 o) s =
        .next { s.advance with stick := { npt := v.getLsbD 63, counter := BitVec.ofNat 63 v.toNat } })

/-- A privileged register read after it was written gives the written value's implemented bits, and the write changes
that register and nothing else: a write of TL neither PSTATE, HPSTATE, GL, CWP nor the trap stack, so that only TPC,
TNPC, TSTATE and TT then read otherwise; a write of one of those four only it, at the current trap level, HTSTATE
kept. What RDPR and RDHPR read, field by field at its place, in the words of PSTATE, TSTATE, WSTATE, HPSTATE and the
others. TL and GL are limited by the mode; the registers of the trap stack exist at TL > 0 only; TICK is written in
hyperprivileged mode only. The same of the hyperprivileged registers, in hyperprivileged mode only; HVER is the
constant of the implementation, read-only (44_window_state.md R775, R776, R780, R781, R785, R786, R790, R791;
11_state_privileged.md R161 to R167, R170 to R174, R180, R195 to R197, R201, R210 to R214). The positions behind the masks
0x131E and 0x425, WSTATE, PIL, HINTP and the mask of TSTATE are from general knowledge (log 9), as is the layout behind
HVER's 0x30607, whose manuf, impl and mask are the defaults of R6 (log 8), with the spec's decisions D32 for PSTATE.mm
and D50 for TSTATE. -/
def Obligations.PrivilegedRegisterWriteRead : Prop :=
  (∀ s : State,
    let pstate :=
      s.pstate.tct.toNat * 2 ^ 12 + s.pstate.cle.toNat * 2 ^ 9 + s.pstate.tle.toNat * 2 ^ 8 + s.pstate.pef.toNat * 2 ^ 4 +
        s.pstate.am.toNat * 2 ^ 3 + s.pstate.priv.toNat * 2 ^ 2 + s.pstate.ie.toNat * 2
    let hpstate :=
      s.hpstate.ibe.toNat * 2 ^ 10 + s.hpstate.red.toNat * 2 ^ 5 + s.hpstate.hpriv.toNat * 2 ^ 2 + s.hpstate.tlz.toNat
    (∀ n : Fin 6, n.val + 1 = s.tl.val →
      let e := s.traps.get n
      prRead s .tpc = e.tpc ∧ prRead s .tnpc = e.tnpc ∧
      (prRead s .tstate).toNat =
        e.tstate.gl.toNat * 2 ^ 40 + e.tstate.ccr.toNat * 2 ^ 32 + e.tstate.asi.toNat * 2 ^ 24 +
          e.tstate.pstate.toNat * 2 ^ 8 + e.tstate.cwp.toNat ∧
      (prRead s .tt).toNat = e.tt.toNat ∧ (hprRead s .htstate).toNat = e.htstate.toNat) ∧
    s.pstate.bits.toNat = pstate ∧ (prRead s .pstate).toNat = pstate ∧
    s.hpstate.bits.toNat = hpstate ∧ (hprRead s .hpstate).toNat = hpstate ∧
    (prRead s .tick).toNat = s.tick.npt.toNat * 2 ^ 63 + s.tick.counter.toNat ∧
    (prRead s .tba).toNat = s.tba.toNat * 2 ^ 15 ∧ (prRead s .tl).toNat = s.tl.val ∧
    (prRead s .pil).toNat = s.pil.toNat ∧ (prRead s .cwp).toNat = s.win.cwp.toNat ∧
    (prRead s .cansave).toNat = s.win.cansave.toNat ∧ (prRead s .canrestore).toNat = s.win.canrestore.toNat ∧
    (prRead s .cleanwin).toNat = s.win.cleanwin.toNat ∧ (prRead s .otherwin).toNat = s.win.otherwin.toNat ∧
    (prRead s .wstate).toNat = s.win.wstateOther.toNat * 2 ^ 3 + s.win.wstateNormal.toNat ∧
    (prRead s .gl).toNat = s.gl.val ∧ (hprRead s .hintp).toNat = s.hsp.toNat ∧
    (hprRead s .htba).toNat = s.htba.toNat * 2 ^ 14 ∧
    (hprRead s .hstickCmpr).toNat = s.hstickCmpr.intDis.toNat * 2 ^ 63 + s.hstickCmpr.value.toNat) ∧
  (∀ (s : State) (pr : PrivReg) (rd rs1 : RegField) (o : Op2), s.isUser = false →
     (s.tl = 0 → pr ∉ [.tpc, .tnpc, .tstate, .tt]) →
     let v := s.readR rs1 ^^^ op2Value s o
     (∃ t, exec (.rdpr rd pr) s = .next t ∧ WritesR s.advance t rd (prRead s pr)) ∧
     ((pr = .tick → s.hpstate.hpriv = true) → ∃ t, exec (.wrpr pr rs1 o) s = .next t ∧ t.pc = s.npc ∧
       t.npc = s.npc + 4#64 ∧ t.globals = s.globals ∧ t.windows = s.windows ∧ t.mem = s.mem ∧
       (∀ q, q ≠ pr → (pr = .tl → q ∉ [.tpc, .tnpc, .tstate, .tt]) → prRead t q = prRead s q) ∧
       (match pr with
         | .tpc | .tnpc | .tstate | .tt =>
           t = { s.advance with traps := t.traps } ∧ t.trapEntry.htstate = s.trapEntry.htstate ∧
             ∀ n : Fin 6, n.val + 1 ≠ s.tl.val → t.traps.get n = s.traps.get n
         | .tick => t = { s.advance with tick := t.tick }
         | .tba => t = { s.advance with tba := t.tba }
         | .pstate => t = { s.advance with pstate := t.pstate }
         | .tl => t = { s.advance with tl := t.tl }
         | .pil => t = { s.advance with pil := t.pil }
         | .cwp => t = { s.advance with win := { s.win with cwp := t.win.cwp } }
         | .cansave => t = { s.advance with win := { s.win with cansave := t.win.cansave } }
         | .canrestore => t = { s.advance with win := { s.win with canrestore := t.win.canrestore } }
         | .cleanwin => t = { s.advance with win := { s.win with cleanwin := t.win.cleanwin } }
         | .otherwin => t = { s.advance with win := { s.win with otherwin := t.win.otherwin } }
         | .wstate =>
           t = { s.advance with
             win := { s.win with wstateOther := t.win.wstateOther, wstateNormal := t.win.wstateNormal } }
         | .gl => t = { s.advance with gl := t.gl }) ∧
       (prRead t pr).toNat =
         match pr with
         | .tpc | .tnpc => v.toNat / 4 * 4
         | .tstate => (v &&& 0x000007FFFF1FFF1F#64).toNat
         | .tt => v.toNat % 2 ^ 9
         | .tick => v.toNat
         | .tba => v.toNat / 2 ^ 15 * 2 ^ 15
         | .pstate => (v &&& 0x131E#64).toNat
         | .tl => min (v.toNat % 8) (if s.hpstate.hpriv then 6 else 2)
         | .gl => min (v.toNat % 8) (if s.hpstate.hpriv then 3 else 2)
         | .pil => v.toNat % 16
         | .wstate => v.toNat % 64
         | .cwp | .cansave | .canrestore | .cleanwin | .otherwin => v.toNat % 8)) ∧
  ∀ (s : State) (h : HyperReg) (rd rs1 : RegField) (o : Op2),
    let v := s.readR rs1 ^^^ op2Value s o
    (s.hpstate.hpriv = false →
      exec (.rdhpr rd h) s = .next (takeTrap .illegalInstruction s) ∧
      exec (.wrhpr h rs1 o) s = .next (takeTrap .illegalInstruction s)) ∧
    (s.hpstate.hpriv = true → (h = .htstate → s.tl ≠ 0) →
      (∃ t, exec (.rdhpr rd h) s = .next t ∧ WritesR s.advance t rd (hprRead s h)) ∧
      (h = .hver → hprRead s h = 0x0000000000030607#64) ∧
      (h ≠ .hver → ∃ t, exec (.wrhpr h rs1 o) s = .next t ∧ t.pc = s.npc ∧ t.npc = s.npc + 4#64 ∧ t.mem = s.mem ∧
        (∀ q, q ≠ h → hprRead t q = hprRead s q) ∧
        (match h with
          | .hpstate => t = { s.advance with hpstate := t.hpstate }
          | .htstate =>
            t = { s.advance with traps := t.traps } ∧
              t.trapEntry = { s.trapEntry with htstate := t.trapEntry.htstate } ∧
              ∀ n : Fin 6, n.val + 1 ≠ s.tl.val → t.traps.get n = s.traps.get n
          | .hintp => t = { s.advance with hsp := t.hsp }
          | .htba => t = { s.advance with htba := t.htba }
          | .hver => True
          | .hstickCmpr => t = { s.advance with hstickCmpr := t.hstickCmpr }) ∧
        (hprRead t h).toNat =
          match h with
          | .hpstate => (v &&& 0x425#64).toNat
          | .htstate => v.toNat % 2 ^ 11
          | .hintp => v.toNat % 2
          | .htba => v.toNat / 2 ^ 14 * 2 ^ 14
          | .hver => 0x30607
          | .hstickCmpr => v.toNat))

/-- Where the mode or a lock forbids an access: privileged_opcode, privileged_action, illegal_instruction or
fp_disabled, and nothing done (44_window_state.md R743, R747, R751, R759, R771, R775, R780, R785, R790). -/
def Obligations.ForbiddenStateRegisterAccesses : Prop :=
  ∀ (s : State) (rd rs1 : RegField) (o : Op2),
    (s.isUser = true →
      (∀ i ∈ [Instr.rdpcr rd, .rdsoftint rd, .rdtick_cmpr rd, .rdstick_cmpr rd, .wrpcr rs1 o, .wrsoftint rs1 o,
          .wrsoftint_set rs1 o, .wrsoftint_clr rs1 o, .wrtick_cmpr rs1 o, .wrstick_cmpr rs1 o],
        exec i s = .next (takeTrap .privilegedOpcode s)) ∧
      (∀ pr, exec (.rdpr rd pr) s = .next (takeTrap .privilegedOpcode s) ∧
        exec (.wrpr pr rs1 o) s = .next (takeTrap .privilegedOpcode s)) ∧
      (s.tick.npt = true → exec (.rdtick rd) s = .next (takeTrap .privilegedAction s)) ∧
      (s.stick.npt = true → exec (.rdstick rd) s = .next (takeTrap .privilegedAction s)) ∧
      (s.pcr.priv = true → exec (.rdpic rd) s = .next (takeTrap .privilegedAction s) ∧
        exec (.wrpic rs1 o) s = .next (takeTrap .privilegedAction s))) ∧
    (s.hpstate.hpriv = false → exec (.wrstick rs1 o) s = .next (takeTrap .illegalInstruction s)) ∧
    (s.isUser = false → s.tl = 0 → ∀ pr ∈ [PrivReg.tpc, .tnpc, .tstate, .tt],
      exec (.rdpr rd pr) s = .next (takeTrap .illegalInstruction s) ∧
      exec (.wrpr pr rs1 o) s = .next (takeTrap .illegalInstruction s)) ∧
    (s.hpstate.hpriv = true → s.tl = 0 →
      exec (.rdhpr rd .htstate) s = .next (takeTrap .illegalInstruction s) ∧
      exec (.wrhpr .htstate rs1 o) s = .next (takeTrap .illegalInstruction s)) ∧
    (s.mode = .privileged → exec (.wrpr .tick rs1 o) s = .next (takeTrap .illegalInstruction s)) ∧
    (s.fpEnabled = false → exec (.rdgsr rd) s = .next (takeTrap .fpDisabled s) ∧
      exec (.wrgsr rs1 o) s = .next (takeTrap .fpDisabled s))

/-! ## Data accesses -/

/-- Where an implicit-ASI access goes: in hyperprivileged mode or RED_state to the physical address, bits 55:0;
otherwise through the TLB entry that matches, its page frame with the offset in the page, TTE.ie inverting the byte
order; and its exceptions in their order: alignment, a miss, then the page's protections (20_memory.md R1309;
22_mmu.md R1450, R1451, R1452, R1456, R1462). Stated for PSTATE.am = 0, the DMMU on and 8 KiB pages:
AddressSpacesAndRefusedAccesses says the rest. Which entry matches, for an access or a fetch of any kind and context: the
one valid entry of the current partition, real for a real address, of the primary or secondary context register or of
context 0 for a virtual one, whose page holds the address; with no such entry a miss, with two of them neither (22_mmu.md
R1452, R1454, R1455). That watchpoints never fire and 256-MByte pages exist is log 8, that am does not mask physical
addresses D51, the MMU enables and RED_state D38 and D39, the TLB as a set of entries D37. -/
def Obligations.ImplicitAccess : Prop :=
  (∀ (tlb : List TlbEntry) (m : MmuState) (k : AddrKind) (a : Word),
     (tlbLookup tlb m k a = .miss ↔ ∀ e ∈ tlb, ¬entryMatches m k a e) ∧
     ∀ e : TlbEntry, tlbLookup tlb m k a = .hit e ↔
       ∃ before after, tlb = before ++ e :: after ∧ entryMatches m k a e ∧
         ∀ f ∈ before ++ after, ¬entryMatches m k a f) ∧
  (∀ (s : State) (cls : InstrClass) (addr : Word) (n : Nat), n ∈ [1, 2, 4, 8] → addr.toNat % n = 0 →
     s.requests.dataAccessError = false →
     (s.hpstate.hpriv = true ∨ s.hpstate.red = true →
       cls ∈ [.load, .store, .atomic] ∨ cls ∈ [.loadD, .storeD] ∧ n = 8 →
       dataAccess s { cls, asi := none, addr, size := n } = .memory (addr.toNat % 2 ^ 56) s.pstate.cle) ∧
     (s.hpstate.hpriv = false → s.hpstate.red = false → s.mmu.dmmuEnable = true → s.pstate.am = false →
       cls ∈ [.load, .store, .atomic] ∨ cls ∈ [.loadD, .storeD] ∧ n = 8 →
       ∀ e : TlbEntry, tlbLookup s.mmu.dtlb s.mmu (.virtualIn (if s.tl = 0 then .primary else .nucleus)) addr = .hit e →
         (e.privilegedPage = true → s.pstate.priv = true) → e.nfo = false → (cls = .atomic → e.cacheable = true) →
         (cls ∈ [.store, .storeD, .atomic] → e.writable = true) → TlbEntry.size e = 0#4 →
         dataAccess s { cls, asi := none, addr, size := n } =
           .memory (e.data.toNat / 2 ^ 13 % 2 ^ 43 * 2 ^ 13 + addr.toNat % 2 ^ 13)
             (s.pstate.cle != e.data.getLsbD 12))) ∧
  ∀ (s : State) (cls : InstrClass) (addr : Word) (n : Nat), n ∈ [1, 2, 4, 8] → s.hpstate.hpriv = false →
    s.hpstate.red = false → s.mmu.dmmuEnable = true → s.pstate.am = false →
    (cls ∈ [.load, .store, .atomic] → addr.toNat % n ≠ 0 →
      dataAccess s { cls, asi := none, addr, size := n } = .trap .memAddressNotAligned) ∧
    (addr.toNat % 4 ≠ 0 → n = 8 → cls = .loadD ∨ cls = .storeD →
      dataAccess s { cls, asi := none, addr, size := n } = .trap .memAddressNotAligned) ∧
    (addr.toNat % 8 = 4 → n = 8 →
      (cls = .loadD → dataAccess s { cls, asi := none, addr, size := n } = .trap .lddfMemAddressNotAligned) ∧
      (cls = .storeD → dataAccess s { cls, asi := none, addr, size := n } = .trap .stdfMemAddressNotAligned)) ∧
    (addr.toNat % n = 0 → cls ∈ [.load, .store, .atomic] →
      (tlbLookup s.mmu.dtlb s.mmu (.virtualIn (if s.tl = 0 then .primary else .nucleus)) addr = .miss →
        dataAccess s { cls, asi := none, addr, size := n } = .trap .fastDataAccessMMUMiss) ∧
      ∀ e : TlbEntry, tlbLookup s.mmu.dtlb s.mmu (.virtualIn (if s.tl = 0 then .primary else .nucleus)) addr = .hit e →
        (e.data.getLsbD 8 = true → s.pstate.priv = false →
          dataAccess s { cls, asi := none, addr, size := n } = .trap .dataAccessException) ∧
        (e.data.getLsbD 8 = false → e.data.getLsbD 62 = false → cls = .store → e.data.getLsbD 6 = false →
          dataAccess s { cls, asi := none, addr, size := n } = .trap .fastDataAccessProtection) ∧
        (e.data.getLsbD 8 = false → e.data.getLsbD 62 = false → cls = .atomic → e.data.getLsbD 10 = false →
          dataAccess s { cls, asi := none, addr, size := n } = .trap .dataAccessException))

/-- Where an access goes: the address space of its ASI, explicit or implicit, decides who may use it, for which
instructions, whether the address is physical, real or of a context, and the byte order; then the page of the TLB
entry that matches. An exception of the access is the instruction's, for every load, store and atomic, integer, twin,
floating-point or in an alternate space: the trap is taken with no register, no byte and, below MAXTL, D-SFAR and the
tag access register written when the exception is one that records the address (20_memory.md R1306 to R1309; 21_asi.md
R1401 to R1417; 22_mmu.md R1450 to R1462, R1480 to R1483; 42_loadstore.md R561). That the ASIs not listed, short and
partial ones among them, are refused is D23 and D34, that data_real_translation_miss writes D-SFAR and the tag D37,
the physical address under PSTATE.am D51, RED_state D38, D39 and log 12; that the little-endian AS_IF_USER ASIs keep
their byte order in hyperprivileged mode is log 16, that a trap into error_state writes no MMU register log 11, the
layout of the tag access register log 9, that all of memory is there (D30) and no watchpoint fires (D44) log 8, and
ASIs 0x30, 0x31 and 0x36 are D35. -/
def Obligations.AddressSpacesAndRefusedAccesses : Prop :=
  (∀ (s : State) (cls : InstrClass) (addr : Word) (n : Nat), n ∈ accessSizes cls → addr.toNat % n = 0 →
    s.requests.dataAccessError = false →
    let a := s.amMask addr
    let Translated := fun (acc : Access) (kind : AddrKind) (user noFault little fixed : Bool) =>
      (tlbLookup s.mmu.dtlb s.mmu kind a = .miss →
        dataAccess s acc = .trap (if kind = .real then .dataRealTranslationMiss else .fastDataAccessMMUMiss)) ∧
      ∀ e : TlbEntry, tlbLookup s.mmu.dtlb s.mmu kind a = .hit e → ∀ p ∈ pageSizes, TlbEntry.size e = p.1 →
        dataAccess s acc = pageOutcome e.data cls user noFault little fixed a p.2
    let isUser : Bool := decide (s.mode = .nonprivileged)
    (let acc : Access := { cls, asi := none, addr, size := n }
     (s.hpstate.red = true ∨ s.hpstate.hpriv = true →
       dataAccess s acc = .memory (addr.toNat % 2 ^ 56) s.pstate.cle) ∧
     (s.hpstate.red = false → s.hpstate.hpriv = false →
       Translated acc
         (if s.mmu.dmmuEnable then .virtualIn (if s.tl = 0 then .primary else .nucleus) else .real) isUser false
         s.pstate.cle false)) ∧
    (∀ row ∈ asiRows,
      let acc : Access := { cls, asi := some row.asi, addr, size := n }
      (¬asiPermitted s.mode row.asi → dataAccess s acc = .trap .privilegedAction) ∧
      (asiPermitted s.mode row.asi → cls ∉ row.classes → dataAccess s acc = .trap .dataAccessException) ∧
      (asiPermitted s.mode row.asi → cls ∈ row.classes →
        (s.hpstate.red = true ∨ s.hpstate.hpriv = true ∧ row.physical = true →
          dataAccess s acc = .memory (addr.toNat % 2 ^ 56) row.little) ∧
        (s.hpstate.red = false → ¬(s.hpstate.hpriv = true ∧ row.physical = true) →
          Translated acc (if s.mmu.dmmuEnable then row.kind else .real) (isUser || row.asUser) row.noFault row.little
            (s.hpstate.hpriv && row.fixedOrder)))) ∧
    (∀ asi : BitVec 8, (∀ row ∈ asiRows, row.asi ≠ asi) →
      let acc : Access := { cls, asi := some asi, addr, size := n }
      (¬asiPermitted s.mode asi → dataAccess s acc = .trap .privilegedAction) ∧
      (asiPermitted s.mode asi →
        dataAccess s acc =
          if asi ∈ registerAsis ∧ cls ∈ [.loadX, .storeX] then .register asi a else .trap .dataAccessException))) ∧
  ∀ (i : Instr) (s : State) (acc : Access) (e : Exc), i.loadAccess s = some acc ∨ i.storeAccess s = some acc →
    i.reachesAccess s → dataAccess s acc = .trap e →
    ∃ t, exec i s = .next t ∧ Takes s t e ∧ t.globals = s.globals ∧ t.windows = s.windows ∧ t.fregs = s.fregs ∧
      t.fprs = s.fprs ∧ t.fsr = s.fsr ∧ t.mem = s.mem ∧
      t.requests =
        { s.requests with
          dataAccessError := if e = .dataAccessError then false else s.requests.dataAccessError } ∧
      t.mmu =
        { (takeTrap e s).mmu with
          dsfar := t.mmu.dsfar, dsfsr := t.mmu.dsfsr, dtagAccess := t.mmu.dtagAccess } ∧
      (s.tl = 6 → t.mmu = s.mmu) ∧
      (s.tl ≠ 6 →
        t.mmu.dsfar =
          (if e ∈ dsfarExceptions then s.amMask acc.addr else s.mmu.dsfar) ∧
        if e ∈ dtagExceptions then
          t.mmu.dtagAccess.toNat / 2 ^ 13 = (s.amMask acc.addr).toNat / 2 ^ 13 ∧
          (e = .dataRealTranslationMiss → t.mmu.dtagAccess.toNat % 2 ^ 13 = 0) ∧
          (e = .fastDataAccessMMUMiss → acc.asi = none →
            t.mmu.dtagAccess.toNat % 2 ^ 13 = if s.tl = 0 then s.mmu.primaryContext.toNat % 2 ^ 13 else 0)
        else t.mmu.dtagAccess = s.mmu.dtagAccess)

/-- The integer loads: R[rd] gets the bytes at the address DataAccess gives, zero- or sign-extended (42_loadstore.md R563 to
R577). -/
def Obligations.IntegerLoads : Prop :=
  ∀ p ∈ [(Instr.ldub, Instr.lduba, 1, false), (Instr.lduh, Instr.lduha, 2, false),
      (Instr.lduw, Instr.lduwa, 4, false), (Instr.ldsb, Instr.ldsba, 1, true), (Instr.ldsh, Instr.ldsha, 2, true),
      (Instr.ldsw, Instr.ldswa, 4, true), (Instr.ldx, Instr.ldxa, 8, false)],
    ∀ (s : State) (rd rs1 : RegField) (pa : Nat) (little : Bool),
      let v := valueAt s.mem pa p.2.2.1 little
      let r := BitVec.ofInt 64 (if p.2.2.2 then signedOf p.2.2.1 v else v)
      (∀ o : Op2, dataAccess s (plainAccess s .load rs1 o p.2.2.1) = .memory pa little →
        ∃ t, exec (p.1 rd rs1 o) s = .next t ∧ WritesR s.advance t rd r) ∧
      ∀ o : AsiOp2,
        dataAccess s (altAccess s (if p.2.2.1 = 8 then .loadX else .load) rs1 o p.2.2.1) = .memory pa little →
        ∃ t, exec (p.2.1 rd rs1 o) s = .next t ∧ WritesR s.advance t rd r

/-- The integer stores: the low bytes of R[rd], in the access's byte order, at the address DataAccess gives
(42_loadstore.md R580 to R588). -/
def Obligations.IntegerStores : Prop :=
  ∀ p ∈ [(Instr.stb, Instr.stba, 1), (Instr.sth, Instr.stha, 2), (Instr.stw, Instr.stwa, 4),
      (Instr.stx, Instr.stxa, 8)],
    ∀ (s : State) (rd rs1 : RegField) (pa : Nat) (little : Bool), Memory.wf s.mem →
      (∀ o : Op2, dataAccess s (plainAccess s .store rs1 o p.2.2) = .memory pa little →
        ∃ t, exec (p.1 rd rs1 o) s = .next t ∧
          StoresBytes s.advance t pa (bytesOf (s.readR rd).toNat p.2.2 little)) ∧
      ∀ o : AsiOp2,
        dataAccess s (altAccess s (if p.2.2 = 8 then .storeX else .store) rs1 o p.2.2) = .memory pa little →
        ∃ t, exec (p.2.1 rd rs1 o) s = .next t ∧
          StoresBytes s.advance t pa (bytesOf (s.readR rd).toNat p.2.2 little)

/-- The atomics: R[rd] gets the old value; LDSTUB stores ones, SWAP the old R[rd], CASA and CASXA the old R[rd] if memory
equals R[rs2] and otherwise what was there (42_loadstore.md R601 to R611). -/
def Obligations.Atomics : Prop :=
  ∀ (s : State) (rd rs1 : RegField) (pa : Nat) (little : Bool), Memory.wf s.mem →
    let Exchanges := fun (i : Instr) (n v : Nat) =>
      ∃ u t, StoresBytes s.advance u pa (bytesOf v n little) ∧ exec i s = .next t ∧
        WritesR u t rd (BitVec.ofNat 64 (valueAt s.mem pa n little))
    (∀ o, dataAccess s (plainAccess s .atomic rs1 o 1) = .memory pa little → Exchanges (.ldstub rd rs1 o) 1 0xFF) ∧
    (∀ o, dataAccess s (altAccess s .atomic rs1 o 1) = .memory pa little → Exchanges (.ldstuba rd rs1 o) 1 0xFF) ∧
    (∀ o, dataAccess s (plainAccess s .atomic rs1 o 4) = .memory pa little →
      Exchanges (.swap rd rs1 o) 4 (s.readR rd).toNat) ∧
    (∀ o, dataAccess s (altAccess s .atomic rs1 o 4) = .memory pa little →
      Exchanges (.swapa rd rs1 o) 4 (s.readR rd).toNat) ∧
    (∀ asi rs2, dataAccess s (casAccess s rs1 asi 4) = .memory pa little →
      Exchanges (.casa rd rs1 asi rs2) 4
        (if valueAt s.mem pa 4 little = (s.readR rs2).toNat % 2 ^ 32 then (s.readR rd).toNat
          else valueAt s.mem pa 4 little)) ∧
    ∀ asi rs2, dataAccess s (casAccess s rs1 asi 8) = .memory pa little →
      Exchanges (.casxa rd rs1 asi rs2) 8
        (if valueAt s.mem pa 8 little = (s.readR rs2).toNat then (s.readR rd).toNat else valueAt s.mem pa 8 little)

/-- The twin loads and stores: two parts, the lower address to the even register, each part in the access's byte order; an
odd rd is illegal (42_loadstore.md R590 to R594). R[0] as the even register is not written. That LDTWA with a twin ASI in the
ASI register is LDTXA is the spec's own decision D21 (log 20). -/
def Obligations.TwinTransfers : Prop :=
  ∀ (s : State) (rd rs1 : RegField),
    (rd.toNat % 2 = 1 →
      (∀ o, exec (.ldtw rd rs1 o) s = .next (takeTrap .illegalInstruction s) ∧
        exec (.sttw rd rs1 o) s = .next (takeTrap .illegalInstruction s)) ∧
      (∀ o, exec (.ldtwa rd rs1 o) s = .next (takeTrap .illegalInstruction s) ∧
        exec (.sttwa rd rs1 o) s = .next (takeTrap .illegalInstruction s)) ∧
      ∀ asi rs2, exec (.ldtxa rd rs1 asi rs2) s = .next (takeTrap .illegalInstruction s)) ∧
    ∀ (pa : Nat) (little : Bool), rd.toNat % 2 = 0 →
      let Loads := fun (i : Instr) (part : Nat) =>
        ∃ u t, WritesR s.advance u rd (BitVec.ofNat 64 (valueAt s.mem pa part little)) ∧ exec i s = .next t ∧
          WritesR u t (rd + 1#5) (BitVec.ofNat 64 (valueAt s.mem (pa + part) part little))
      let bytes := bytesOf (s.readR rd).toNat 4 little ++ bytesOf (s.readR (rd + 1#5)).toNat 4 little
      (∀ o, dataAccess s (plainAccess s .load rs1 o 8) = .memory pa little → Loads (.ldtw rd rs1 o) 4) ∧
      (∀ o, isTwinAsi (asiOf s o) = false → dataAccess s (altAccess s .load rs1 o 8) = .memory pa little →
        Loads (.ldtwa rd rs1 o) 4) ∧
      (∀ o, isTwinAsi (asiOf s o) = true → dataAccess s (altAccess s .loadTwinX rs1 o 16) = .memory pa little →
        Loads (.ldtwa rd rs1 o) 8) ∧
      (∀ asi rs2, dataAccess s (altAccess s .loadTwinX rs1 (.reg asi rs2) 16) = .memory pa little →
        Loads (.ldtxa rd rs1 asi rs2) 8) ∧
      (Memory.wf s.mem →
        (∀ o, dataAccess s (plainAccess s .store rs1 o 8) = .memory pa little →
          ∃ t, exec (.sttw rd rs1 o) s = .next t ∧ StoresBytes s.advance t pa bytes) ∧
        ∀ o, dataAccess s (altAccess s .store rs1 o 8) = .memory pa little →
          ∃ t, exec (.sttwa rd rs1 o) s = .next t ∧ StoresBytes s.advance t pa bytes)

/-- A scratchpad register stored by STXA is what LDXA then loads, privileged ones through ASI 0x20 outside
nonprivileged mode, hyperprivileged ones through 0x4F in hyperprivileged mode; no other register of the bank changes
(21_asi.md R1420, R1421). Every register behind an ASI reads and is written as its rule says, and every other aligned
address of those ASIs is a data_access_exception, the spec's decision D36 (22_mmu.md R1481 to R1484;
61_interrupts_cmt.md R1180, R1201, R1206, R1240). That registers 4 to 7 are in hardware and the hyperprivileged bank
is separate is D34, that they are reached in RED_state is log 12. That context registers have 16 bits is D37, that the
queue registers are storage of 64 bits whose tails privileged code cannot write D54 and the choice of impl. dep. #422
(log 8), and bits 7:0 of the partition ID (R1484) and 15:0 of STRAND_INTR_ID (R1206) are log 9. -/
def Obligations.ScratchpadWriteRead : Prop :=
  (∀ (s : State) (rd rs1 : RegField) (k : Fin 8), s.readR rs1 = BitVec.ofNat 64 (8 * k.val) →
    (s.isUser = false →
      exec (.stxa rd rs1 (.reg 0x20#8 0#5)) s =
        .next { s.advance with scratchpad := s.scratchpad.set k.val (s.readR rd) k.isLt } ∧
      ∃ t, exec (.ldxa rd rs1 (.reg 0x20#8 0#5)) s = .next t ∧ WritesR s.advance t rd (s.scratchpad.get k)) ∧
    (s.hpstate.hpriv = true →
      exec (.stxa rd rs1 (.reg 0x4F#8 0#5)) s =
        .next { s.advance with hyperScratchpad := s.hyperScratchpad.set k.val (s.readR rd) k.isLt } ∧
      ∃ t, exec (.ldxa rd rs1 (.reg 0x4F#8 0#5)) s = .next t ∧ WritesR s.advance t rd (s.hyperScratchpad.get k)) ∧
    (s.isUser = true →
      ∃ t u, exec (.stxa rd rs1 (.reg 0x20#8 0#5)) s = .next t ∧ exec (.ldxa rd rs1 (.reg 0x4F#8 0#5)) s = .next u ∧
        t.scratchpad = s.scratchpad ∧
        (s.tl ≠ 6 → t.trapEntry = s.savedTrap 0x037#9 ∧ u.trapEntry = s.savedTrap 0x037#9))) ∧
  ∀ (s : State) (rd rs1 : RegField) (o : AsiOp2),
    let va := (s.amMask (effAddrA s rs1 o)).toNat
    asiOf s o ∈ registerAsis → va % 8 = 0 →
      (¬asiPermitted s.mode (asiOf s o) →
        (∃ t, exec (.ldxa rd rs1 o) s = .next t ∧ Takes s t .privilegedAction) ∧
        ∃ t, exec (.stxa rd rs1 o) s = .next t ∧ Takes s t .privilegedAction) ∧
      (asiPermitted s.mode (asiOf s o) →
        (∀ row ∈ asiRegisters, row.asi = asiOf s o → row.va = va →
          (∀ v, row.read s = some v → ∃ t, exec (.ldxa rd rs1 o) s = .next t ∧ WritesR s.advance t rd v) ∧
          (row.read s = none → ∃ t, exec (.ldxa rd rs1 o) s = .next t ∧ Takes s t .dataAccessException) ∧
          (∀ u, row.write s (s.readR rd) = some u → exec (.stxa rd rs1 o) s = .next u.advance) ∧
          (row.write s (s.readR rd) = none →
            ∃ t, exec (.stxa rd rs1 o) s = .next t ∧ Takes s t .dataAccessException)) ∧
        ((∀ row ∈ asiRegisters, row.asi = asiOf s o → row.va ≠ va) →
          (∃ t, exec (.ldxa rd rs1 o) s = .next t ∧ Takes s t .dataAccessException) ∧
          ∃ t, exec (.stxa rd rs1 o) s = .next t ∧ Takes s t .dataAccessException))

/-! ## Floating point -/

/-- How single and double registers share the sixty-four F registers: FS[f] is F[f]; the double register of field f is
F[n] in its high word and F[n + 1] in its low one, n = 32 b5 + 2 (b4 b3 b2 b1) for the field b4 b3 b2 b1 b5
(10_state.md R70 to R72). The loads and stores of F registers and of FSR, with the FPU enabled, at the address DataAccess gives
(43_fp_loadstore.md R662 to R686). A store of FSR clears ftt after storing it; the word it stores is FSR field by
field, ns, ver and qne 0 (10_state.md R80 to R92). That ver is 0 is the default of FSR_VER (D29, log 8), the order
inside aexc, cexc and tem log 9. -/
def Obligations.FloatingPointLoadsAndStores : Prop :=
  (∀ (s : State) (f : RegField),
    s.readFS f = s.fregs.get ⟨f.toNat, by omega⟩ ∧
    s.readFD f =
      s.fregs.get ⟨32 * (f.toNat % 2) + 2 * (f.toNat / 2), by omega⟩ ++
        s.fregs.get ⟨32 * (f.toNat % 2) + 2 * (f.toNat / 2) + 1, by omega⟩) ∧
  ∀ (s : State) (rd rs1 : RegField) (pa : Nat) (little : Bool), s.fpEnabled = true →
    let w := BitVec.ofNat 32 (valueAt s.mem pa 4 little)
    let x := BitVec.ofNat 64 (valueAt s.mem pa 8 little)
    (∀ o, dataAccess s (plainAccess s .load rs1 o 4) = .memory pa little →
      (∃ t, exec (.ldf rd rs1 o) s = .next t ∧ WritesFS s.advance t rd w) ∧
      exec (.ldfsr rs1 o) s =
        .next { s.advance with
          fsr :=
            { s.fsr with
              rd := w.extractLsb' 30 2, tem := w.extractLsb' 23 5, fcc0 := w.extractLsb' 10 2,
              aexc := w.extractLsb' 5 5, cexc := w.extractLsb' 0 5 } }) ∧
    (∀ o, dataAccess s (altAccess s .load rs1 o 4) = .memory pa little →
      ∃ t, exec (.ldfa rd rs1 o) s = .next t ∧ WritesFS s.advance t rd w) ∧
    (∀ o, dataAccess s (plainAccess s .loadD rs1 o 8) = .memory pa little →
      ∃ t, exec (.lddf rd rs1 o) s = .next t ∧ WritesFD s.advance t rd x) ∧
    (∀ o, isBlockAsi (asiOf s o) = false → dataAccess s (altAccess s .loadD rs1 o 8) = .memory pa little →
      ∃ t, exec (.lddfa rd rs1 o) s = .next t ∧ WritesFD s.advance t rd x) ∧
    (∀ o, dataAccess s (plainAccess s .load rs1 o 8) = .memory pa little →
      exec (.ldxfsr rs1 o) s =
        .next { s.advance with
          fsr :=
            { fcc3 := x.extractLsb' 36 2, fcc2 := x.extractLsb' 34 2, fcc1 := x.extractLsb' 32 2, rd := x.extractLsb' 30 2,
              tem := x.extractLsb' 23 5, ftt := s.fsr.ftt, fcc0 := x.extractLsb' 10 2, aexc := x.extractLsb' 5 5,
              cexc := x.extractLsb' 0 5 } }) ∧
    (Memory.wf s.mem →
      (∀ o, dataAccess s (plainAccess s .store rs1 o 4) = .memory pa little →
        (∃ t, exec (.stf rd rs1 o) s = .next t ∧
          StoresBytes s.advance t pa (bytesOf (s.readFS rd).toNat 4 little)) ∧
        ∃ t, exec (.stfsr rs1 o) s = .next t ∧
          StoresBytes { s.advance with fsr := { s.fsr with ftt := 0#3 } } t pa (bytesOf s.fsr.bits.toNat 4 little)) ∧
      (∀ o, dataAccess s (altAccess s .store rs1 o 4) = .memory pa little →
        ∃ t, exec (.stfa rd rs1 o) s = .next t ∧
          StoresBytes s.advance t pa (bytesOf (s.readFS rd).toNat 4 little)) ∧
      (∀ o, dataAccess s (plainAccess s .storeD rs1 o 8) = .memory pa little →
        ∃ t, exec (.stdf rd rs1 o) s = .next t ∧
          StoresBytes s.advance t pa (bytesOf (s.readFD rd).toNat 8 little)) ∧
      (∀ o, partialByRegister s o = false → isBlockAsi (asiOf s o) = false →
        dataAccess s (altAccess s .storeD rs1 o 8) = .memory pa little →
        ∃ t, exec (.stdfa rd rs1 o) s = .next t ∧
          StoresBytes s.advance t pa (bytesOf (s.readFD rd).toNat 8 little)) ∧
      ∀ o, dataAccess s (plainAccess s .store rs1 o 8) = .memory pa little →
        ∃ t, exec (.stxfsr rs1 o) s = .next t ∧
          StoresBytes { s.advance with fsr := { s.fsr with ftt := 0#3 } } t pa (bytesOf s.fsr.bits.toNat 8 little)) ∧
    s.fsr.bits.toNat =
      s.fsr.cexc.toNat + s.fsr.aexc.toNat * 2 ^ 5 + s.fsr.fcc0.toNat * 2 ^ 10 + s.fsr.ftt.toNat * 2 ^ 14 +
        s.fsr.tem.toNat * 2 ^ 23 + s.fsr.rd.toNat * 2 ^ 30 + s.fsr.fcc1.toNat * 2 ^ 32 + s.fsr.fcc2.toNat * 2 ^ 34 +
        s.fsr.fcc3.toNat * 2 ^ 36

/-- Block transfers move eight double registers, each doubleword in the access's byte order, and are illegal for a
register that starts no block; LDDFA and STDFA with i = 1 and a block ASI in the ASI register are block transfers too.
Short and partial transfers raise data_access_exception, and STDFA with i = 1 and a partial-store ASI in the ASI
register illegal_instruction (43_fp_loadstore.md R667, R680, R690 to R697). The order of a block is the spec's
decision D24; that short and partial transfers are not in hardware is D23 (log 25); the address of a refused
STPARTIALF and STDFA with a partial-store ASI are log 22. -/
def Obligations.BlockShortAndPartialTransfers : Prop :=
  ∀ (s : State) (rd rs1 rs2 : RegField) (asi : BitVec 8) (imm : BitVec 13), s.fpEnabled = true →
    (rd.toNat / 2 % 8 = 0 →
      ∀ (pa : Nat) (little : Bool),
        (isBlockAsi asi = true →
          (dataAccess s (altAccess s .loadBlock rs1 (.reg asi rs2) 64) = .memory pa little →
            ∃ t, exec (.ldblockf rd rs1 asi rs2) s = .next t ∧ LoadsBlock s.advance t rd pa little) ∧
          (dataAccess s (altAccess s .storeBlock rs1 (.reg asi rs2) 64) = .memory pa little → Memory.wf s.mem →
            ∃ t, exec (.stblockf rd rs1 asi rs2) s = .next t ∧ StoresBytes s.advance t pa (blockBytes s rd little))) ∧
        (isBlockAsi s.asi = true →
          (dataAccess s (altAccess s .loadBlock rs1 (.imm imm) 64) = .memory pa little →
            ∃ t, exec (.lddfa rd rs1 (.imm imm)) s = .next t ∧ LoadsBlock s.advance t rd pa little) ∧
          (dataAccess s (altAccess s .storeBlock rs1 (.imm imm) 64) = .memory pa little → Memory.wf s.mem →
            ∃ t, exec (.stdfa rd rs1 (.imm imm)) s = .next t ∧
              StoresBytes s.advance t pa (blockBytes s rd little)))) ∧
    (rd.toNat / 2 % 8 ≠ 0 →
      exec (.ldblockf rd rs1 asi rs2) s = .next (takeTrap .illegalInstruction s) ∧
      exec (.stblockf rd rs1 asi rs2) s = .next (takeTrap .illegalInstruction s) ∧
      (isBlockAsi s.asi = true →
        exec (.lddfa rd rs1 (.imm imm)) s = .next (takeTrap .illegalInstruction s) ∧
        exec (.stdfa rd rs1 (.imm imm)) s = .next (takeTrap .illegalInstruction s))) ∧
    (isShortAsi asi = true →
      exec (.ldshortf rd rs1 asi rs2) s =
        .next (raiseData s (altAccess s .loadD rs1 (.reg asi rs2) 8) .dataAccessException) ∧
      exec (.stshortf rd rs1 asi rs2) s =
        .next (raiseData s (altAccess s .storeD rs1 (.reg asi rs2) 8) .dataAccessException)) ∧
    (isPartialAsi asi = true →
      exec (.stpartialf rd rs1 asi rs2) s =
        .next (raiseData s { cls := .storeD, asi := some asi, addr := s.readR rs1, size := 8 } .dataAccessException)) ∧
    (isPartialAsi s.asi = true → exec (.stdfa rd rs1 (.imm imm)) s = .next (takeTrap .illegalInstruction s))

/-- The moves: the value, its sign cleared or complemented; the conditional ones only when the condition holds; all
clear cexc and ftt and keep aexc (45_fp.md R802, R810, R811, R829, R830, R832 to R844, R851, R852). That a conditional
move not made sets no dirty bit is the spec's own decision D13 (log 18). The order n, z, v, c in CCR is from general
knowledge (R102, log 9). -/
def Obligations.FloatingPointMoves : Prop :=
  ∀ (s : State) (rd rs2 : RegField), s.fpEnabled = true →
    let s' := { s.advance with fsr := { s.fsr with cexc := 0#5, ftt := 0#3 } }
    let a := (s.readFS rs2).toNat
    let b := (s.readFD rs2).toNat
    (∃ t, exec (.fmovs rd rs2) s = .next t ∧ WritesFS s' t rd (s.readFS rs2)) ∧
    (∃ t, exec (.fmovd rd rs2) s = .next t ∧ WritesFD s' t rd (s.readFD rs2)) ∧
    (∃ t, exec (.fabss rd rs2) s = .next t ∧ WritesFS s' t rd (BitVec.ofNat 32 (a % 2 ^ 31))) ∧
    (∃ t, exec (.fabsd rd rs2) s = .next t ∧ WritesFD s' t rd (BitVec.ofNat 64 (b % 2 ^ 63))) ∧
    (∃ t, exec (.fnegs rd rs2) s = .next t ∧ WritesFS s' t rd (BitVec.ofNat 32 (a + 2 ^ 31))) ∧
    (∃ t, exec (.fnegd rd rs2) s = .next t ∧ WritesFD s' t rd (BitVec.ofNat 64 (b + 2 ^ 63))) ∧
    (∀ row ∈ integerConditions,
      (∀ p ∈ [(Instr.fmovsicc, IntCC.icc), (Instr.fmovsxcc, IntCC.xcc)],
        (row.holds s p.2 = true → ∃ t, exec (p.1 rd row.cond rs2) s = .next t ∧ WritesFS s' t rd (s.readFS rs2)) ∧
        (row.holds s p.2 = false → exec (p.1 rd row.cond rs2) s = .next s')) ∧
      ∀ p ∈ [(Instr.fmovdicc, IntCC.icc), (Instr.fmovdxcc, IntCC.xcc)],
        (row.holds s p.2 = true → ∃ t, exec (p.1 rd row.cond rs2) s = .next t ∧ WritesFD s' t rd (s.readFD rs2)) ∧
        (row.holds s p.2 = false → exec (p.1 rd row.cond rs2) s = .next s')) ∧
    (∀ row ∈ fpConditions, ∀ n : FccSel,
      (fccValue s n ∈ row.accepts →
        (∃ t, exec (.fmovsfcc rd n row.cond rs2) s = .next t ∧ WritesFS s' t rd (s.readFS rs2)) ∧
        ∃ t, exec (.fmovdfcc rd n row.cond rs2) s = .next t ∧ WritesFD s' t rd (s.readFD rs2)) ∧
      (fccValue s n ∉ row.accepts →
        exec (.fmovsfcc rd n row.cond rs2) s = .next s' ∧ exec (.fmovdfcc rd n row.cond rs2) s = .next s')) ∧
    ∀ row ∈ registerConditions, ∀ rs1 : RegField,
      (row.test (s.readR rs1).toInt = true →
        (∃ t, exec (row.moveSingle rd rs1 rs2) s = .next t ∧ WritesFS s' t rd (s.readFS rs2)) ∧
        ∃ t, exec (row.moveDouble rd rs1 rs2) s = .next t ∧ WritesFD s' t rd (s.readFD rs2)) ∧
      (row.test (s.readR rs1).toInt = false →
        exec (row.moveSingle rd rs1 rs2) s = .next s' ∧ exec (row.moveDouble rd rs1 rs2) s = .next s')

/-- FADD, FSUB, FMUL, FDIV, FsMULd and the conversions complete with the computed value, cexc the detected conditions
and aexc accruing them, when none of those conditions has its trap enabled; otherwise fp_exception_ieee_754 with cexc
the one condition of highest precedence and nothing else written. The value is rounded in the direction of GSR.irnd when
GSR.im = 1 and of FSR.rd otherwise: 0 to nearest, 1 toward zero, 2 toward +infinity, 3 toward -infinity (45_fp.md R802,
R805, R806, R807, TABLE 5-8; 10_state.md R83, R125). What the
computed values are is FloatingPointRounding's and FloatingPointConversions' to say. That no operand raises
unfinished_FPop is the spec's own decision D6 (log 8), on which each completion rests. The order nv, of, uf, dz, nx in
FSR is from general knowledge (R88, log 9). -/
def Obligations.FloatingPointArithmetic : Prop :=
  ∀ (s : State) (rd rs1 rs2 : RegField), s.fpEnabled = true →
    let direction := if s.gsr.im = true then s.gsr.irnd else s.fsr.rd
    let m : Float.RoundMode :=
      if direction = 0#2 then .nearestEven
      else if direction = 1#2 then .towardZero
      else if direction = 2#2 then .towardPosInf
      else .towardNegInf
    let a := (s.readFS rs1).toNat
    let b := (s.readFS rs2).toNat
    let x := (s.readFD rs1).toNat
    let y := (s.readFD rs2).toNat
    let Delivers := fun (i : Instr) (c : Float.Computed) (Writes : State → State → Prop) =>
      let e := detected s.fsr.tem c
      (e &&& s.fsr.tem = 0#5 →
        ∃ t, exec i s = .next t ∧
          Writes { s.advance with fsr := { s.fsr with cexc := e, aexc := s.fsr.aexc ||| e, ftt := 0#3 } } t) ∧
      (e &&& s.fsr.tem ≠ 0#5 →
        exec i s =
          .next (takeTrap .fpExceptionIeee754
            { s with fsr := { s.fsr with cexc := leading (e &&& s.fsr.tem), ftt := 1#3 } }))
    let Single := fun (i : Instr) (c : Float.Computed) =>
      Delivers i c fun u t => WritesFS u t rd (BitVec.ofNat 32 c.bits)
    let Double := fun (i : Instr) (c : Float.Computed) =>
      Delivers i c fun u t => WritesFD u t rd (BitVec.ofNat 64 c.bits)
    let ToSingle := fun (i : Instr) (r : Int × Bool × Bool) =>
      Delivers i { Float.Computed.exact 0 with nv := r.2.1, nx := r.2.2 } fun u t => WritesFS u t rd (BitVec.ofInt 32 r.1)
    let ToDouble := fun (i : Instr) (r : Int × Bool × Bool) =>
      Delivers i { Float.Computed.exact 0 with nv := r.2.1, nx := r.2.2 } fun u t => WritesFD u t rd (BitVec.ofInt 64 r.1)
    Single (.fadds rd rs1 rs2) (Float.Format.add Float.single m a b) ∧
    Single (.fsubs rd rs1 rs2) (Float.Format.sub Float.single m a b) ∧
    Single (.fmuls rd rs1 rs2) (Float.Format.mul Float.single m a b) ∧
    Single (.fdivs rd rs1 rs2) (Float.Format.div Float.single m a b) ∧
    Double (.faddd rd rs1 rs2) (Float.Format.add Float.double m x y) ∧
    Double (.fsubd rd rs1 rs2) (Float.Format.sub Float.double m x y) ∧
    Double (.fmuld rd rs1 rs2) (Float.Format.mul Float.double m x y) ∧
    Double (.fdivd rd rs1 rs2) (Float.Format.div Float.double m x y) ∧
    Double (.fsmuld rd rs1 rs2) (Float.singleMulDouble m a b) ∧
    Double (.fstod rd rs2) (Float.singleToDouble m b) ∧
    Single (.fdtos rd rs2) (Float.doubleToSingle m y) ∧
    Single (.fitos rd rs2) (Float.Format.ofInt Float.single m (s.readFS rs2).toInt) ∧
    Double (.fitod rd rs2) (Float.Format.ofInt Float.double m (s.readFS rs2).toInt) ∧
    Single (.fxtos rd rs2) (Float.Format.ofInt Float.single m (s.readFD rs2).toInt) ∧
    Double (.fxtod rd rs2) (Float.Format.ofInt Float.double m (s.readFD rs2).toInt) ∧
    ToSingle (.fstoi rd rs2) (Float.Format.toInt Float.single 32 b) ∧
    ToSingle (.fdtoi rd rs2) (Float.Format.toInt Float.double 32 y) ∧
    ToDouble (.fstox rd rs2) (Float.Format.toInt Float.single 64 b) ∧
    ToDouble (.fdtox rd rs2) (Float.Format.toInt Float.double 64 y)

/-- The four operations on two finite operands give the exact sum, difference, product or quotient rounded once, in
every direction, with exactly the conditions of that rounding; an exact zero gets its sign by rule, and a nonzero
number divided by zero is an infinity with dz (45_fp.md R806, R807, R813, R823, R846, R870, TABLES 8-2 to 8-5). The
result of an untrapped overflow, the infinity or the largest number by direction, R807 takes from general knowledge
(log 9). -/
def Obligations.FloatingPointRounding : Prop :=
  ∀ f ∈ [Float.single, Float.double], ∀ (m : Float.RoundMode) (a b : Nat) (x y : ℚ),
    a < 2 * f.signBit → b < 2 * f.signBit → f.number a = some x → f.number b = some y →
    let na := f.negative a
    let nb := f.negative b
    (x + y ≠ 0 → Float.Rounds f m (x + y) (f.add m a b)) ∧
    (x + y = 0 → f.add m a b =
      Float.Computed.exact (if (if na = nb then na else decide (m = .towardNegInf)) then f.signBit else 0)) ∧
    (x - y ≠ 0 → Float.Rounds f m (x - y) (f.sub m a b)) ∧
    (x - y = 0 → f.sub m a b =
      Float.Computed.exact (if (if na ≠ nb then na else decide (m = .towardNegInf)) then f.signBit else 0)) ∧
    (x * y ≠ 0 → Float.Rounds f m (x * y) (f.mul m a b)) ∧
    (x * y = 0 → f.mul m a b = Float.Computed.exact (if na = nb then 0 else f.signBit)) ∧
    (x ≠ 0 → y ≠ 0 → Float.Rounds f m (x / y) (f.div m a b)) ∧
    (x = 0 → y ≠ 0 → f.div m a b = Float.Computed.exact (if na = nb then 0 else f.signBit)) ∧
    (x ≠ 0 → y = 0 → f.div m a b =
      { Float.Computed.exact ((if na = nb then 0 else f.signBit) + f.infMag) with dz := true })

/-- NaN and infinite operands of the four operations: the NaN of F[rs2] or F[rs1] by precedence, made quiet, with nv
for a signalling one; dQNaN with nv for infinity minus infinity, zero times infinity, 0/0 and infinity/infinity; else
the infinity or the zero the tables give, without a condition (45_fp.md R808, TABLES 8-2 to 8-5). The precedence of a
signalling F[rs1] over a quiet F[rs2] is the spec's own choice, marked there as not in its source (log 19). -/
def Obligations.NansAndInfinities : Prop :=
  ∀ f ∈ [Float.single, Float.double], ∀ (m : Float.RoundMode) (a b : Nat), a < 2 * f.signBit → b < 2 * f.signBit →
    let invalid := { Float.Computed.exact (f.signBit - 1) with nv := true }
    let quiet := fun x : Nat => x ||| f.quietBit
    let sign := fun n : Bool => if n then f.signBit else 0
    let na := f.negative a
    let nb := f.negative b
    (∀ op ∈ [f.add m, f.sub m, f.mul m, f.div m],
      (f.isSNaN b = true → op a b = { Float.Computed.exact (quiet b) with nv := true }) ∧
      (f.isSNaN b = false → f.isSNaN a = true → op a b = { Float.Computed.exact (quiet a) with nv := true }) ∧
      (f.isSNaN a = false → f.isNaN b = true → f.isSNaN b = false → op a b = Float.Computed.exact b) ∧
      (f.isNaN b = false → f.isNaN a = true → f.isSNaN a = false → op a b = Float.Computed.exact a)) ∧
    (f.isNaN a = false → f.isNaN b = false →
      (f.isInf a = true → f.isInf b = true →
        f.add m a b = (if na = nb then Float.Computed.exact a else invalid) ∧
        f.sub m a b = (if na = nb then invalid else Float.Computed.exact a) ∧
        f.mul m a b = Float.Computed.exact (sign (na != nb) + f.infMag) ∧ f.div m a b = invalid) ∧
      (f.isInf a = true → f.isInf b = false →
        f.add m a b = Float.Computed.exact a ∧ f.sub m a b = Float.Computed.exact a ∧
        f.mul m a b =
          (if f.number b = some 0 then invalid else Float.Computed.exact (sign (na != nb) + f.infMag)) ∧
        f.div m a b = Float.Computed.exact (sign (na != nb) + f.infMag)) ∧
      (f.isInf a = false → f.isInf b = true →
        f.add m a b = Float.Computed.exact b ∧ f.sub m a b = Float.Computed.exact (sign (!nb) + f.infMag) ∧
        f.mul m a b =
          (if f.number a = some 0 then invalid else Float.Computed.exact (sign (na != nb) + f.infMag)) ∧
        f.div m a b = Float.Computed.exact (sign (na != nb))) ∧
      (f.number a = some 0 → f.number b = some 0 → f.div m a b = invalid))

/-- The conversions: an integer rounds to a format like any number, zero to +0; a single widens and multiplies to
double exactly; a double rounds to single; a floating-point number becomes the integer toward zero, or the extreme
integer of its sign with nv when there is none; a NaN keeps its sign and its fraction's upper bits, made quiet, an
infinity its sign (45_fp.md R808, R826, R849, R857, R864, R866, R873). That a signalling F[rs1] of FsMULd wins over a
quiet F[rs2] is log 19 (R808 marks it as not in its source); the overflowed result of a double rounded to single is
log 9 (R807 gives it from general knowledge). -/
def Obligations.FloatingPointConversions : Prop :=
  ∀ m : Float.RoundMode,
    (∀ f ∈ [Float.single, Float.double], ∀ n : Int, (n = 0 → f.ofInt m n = Float.Computed.exact 0) ∧
      (-(2 ^ 63) ≤ n → n < 2 ^ 63 → n ≠ 0 → Float.Rounds f m n (f.ofInt m n))) ∧
    (∀ (a : Nat) (x : ℚ), a < 2 ^ 32 → Float.Format.number Float.single a = some x →
      let c := Float.singleToDouble m a
      Float.Format.number Float.double c.bits = some x ∧ c = Float.Computed.exact c.bits ∧
        Float.Format.negative Float.double c.bits = Float.Format.negative Float.single a ∧ c.bits < 2 ^ 64) ∧
    (∀ (a : Nat) (x : ℚ), a < 2 ^ 64 → Float.Format.number Float.double a = some x →
      (x = 0 → Float.doubleToSingle m a =
        Float.Computed.exact (if Float.Format.negative Float.double a then 2 ^ 31 else 0)) ∧
      (x ≠ 0 → Float.Rounds Float.single m x (Float.doubleToSingle m a))) ∧
    (∀ (a b : Nat) (x y : ℚ), a < 2 ^ 32 → b < 2 ^ 32 → Float.Format.number Float.single a = some x →
      Float.Format.number Float.single b = some y →
      let c := Float.singleMulDouble m a b
      Float.Format.number Float.double c.bits = some (x * y) ∧ c = Float.Computed.exact c.bits ∧
        Float.Format.negative Float.double c.bits =
          (Float.Format.negative Float.single a != Float.Format.negative Float.single b)) ∧
    (let f := Float.single
     let widened := fun x : Nat => x / 2 ^ 31 * 2 ^ 63 + 0x7FF0000000000000 + (x % 2 ^ 23 ||| 2 ^ 22) * 2 ^ 29
     let infinity := fun n : Bool => (if n then 2 ^ 63 else 0) + 0x7FF0000000000000
     (∀ a : Nat, a < 2 ^ 32 →
       (f.isNaN a = true → Float.singleToDouble m a = { Float.Computed.exact (widened a) with nv := f.isSNaN a }) ∧
       (f.isInf a = true → Float.singleToDouble m a = Float.Computed.exact (infinity (f.negative a)))) ∧
     (∀ a : Nat, a < 2 ^ 64 →
       (Float.Format.isNaN Float.double a = true →
         Float.doubleToSingle m a =
           { Float.Computed.exact (a / 2 ^ 63 * 2 ^ 31 + 0x7F800000 + (a % 2 ^ 52 / 2 ^ 29 ||| 2 ^ 22)) with
             nv := Float.Format.isSNaN Float.double a }) ∧
       (Float.Format.isInf Float.double a = true →
         Float.doubleToSingle m a = Float.Computed.exact (a / 2 ^ 63 * 2 ^ 31 + 0x7F800000))) ∧
     ∀ a b : Nat, a < 2 ^ 32 → b < 2 ^ 32 →
       (f.isNaN b = true → (f.isSNaN b = true ∨ f.isSNaN a = false) →
         Float.singleMulDouble m a b = { Float.Computed.exact (widened b) with nv := f.isSNaN b }) ∧
       (f.isNaN a = true → (f.isNaN b = false ∨ f.isSNaN b = false ∧ f.isSNaN a = true) →
         Float.singleMulDouble m a b = { Float.Computed.exact (widened a) with nv := f.isSNaN a }) ∧
       (f.isNaN a = false → f.isNaN b = false → f.isInf a = true ∨ f.isInf b = true →
         Float.singleMulDouble m a b =
           if f.number a = some 0 ∨ f.number b = some 0 then { Float.Computed.exact (2 ^ 63 - 1) with nv := true }
           else Float.Computed.exact (infinity (f.negative a != f.negative b)))) ∧
    ∀ f ∈ [Float.single, Float.double], ∀ n ∈ [32, 64], ∀ a : Nat, a < 2 * f.signBit →
      let extreme : Int := if f.negative a then -(2 ^ (n - 1)) else 2 ^ (n - 1) - 1
      (f.number a = none → f.toInt n a = (extreme, true, false)) ∧
      ∀ x : ℚ, f.number a = some x →
        let t : Int := if 0 ≤ x then ⌊x⌋ else ⌈x⌉
        f.toInt n a =
          if -(2 ^ (n - 1)) ≤ t ∧ t < 2 ^ (n - 1) then (t, false, decide ((t : ℚ) ≠ x)) else (extreme, true, false)

/-- The compares: the relation of the two numbers, or unordered, into the fcc field, and nv for a signalling NaN (any
NaN for FCMPE); with nv's trap enabled fp_exception_ieee_754 and the fcc field unchanged. No F register and no byte
changes (45_fp.md R816 to R818, R820, R821). The order nv, of, uf, dz, nx in FSR is from general knowledge (R88, log
9). -/
def Obligations.FloatingPointCompares : Prop :=
  ∀ (s : State) (n : FccSel) (rs1 rs2 : RegField), s.fpEnabled = true →
    let Compares := fun (i : Instr) (f : Float.Format) (a b : Nat) (nv : Bool) =>
      let r : BitVec 2 :=
        if f.isNaN a || f.isNaN b then 3#2
        else if f.extended a = f.extended b then 0#2
        else if f.extended a < f.extended b then 1#2
        else 2#2
      exec i s =
        .next
          (if nv && s.fsr.tem.getLsbD 4 then
            takeTrap .fpExceptionIeee754 { s with fsr := { s.fsr with cexc := 0b10000#5, ftt := 1#3 } }
          else
            { s.advance with
              fsr :=
                { withFcc s.fsr n r with
                  cexc := if nv then 0b10000#5 else 0#5
                  aexc := if nv then s.fsr.aexc ||| 0b10000#5 else s.fsr.aexc
                  ftt := 0#3 } })
    let a := (s.readFS rs1).toNat
    let b := (s.readFS rs2).toNat
    let x := (s.readFD rs1).toNat
    let y := (s.readFD rs2).toNat
    let f := Float.single
    let g := Float.double
    Compares (.fcmps n rs1 rs2) f a b (f.isSNaN a || f.isSNaN b) ∧
    Compares (.fcmpd n rs1 rs2) g x y (g.isSNaN x || g.isSNaN y) ∧
    Compares (.fcmpes n rs1 rs2) f a b (f.isNaN a || f.isNaN b) ∧
    Compares (.fcmped n rs1 rs2) g x y (g.isNaN x || g.isNaN y)

/-- The FPops the hardware does not implement, the quad-precision ones and the square roots: with the FPU enabled,
fp_exception_other with FSR.ftt = 3 and nothing else (45_fp.md R803, R854, R855). -/
def Obligations.UnimplementedFloatingPoint : Prop :=
  ∀ s : State, s.fpEnabled = true →
    let t := takeTrap .fpExceptionOther { s with fsr := { s.fsr with ftt := 3#3 } }
    (∀ p ∈ [Instr.fmovq, Instr.fnegq, Instr.fabsq, Instr.fsqrts, Instr.fsqrtd, Instr.fsqrtq, Instr.fqtox, Instr.fxtoq,
        Instr.fqtos, Instr.fqtod, Instr.fitoq, Instr.fstoq, Instr.fdtoq, Instr.fqtoi], ∀ rd rs2,
      exec (p rd rs2) s = .next t) ∧
    (∀ p ∈ [Instr.faddq, Instr.fsubq, Instr.fmulq, Instr.fdivq, Instr.fdmulq, Instr.fmovrqz, Instr.fmovrqlez,
        Instr.fmovrqlz, Instr.fmovrqnz, Instr.fmovrqgz, Instr.fmovrqgez], ∀ rd rs1 rs2,
      exec (p rd rs1 rs2) s = .next t) ∧
    (∀ p ∈ [Instr.fcmpq, Instr.fcmpeq], ∀ n rs1 rs2, exec (p n rs1 rs2) s = .next t) ∧
    (∀ p ∈ [Instr.fmovqicc, Instr.fmovqxcc], ∀ rd c rs2, exec (p rd c rs2) s = .next t) ∧
    ∀ rd n c rs2, exec (.fmovqfcc rd n c rs2) s = .next t

/-- With FPRS.fef or PSTATE.pef 0, an FPop, a VIS instruction that needs the FPU, and a load or store of F registers
or of FSR raise fp_disabled and change nothing else but the dirty bit of their destination's half; a block transfer of
a register that starts no block, and STDFA with i = 1 and a partial-store ASI in the ASI register, raise
illegal_instruction first (43_fp_loadstore.md R662 to R697, 45_fp.md R800, 46_vis.md R880). That no other dirty bit is
set is D13 (log 18); that a partial-store ASI in the ASI register is illegal is log 22. -/
def Obligations.DisabledFloatingPoint : Prop :=
  ∀ s : State, s.fpEnabled = false →
    let off : Result := .next (takeTrap .fpDisabled s)
    let offDouble := fun rd : RegField =>
      (.next (takeTrap .fpDisabled
        { s with fprs := if rd.toNat % 2 = 1 then { s.fprs with du := true } else { s.fprs with dl := true } }) : Result)
    let illegal : Result := .next (takeTrap .illegalInstruction s)
    (∀ i : Instr,
      match i.fpuUse with
      | .none => True
      | .noDestination => exec i s = off
      | .single => exec i s = .next (takeTrap .fpDisabled { s with fprs := { s.fprs with dl := true } })
      | .double rd => exec i s = offDouble rd) ∧
    ∀ (rd rs1 rs2 : RegField) (asi : BitVec 8) (o : AsiOp2),
      let starts := rd.toNat / 2 % 8 = 0
      let block := isBlockAsi (asiOf s o) = true
      exec (.ldblockf rd rs1 asi rs2) s = (if starts then offDouble rd else illegal) ∧
      exec (.stblockf rd rs1 asi rs2) s = (if starts then off else illegal) ∧
      exec (.lddfa rd rs1 o) s = (if block ∧ ¬starts then illegal else offDouble rd) ∧
      exec (.stdfa rd rs1 o) s = (if partialByRegister s o = true ∨ block ∧ ¬starts then illegal else off)

/-! ## VIS -/

/-- The edge masks, from the byte at the left address to the byte at the right one when both are in one doubleword,
and the condition codes of SUBcc for the cc forms; the array addresses, bit field by bit field, and any value when
R[rs2] is above 5 (log 17) (46_vis.md R884 to R886, R889 to R901). That these class C3 instructions run in hardware is
the spec's own decision D7 (log 25). The order n, z, v, c in CCR is from general knowledge (R102, log 9). -/
def Obligations.EdgesAndArrays : Prop :=
  ∀ (s : State) (rd rs1 rs2 : RegField),
    let a := s.readR rs1
    let b := s.readR rs2
    (∀ p ∈ [(Instr.edge8cc, Instr.edge8n, 1, false), (Instr.edge8lcc, Instr.edge8ln, 1, true),
        (Instr.edge16cc, Instr.edge16n, 2, false), (Instr.edge16lcc, Instr.edge16ln, 2, true),
        (Instr.edge32cc, Instr.edge32n, 4, false), (Instr.edge32lcc, Instr.edge32ln, 4, true)],
      let lanes := 8 / p.2.2.1
      ∃ mask : Word,
        (∀ j, j < 64 →
          let lane := if p.2.2.2 then j else lanes - 1 - j
          mask.getLsbD j =
            decide (j < lanes ∧ a.toNat % 8 / p.2.2.1 ≤ lane ∧
              ((if s.pstate.am then a.toNat % 2 ^ 32 / 8 = b.toNat % 2 ^ 32 / 8 else a.toNat / 8 = b.toNat / 8) →
                lane ≤ b.toNat % 8 / p.2.2.1))) ∧
        (∃ t, exec (p.2.1 rd rs1 rs2) s = .next t ∧ WritesR s.advance t rd mask) ∧
        ∃ t, exec (p.1 rd rs1 rs2) s = .next t ∧
          WritesR { s.advance with ccr := exactSubCC a b 0 (BitVec.ofInt 64 (a.toInt - b.toInt)) } t rd mask) ∧
    ∀ p ∈ [(Instr.array8, 1), (Instr.array16, 2), (Instr.array32, 4)],
      (b.toNat ≤ 5 →
        let bits := fun lo n : Nat => a.toNat / 2 ^ lo % 2 ^ n
        let n := b.toNat
        let address :=
          bits 11 2 + bits 33 2 * 2 ^ 2 + bits 55 1 * 2 ^ 4 + bits 13 4 * 2 ^ 5 + bits 35 4 * 2 ^ 9 + bits 56 4 * 2 ^ 13 +
            bits 17 n * 2 ^ 17 + bits 39 n * 2 ^ (17 + n) + bits 60 4 * 2 ^ (17 + 2 * n)
        ∃ t, exec (p.1 rd rs1 rs2) s = .next t ∧ WritesR s.advance t rd (BitVec.ofNat 64 (address * p.2))) ∧
      (5 < b.toNat →
        ∃ v t, exec (p.1 rd rs1 rs2) s = .next t ∧ WritesR { s.advance with freeCount := s.freeCount + 1 } t rd v)

/-- ALIGNADDRESS and its little form, FALIGNDATA, BMASK, BSHUFFLE and SIAM: the aligned sum with GSR.align, the eight
bytes GSR.align selects, the sum with GSR.mask, the bytes GSR.mask selects, GSR's rounding fields (46_vis.md R882,
R883, R887, R888, R902, R958). That the class C3 instructions BMASK and BSHUFFLE run in hardware is the spec's own
decision D7 (log 25). -/
def Obligations.AlignAndShuffle : Prop :=
  ∀ (s : State) (rd rs1 rs2 : RegField), s.fpEnabled = true →
    let sum := ((s.readR rs1).toNat + (s.readR rs2).toNat) % 2 ^ 64
    let bytes := (s.readFD rs1).toNat * 2 ^ 64 + (s.readFD rs2).toNat
    (∃ t, exec (.alignaddress rd rs1 rs2) s = .next t ∧
      WritesR { s.advance with gsr := { s.gsr with align := BitVec.ofNat 3 (sum % 8) } } t rd
        (BitVec.ofNat 64 (sum / 8 * 8))) ∧
    (∃ t, exec (.alignaddress_little rd rs1 rs2) s = .next t ∧
      WritesR { s.advance with gsr := { s.gsr with align := BitVec.ofNat 3 (8 - sum % 8) } } t rd
        (BitVec.ofNat 64 (sum / 8 * 8))) ∧
    (∃ t, exec (.bmask rd rs1 rs2) s = .next t ∧
      WritesR { s.advance with gsr := { s.gsr with mask := BitVec.ofNat 32 sum } } t rd (BitVec.ofNat 64 sum)) ∧
    (∃ t, exec (.faligndata rd rs1 rs2) s = .next t ∧
      WritesFD s.advance t rd (BitVec.ofNat 64 (bytes / 2 ^ (64 - 8 * s.gsr.align.toNat)))) ∧
    (∃ r t, exec (.bshuffle rd rs1 rs2) s = .next t ∧ WritesFD s.advance t rd r ∧
      ∀ k, k < 8 →
        r.toNat / 256 ^ (7 - k) % 256 = bytes / 256 ^ (15 - s.gsr.mask.toNat / 16 ^ (7 - k) % 16) % 256) ∧
    ∀ mode : BitVec 3,
      exec (.siam mode) s =
        .next { s.advance with
          gsr := { s.gsr with im := decide (4 ≤ mode.toNat), irnd := BitVec.ofNat 2 mode.toNat } }

/-- The partitioned compares, one result bit for each lane, and the partitioned additions and subtractions, each lane
modulo its width (46_vis.md R903, R916 to R919, R921 to R924). That the compares, class C3, run in hardware is the
spec's own decision D7 (log 25). -/
def Obligations.PartitionedArithmetic : Prop :=
  ∀ (s : State) (rd rs1 rs2 : RegField), s.fpEnabled = true →
    (∀ p ∈ ([(Instr.fcmpgt16, 16, fun x y => decide (y < x)), (Instr.fcmpgt32, 32, fun x y => decide (y < x)),
        (Instr.fcmple16, 16, fun x y => decide (x ≤ y)), (Instr.fcmple32, 32, fun x y => decide (x ≤ y)),
        (Instr.fcmpne16, 16, fun x y => decide (x ≠ y)), (Instr.fcmpne32, 32, fun x y => decide (x ≠ y)),
        (Instr.fcmpeq16, 16, fun x y => decide (x = y)), (Instr.fcmpeq32, 32, fun x y => decide (x = y))] :
        List ((RegField → RegField → RegField → Instr) × Nat × (Int → Int → Bool))),
      ∃ m t, exec (p.1 rd rs1 rs2) s = .next t ∧ WritesR s.advance t rd m ∧
        ∀ j, j < 64 → m.getLsbD j =
          (decide (p.2.1 * j < 64) &&
            p.2.2 ((s.readFD rs1).extractLsb' (p.2.1 * j) p.2.1).toInt
              ((s.readFD rs2).extractLsb' (p.2.1 * j) p.2.1).toInt)) ∧
    (∀ p ∈ [(Instr.fpadd16, 16, 1), (Instr.fpadd32, 32, 1), (Instr.fpsub16, 16, -1), (Instr.fpsub32, 32, -1)],
      ∃ r t, exec (p.1 rd rs1 rs2) s = .next t ∧ WritesFD s.advance t rd r ∧
        ∀ j, p.2.1 * j < 64 → r.extractLsb' (p.2.1 * j) p.2.1 =
          BitVec.ofInt p.2.1 (((s.readFD rs1).extractLsb' (p.2.1 * j) p.2.1).toInt +
            p.2.2 * ((s.readFD rs2).extractLsb' (p.2.1 * j) p.2.1).toInt)) ∧
    ∀ p ∈ [(Instr.fpadd16s, 16, 1), (Instr.fpadd32s, 32, 1), (Instr.fpsub16s, 16, -1), (Instr.fpsub32s, 32, -1)],
      ∃ r t, exec (p.1 rd rs1 rs2) s = .next t ∧ WritesFS s.advance t rd r ∧
        ∀ j, p.2.1 * j < 32 → r.extractLsb' (p.2.1 * j) p.2.1 =
          BitVec.ofInt p.2.1 (((s.readFS rs1).extractLsb' (p.2.1 * j) p.2.1).toInt +
            p.2.2 * ((s.readFS rs2).extractLsb' (p.2.1 * j) p.2.1).toInt)

/-- The sixteen logical operations on F registers, bit by bit, double and single (46_vis.md R925 to R956). -/
def Obligations.LogicalOperationsOnF : Prop :=
  ∀ (s : State) (rd rs1 rs2 : RegField), s.fpEnabled = true →
    ∀ p ∈ ([(Instr.fzero rd, Instr.fzeros rd, fun _ _ => false), (.fone rd, .fones rd, fun _ _ => true),
        (.fsrc1 rd rs1, .fsrc1s rd rs1, fun x _ => x), (.fsrc2 rd rs2, .fsrc2s rd rs2, fun _ y => y),
        (.fnot1 rd rs1, .fnot1s rd rs1, fun x _ => !x), (.fnot2 rd rs2, .fnot2s rd rs2, fun _ y => !y),
        (.for_ rd rs1 rs2, .fors rd rs1 rs2, fun x y => x || y),
        (.fnor rd rs1 rs2, .fnors rd rs1 rs2, fun x y => !(x || y)),
        (.fand rd rs1 rs2, .fands rd rs1 rs2, fun x y => x && y),
        (.fnand rd rs1 rs2, .fnands rd rs1 rs2, fun x y => !(x && y)),
        (.fxor rd rs1 rs2, .fxors rd rs1 rs2, fun x y => x != y),
        (.fxnor rd rs1 rs2, .fxnors rd rs1 rs2, fun x y => x == y),
        (.fornot1 rd rs1 rs2, .fornot1s rd rs1 rs2, fun x y => !x || y),
        (.fornot2 rd rs1 rs2, .fornot2s rd rs1 rs2, fun x y => x || !y),
        (.fandnot1 rd rs1 rs2, .fandnot1s rd rs1 rs2, fun x y => !x && y),
        (.fandnot2 rd rs1 rs2, .fandnot2s rd rs1 rs2, fun x y => x && !y)] :
        List (Instr × Instr × (Bool → Bool → Bool))),
      (∃ r t, exec p.1 s = .next t ∧ WritesFD s.advance t rd r ∧
        ∀ k, k < 64 → r.getLsbD k = p.2.2 ((s.readFD rs1).getLsbD k) ((s.readFD rs2).getLsbD k)) ∧
      ∃ r t, exec p.2.1 s = .next t ∧ WritesFS s.advance t rd r ∧
        ∀ k, k < 32 → r.getLsbD k = p.2.2 ((s.readFS rs1).getLsbD k) ((s.readFS rs2).getLsbD k)
end

