-- ==== Sys2Proof/Laws/Control.lean ====
section
/-!
SUPPORT. What the shared ways an instruction ends can do: complete, trap, check the FPU, the mode or a condition first.
-/

namespace Sys2Proof.Machine

@[simp] theorem complete_eq (s : State) : complete s = .next s.advance := rfl
/-- At the default priority internal_processor_error competes with nothing that an instruction raises. -/
@[simp] theorem State.lateIpe_eq (s : State) : s.lateIpe = false := rfl
@[simp] theorem State.outrankIpe_eq (s : State) (priority : Nat) : s.outrankIpe priority = s := rfl
@[simp] theorem State.trapOf_eq (s : State) (e : Exc) : s.trapOf e = takeTrap e s := rfl
/-- So an instruction is simply attempted. -/
@[simp] theorem runInstruction_eq (s : State) : runInstruction s = attemptInstruction s := rfl
@[simp] theorem raise_eq (e : Exc) (s : State) : raise e s = .next (takeTrap e s) := rfl
@[simp] theorem writeBack_eq (s : State) (rd : RegField) (v : Word) : writeBack s rd v = .next (s.writeR rd v).advance :=
  rfl
@[simp] theorem writeBackCC_eq (s : State) (rd : RegField) (v : Word) (c : BitVec 8) :
    writeBackCC s rd v c = .next ((s.writeR rd v).setCcr c).advance := rfl

/-- The three things a trap can do: enter error_state, enter RED_state, or be delivered normally. -/
theorem takeTrap_cases (e : Exc) (s : State) :
    (s.tl = 6 ∧ takeTrap e s = { s with errorState := some e.tt }) ∨
    (s.tl ≠ 6 ∧ ∃ tlz,
      takeTrap e s = s.enterRed (nextLevel s.tl) e.tt (windowTrapCwp e.tt s.win) tlz 0xA0#8) ∨
    (s.tl.val < 5 ∧ s.hpstate.red = false ∧ takeTrap e s = s.normalTrap e) := by
  have h7 := s.tl.isLt
  have hm : Config.maxTL = 6 := rfl
  by_cases h6 : s.tl.val = Config.maxTL
  · exact .inl ⟨Fin.ext (by simp [h6, hm]), by rw [takeTrap, if_pos h6]⟩
  · have hne : s.tl ≠ 6 := fun e => h6 (by rw [e]; rfl)
    by_cases hr : s.hpstate.red = true
    · exact .inr (.inl ⟨hne, _, by rw [takeTrap, if_neg h6, if_pos hr]⟩)
    · by_cases h5 : s.tl.val + 1 = Config.maxTL
      · exact .inr (.inl ⟨hne, _, by rw [takeTrap, if_neg h6, if_neg hr, if_pos h5]⟩)
      · exact .inr (.inr ⟨by omega, by simpa using hr, by rw [takeTrap, if_neg h6, if_neg hr, if_neg h5]⟩)

theorem withFp_next {s t : State} {k : Result} (h : withFp s k = .next t) :
    (s.fpEnabled = true ∧ k = .next t) ∨ (s.fpEnabled = false ∧ t = takeTrap .fpDisabled s) := by
  unfold withFp at h
  split at h
  · exact .inl ⟨‹_›, h⟩
  · exact .inr ⟨by simpa using ‹¬s.fpEnabled = true›, by simpa using h.symm⟩

theorem withFpDest_next {s t : State} {mark : State → State} {k : Result} (h : withFpDest s mark k = .next t) :
    (s.fpEnabled = true ∧ k = .next t) ∨ (s.fpEnabled = false ∧ t = takeTrap .fpDisabled (mark s)) := by
  unfold withFpDest at h
  split at h
  · exact .inl ⟨‹_›, h⟩
  · exact .inr ⟨by simpa using ‹¬s.fpEnabled = true›, by simpa using h.symm⟩

theorem privilegedOnly_next {s t : State} {k : Result} (h : privilegedOnly s k = .next t) :
    (s.isUser = true ∧ t = takeTrap .privilegedOpcode s) ∨ (s.isUser = false ∧ k = .next t) := by
  unfold privilegedOnly at h
  split at h
  · exact .inl ⟨‹_›, by simpa using h.symm⟩
  · exact .inr ⟨by simpa using ‹¬s.isUser = true›, h⟩

theorem hyperOnly_next {s t : State} {k : Result} (h : hyperOnly s k = .next t) :
    (s.hpstate.hpriv = true ∧ k = .next t) ∨ (s.hpstate.hpriv = false ∧ t = takeTrap .illegalInstruction s) := by
  unfold hyperOnly at h
  split at h
  · exact .inl ⟨‹_›, h⟩
  · exact .inr ⟨by simpa using ‹¬s.hpstate.hpriv = true›, by simpa using h.symm⟩

theorem unlessLocked_next {s t : State} {b : Bool} {k : Result} (h : unlessLocked s b k = .next t) :
    (s.isUser = true ∧ b = true ∧ t = takeTrap .privilegedAction s) ∨ k = .next t := by
  unfold unlessLocked at h
  split at h
  · rename_i hb
    rw [Bool.and_eq_true] at hb
    exact .inl ⟨hb.1, hb.2, by simpa using h.symm⟩
  · exact .inr h

theorem branchIf_next {s t : State} {taken a : Bool} {ea : Word} (h : branchIf s taken a ea = .next t) :
    t = s.delayedTransfer ea ∨ t = s.annulDelay ∨ t = s.advance := by
  unfold branchIf at h
  split at h
  · exact .inl (by simpa using h.symm)
  · split at h
    · exact .inr (.inl (by simpa using h.symm))
    · exact .inr (.inr (by simpa using h.symm))

theorem moveIf_next {s t : State} {b : Bool} {rd : RegField} {v : Word} (h : moveIf s b rd v = .next t) :
    t = (s.writeR rd v).advance ∨ t = s.advance := by
  unfold moveIf at h
  split at h
  · exact .inl (by simpa using h.symm)
  · exact .inr (by simpa using h.symm)

/-- What an FPop that delivers a result can do: trap with cexc and ftt written, or write the result. -/
theorem fpDeliver_next {s t : State} {c : Float.Computed} {w : State → State} (h : fpDeliver s c w = .next t) :
    (t = takeTrap .fpExceptionIeee754
      (s.setFsr { s.fsr with cexc := (ieeeOutcome s.fsr.tem c).1, ftt := 1#3 })) ∨
    (t = ((w s).setFsr ((w s).fsr.completed (ieeeOutcome s.fsr.tem c).1)).advance) := by
  unfold fpDeliver at h
  split at h
  · exact .inl (by simpa using h.symm)
  · exact .inr (by simpa using h.symm)

end Sys2Proof.Machine
end

