-- ==== Sys2Proof/Laws/Access.lean ====
section
/-!
SUPPORT. Everything a load, a store and an atomic can do, said once for each access wrapper: it traps, or it continues with
what the memory or the register holds; and what a trap of a data access does.
-/

namespace Sys2Proof.Machine

/-- A trap reads nothing of the MMU's fault registers, the requests or the free values, and hands them on. -/
theorem takeTrap_records (e : Exc) (s : State) (m : MmuState) (r : HostRequests) (k : Nat)
    (hm : m = { s.mmu with dsfar := m.dsfar, dsfsr := m.dsfsr, dtagAccess := m.dtagAccess }) :
    takeTrap e { s with mmu := m, requests := r, freeCount := k } =
      { takeTrap e s with
        mmu :=
          { (takeTrap e s).mmu with dsfar := m.dsfar, dsfsr := m.dsfsr, dtagAccess := m.dtagAccess }
        requests := r
        freeCount := k } := by
  rw [hm]
  unfold takeTrap
  split
  · rfl
  · split
    · rfl
    · split
      · rfl
      · rfl

/-- At TL = MAXTL a data access enters error_state, uses up an injected error and records nothing. -/
theorem raiseData_maxTL {s : State} (h : s.tl = 6) (a : Access) (e : Exc) :
    raiseData s a e =
      { s with
        errorState := some e.tt
        requests :=
          { s.requests with
            dataAccessError := if e = .dataAccessError then false else s.requests.dataAccessError } } := by
  have h6 : s.tl.val = Config.maxTL := by rw [h]; rfl
  by_cases hr : e = .dataAccessError <;> simp [raiseData, takeTrap, h6, hr]

/-- Below MAXTL what a data access does when it raises `e`: the trap; D-SFAR and D-SFSR for the exceptions of `writesDsfar`, the
data tag access register for those of `writesDtag`, its context that of the access but after data_access_exception; an
injected error used up. -/
theorem raiseData_below {s : State} (h : s.tl ≠ 6) (a : Access) (e : Exc) :
    ∃ (dsfsr : Word) (ctx : BitVec 13) (k : Nat),
      (e ≠ .dataAccessException → ctx = (a.context s).setWidth 13) ∧
      raiseData s a e =
        { takeTrap e s with
          mmu :=
            { (takeTrap e s).mmu with
              dsfar := if writesDsfar e then s.amMask a.addr else s.mmu.dsfar
              dsfsr := if writesDsfar e then dsfsr else s.mmu.dsfsr
              dtagAccess := if writesDtag e then tagAccess (s.amMask a.addr) ctx else s.mmu.dtagAccess }
          requests :=
            { s.requests with
              dataAccessError := if e = .dataAccessError then false else s.requests.dataAccessError }
          freeCount := k } := by
  have h6 : s.tl.val ≠ Config.maxTL := fun c => h (Fin.ext c)
  by_cases hw : writesDsfar e = true
  · have hne : e ≠ .dataAccessError := by rintro rfl; cases hw
    refine ⟨s.freeWord,
      if e = .dataAccessException then s.drawn.freeWord.setWidth 13 else (a.context s).setWidth 13, s.freeCount + 2,
      fun c => if_neg c, ?_⟩
    unfold raiseData recordDataFault
    simp only [State.trapOf_eq, hne, h6, hw, if_true, if_false]
    exact takeTrap_records e s _ s.requests _ rfl
  · have hd : writesDtag e = false := by cases e <;> first | rfl | exact absurd rfl hw
    refine ⟨0#64, (a.context s).setWidth 13, s.freeCount, fun _ => rfl, ?_⟩
    unfold raiseData recordDataFault
    simp only [State.trapOf_eq, h6, hw, hd, if_false, Bool.false_eq_true]
    refine Eq.trans ?_ ((takeTrap_records e s s.mmu
      { s.requests with dataAccessError := if e = .dataAccessError then false else s.requests.dataAccessError }
      s.freeCount rfl).trans rfl)
    by_cases hr : e = .dataAccessError <;> simp only [hr, if_true, if_false]

/-- What `withAccess` can do when it answers a next state. -/
theorem withAccess_next {s t : State} {a : Access} {f : Nat → Bool → Result} {g : BitVec 8 → Word → Result}
    (h : withAccess s a f g = .next t) :
    (∃ e, dataAccess s a = .trap e ∧ t = raiseData s a e) ∨
    (∃ pa little, dataAccess s a = .memory pa little ∧ f pa little = .next t) ∨
    (∃ asi va, dataAccess s a = .register asi va ∧ g asi va = .next t) := by
  unfold withAccess at h
  split at h
  · exact .inl ⟨_, ‹_›, by simpa using h.symm⟩
  · cases h
  · exact .inr (.inl ⟨_, _, ‹_›, h⟩)
  · exact .inr (.inr ⟨_, _, ‹_›, h⟩)

/-- `withAccess` at a physical address. -/
theorem withAccess_memory {s : State} {a : Access} {pa : Nat} {little : Bool} (h : dataAccess s a = .memory pa little)
    (f : Nat → Bool → Result) (g : BitVec 8 → Word → Result) : withAccess s a f g = f pa little := by
  unfold withAccess; rw [h]

/-- `withAccess` at a register. -/
theorem withAccess_register {s : State} {a : Access} {asi : BitVec 8} {va : Word}
    (h : dataAccess s a = .register asi va) (f : Nat → Bool → Result) (g : BitVec 8 → Word → Result) :
    withAccess s a f g = g asi va := by
  unfold withAccess; rw [h]

/-- `withAccess` on an exception. -/
theorem withAccess_trap {s : State} {a : Access} {e : Exc} (h : dataAccess s a = .trap e) (f : Nat → Bool → Result)
    (g : BitVec 8 → Word → Result) : withAccess s a f g = .next (raiseData s a e) := by
  unfold withAccess; rw [h]

/-- What a load can do when it answers a next state. -/
theorem loadValue_next {s t : State} {a : Access} {k : Word → Result} (h : loadValue s a k = .next t) :
    (∃ e, t = raiseData s a e) ∨
    (∃ pa little, dataAccess s a = .memory pa little ∧ k (Memory.readInt s.mem pa a.size little) = .next t) ∨
    (∃ asi va v, dataAccess s a = .register asi va ∧ readAsiReg s asi va = some v ∧ k v = .next t) := by
  rcases withAccess_next h with ⟨e, _, h'⟩ | ⟨pa, l, hd, h'⟩ | ⟨asi, va, hd, h'⟩
  · exact .inl ⟨e, h'⟩
  · exact .inr (.inl ⟨pa, l, hd, h'⟩)
  · split at h'
    · exact .inr (.inr ⟨asi, va, _, hd, ‹_›, h'⟩)
    · exact .inl ⟨_, by simpa using h'.symm⟩

/-- What a store can do when it answers a next state. -/
theorem storeValue_next {s t : State} {a : Access} {v : Word} {k : State → Result} (h : storeValue s a v k = .next t) :
    (∃ e, t = raiseData s a e) ∨
    (∃ pa little, dataAccess s a = .memory pa little ∧
      k { s with mem := Memory.writeInt s.mem pa a.size little v } = .next t) ∨
    (∃ asi va s', dataAccess s a = .register asi va ∧ writeAsiReg s asi va v = some s' ∧ k s' = .next t) := by
  rcases withAccess_next h with ⟨e, _, h'⟩ | ⟨pa, l, hd, h'⟩ | ⟨asi, va, hd, h'⟩
  · exact .inl ⟨e, h'⟩
  · exact .inr (.inl ⟨pa, l, hd, h'⟩)
  · split at h'
    · exact .inr (.inr ⟨asi, va, _, hd, ‹_›, h'⟩)
    · exact .inl ⟨_, by simpa using h'.symm⟩

/-- What an atomic can do when it answers a next state. -/
theorem atomicValue_next {s t : State} {a : Access} {f : Word → Word} {k : State → Word → Result}
    (h : atomicValue s a f k = .next t) :
    (∃ e, t = raiseData s a e) ∨
    (∃ pa little, dataAccess s a = .memory pa little ∧
      k { s with
          mem := Memory.writeInt s.mem pa a.size little (f (Memory.readInt s.mem pa a.size little)) }
        (Memory.readInt s.mem pa a.size little) = .next t) := by
  rcases withAccess_next h with ⟨e, _, h'⟩ | ⟨pa, l, hd, h'⟩ | ⟨asi, va, hd, h'⟩
  · exact .inl ⟨e, h'⟩
  · exact .inr ⟨pa, l, hd, h'⟩
  · exact .inl ⟨_, by simpa using h'.symm⟩

/-- What a multi-part load can do when it answers a next state. -/
theorem loadParts_next {s t : State} {a : Access} {part : Nat} {k : (Nat → Word) → Result}
    (h : loadParts s a part k = .next t) :
    (∃ e, t = raiseData s a e) ∨
    (∃ pa little, dataAccess s a = .memory pa little ∧
      k (fun i => Memory.readInt s.mem (pa + part * i) part little) = .next t) := by
  rcases withAccess_next h with ⟨e, _, h'⟩ | ⟨pa, l, hd, h'⟩ | ⟨asi, va, hd, h'⟩
  · exact .inl ⟨e, h'⟩
  · exact .inr ⟨pa, l, hd, h'⟩
  · exact .inl ⟨_, by simpa using h'.symm⟩

/-- What a multi-part store can do when it answers a next state. -/
theorem storeParts_next {s t : State} {a : Access} {part : Nat} {vs : List Word} {k : State → Result}
    (h : storeParts s a part vs k = .next t) :
    (∃ e, t = raiseData s a e) ∨
    (∃ pa little, dataAccess s a = .memory pa little ∧
      k { s with mem := writeParts s.mem pa part little vs } = .next t) := by
  rcases withAccess_next h with ⟨e, _, h'⟩ | ⟨pa, l, hd, h'⟩ | ⟨asi, va, hd, h'⟩
  · exact .inl ⟨e, h'⟩
  · exact .inr ⟨pa, l, hd, h'⟩
  · exact .inl ⟨_, by simpa using h'.symm⟩

end Sys2Proof.Machine
end

