-- ==== Sys2Proof/Laws/Encoding.lean ====
section
/-!
SUPPORT. A field read from a word of a format is the field the word was made of, and each operand form is read back from
the low bits it was put into: what a round trip of an instruction needs of Decode.lean.
-/

namespace Sys2Proof

/-! ## Fields of formats -/

@[simp] theorem fOp_f3 (op : BitVec 2) (rd : RegField) (op3 : BitVec 6) (rs1 : RegField) (low : BitVec 14) : fOp (f3 op rd op3 rs1 low) = op := by
  apply BitVec.eq_of_getLsbD_eq; intro i hi
  simp only [fOp, f3, BitVec.getLsbD_extractLsb', BitVec.getLsbD_append, hi, decide_true, Bool.true_and]
  repeat rw [if_neg (by omega)]
  congr 1; omega

@[simp] theorem fRd_f3 (op : BitVec 2) (rd : RegField) (op3 : BitVec 6) (rs1 : RegField) (low : BitVec 14) : fRd (f3 op rd op3 rs1 low) = rd := by
  apply BitVec.eq_of_getLsbD_eq; intro i hi
  simp only [fRd, f3, BitVec.getLsbD_extractLsb', BitVec.getLsbD_append, hi, decide_true, Bool.true_and]
  repeat first | rw [if_neg (by omega)] | rw [if_pos (by omega)]
  congr 1; omega

@[simp] theorem fOp3_f3 (op : BitVec 2) (rd : RegField) (op3 : BitVec 6) (rs1 : RegField) (low : BitVec 14) : fOp3 (f3 op rd op3 rs1 low) = op3 := by
  apply BitVec.eq_of_getLsbD_eq; intro i hi
  simp only [fOp3, f3, BitVec.getLsbD_extractLsb', BitVec.getLsbD_append, hi, decide_true, Bool.true_and]
  repeat first | rw [if_neg (by omega)] | rw [if_pos (by omega)]
  congr 1; omega

@[simp] theorem fRs1_f3 (op : BitVec 2) (rd : RegField) (op3 : BitVec 6) (rs1 : RegField) (low : BitVec 14) : fRs1 (f3 op rd op3 rs1 low) = rs1 := by
  apply BitVec.eq_of_getLsbD_eq; intro i hi
  simp only [fRs1, f3, BitVec.getLsbD_extractLsb', BitVec.getLsbD_append, hi, decide_true, Bool.true_and]
  repeat first | rw [if_neg (by omega)] | rw [if_pos (by omega)]
  congr 1; omega

@[simp] theorem fLow14_f3 (op : BitVec 2) (rd : RegField) (op3 : BitVec 6) (rs1 : RegField) (low : BitVec 14) : fLow14 (f3 op rd op3 rs1 low) = low := by
  apply BitVec.eq_of_getLsbD_eq; intro i hi
  simp only [fLow14, f3, BitVec.getLsbD_extractLsb', BitVec.getLsbD_append, hi, decide_true, Bool.true_and]
  repeat first | rw [if_neg (by omega)] | rw [if_pos (by omega)]
  congr 1; omega

@[simp] theorem fOp_fSethi (rd : RegField) (op2 : BitVec 3) (imm22 : BitVec 22) : fOp (fSethi rd op2 imm22) = 0#2 := by
  apply BitVec.eq_of_getLsbD_eq; intro i hi
  simp only [fOp, fSethi, BitVec.getLsbD_extractLsb', BitVec.getLsbD_append, hi, decide_true, Bool.true_and]
  repeat rw [if_neg (by omega)]
  congr 1; omega

@[simp] theorem fRd_fSethi (rd : RegField) (op2 : BitVec 3) (imm22 : BitVec 22) : fRd (fSethi rd op2 imm22) = rd := by
  apply BitVec.eq_of_getLsbD_eq; intro i hi
  simp only [fRd, fSethi, BitVec.getLsbD_extractLsb', BitVec.getLsbD_append, hi, decide_true, Bool.true_and]
  repeat first | rw [if_neg (by omega)] | rw [if_pos (by omega)]
  congr 1; omega

@[simp] theorem fOp2_fSethi (rd : RegField) (op2 : BitVec 3) (imm22 : BitVec 22) : fOp2 (fSethi rd op2 imm22) = op2 := by
  apply BitVec.eq_of_getLsbD_eq; intro i hi
  simp only [fOp2, fSethi, BitVec.getLsbD_extractLsb', BitVec.getLsbD_append, hi, decide_true, Bool.true_and]
  repeat first | rw [if_neg (by omega)] | rw [if_pos (by omega)]
  congr 1; omega

@[simp] theorem fImm22_fSethi (rd : RegField) (op2 : BitVec 3) (imm22 : BitVec 22) : fImm22 (fSethi rd op2 imm22) = imm22 := by
  apply BitVec.eq_of_getLsbD_eq; intro i hi
  simp only [fImm22, fSethi, BitVec.getLsbD_extractLsb', BitVec.getLsbD_append, hi, decide_true, Bool.true_and]
  repeat first | rw [if_neg (by omega)] | rw [if_pos (by omega)]
  congr 1; omega

@[simp] theorem fOp_fBicc (a : Bool) (cond : BitVec 4) (op2 : BitVec 3) (disp22 : BitVec 22) : fOp (fBicc a cond op2 disp22) = 0#2 := by
  apply BitVec.eq_of_getLsbD_eq; intro i hi
  simp only [fOp, fBicc, BitVec.getLsbD_extractLsb', BitVec.getLsbD_append, hi, decide_true, Bool.true_and]
  repeat rw [if_neg (by omega)]
  congr 1; omega

@[simp] theorem fAnnul_fBicc (a : Bool) (cond : BitVec 4) (op2 : BitVec 3) (disp22 : BitVec 22) : fAnnul (fBicc a cond op2 disp22) = a := by
  simp only [fAnnul, fBicc, bit, BitVec.getLsbD_append]
  simp

@[simp] theorem fCond_fBicc (a : Bool) (cond : BitVec 4) (op2 : BitVec 3) (disp22 : BitVec 22) : fCond (fBicc a cond op2 disp22) = cond := by
  apply BitVec.eq_of_getLsbD_eq; intro i hi
  simp only [fCond, fBicc, BitVec.getLsbD_extractLsb', BitVec.getLsbD_append, hi, decide_true, Bool.true_and]
  repeat first | rw [if_neg (by omega)] | rw [if_pos (by omega)]
  congr 1; omega

@[simp] theorem fOp2_fBicc (a : Bool) (cond : BitVec 4) (op2 : BitVec 3) (disp22 : BitVec 22) : fOp2 (fBicc a cond op2 disp22) = op2 := by
  apply BitVec.eq_of_getLsbD_eq; intro i hi
  simp only [fOp2, fBicc, BitVec.getLsbD_extractLsb', BitVec.getLsbD_append, hi, decide_true, Bool.true_and]
  repeat first | rw [if_neg (by omega)] | rw [if_pos (by omega)]
  congr 1; omega

@[simp] theorem fImm22_fBicc (a : Bool) (cond : BitVec 4) (op2 : BitVec 3) (disp22 : BitVec 22) : fImm22 (fBicc a cond op2 disp22) = disp22 := by
  apply BitVec.eq_of_getLsbD_eq; intro i hi
  simp only [fImm22, fBicc, BitVec.getLsbD_extractLsb', BitVec.getLsbD_append, hi, decide_true, Bool.true_and]
  repeat first | rw [if_neg (by omega)] | rw [if_pos (by omega)]
  congr 1; omega

@[simp] theorem fOp_fBpcc (a : Bool) (cond : BitVec 4) (op2 : BitVec 3) (cc : BitVec 2) (p : Bool) (disp19 : BitVec 19) : fOp (fBpcc a cond op2 cc p disp19) = 0#2 := by
  apply BitVec.eq_of_getLsbD_eq; intro i hi
  simp only [fOp, fBpcc, BitVec.getLsbD_extractLsb', BitVec.getLsbD_append, hi, decide_true, Bool.true_and]
  repeat rw [if_neg (by omega)]
  congr 1; omega

@[simp] theorem fAnnul_fBpcc (a : Bool) (cond : BitVec 4) (op2 : BitVec 3) (cc : BitVec 2) (p : Bool) (disp19 : BitVec 19) : fAnnul (fBpcc a cond op2 cc p disp19) = a := by
  simp only [fAnnul, fBpcc, bit, BitVec.getLsbD_append]
  simp

@[simp] theorem fCond_fBpcc (a : Bool) (cond : BitVec 4) (op2 : BitVec 3) (cc : BitVec 2) (p : Bool) (disp19 : BitVec 19) : fCond (fBpcc a cond op2 cc p disp19) = cond := by
  apply BitVec.eq_of_getLsbD_eq; intro i hi
  simp only [fCond, fBpcc, BitVec.getLsbD_extractLsb', BitVec.getLsbD_append, hi, decide_true, Bool.true_and]
  repeat first | rw [if_neg (by omega)] | rw [if_pos (by omega)]
  congr 1; omega

@[simp] theorem fOp2_fBpcc (a : Bool) (cond : BitVec 4) (op2 : BitVec 3) (cc : BitVec 2) (p : Bool) (disp19 : BitVec 19) : fOp2 (fBpcc a cond op2 cc p disp19) = op2 := by
  apply BitVec.eq_of_getLsbD_eq; intro i hi
  simp only [fOp2, fBpcc, BitVec.getLsbD_extractLsb', BitVec.getLsbD_append, hi, decide_true, Bool.true_and]
  repeat first | rw [if_neg (by omega)] | rw [if_pos (by omega)]
  congr 1; omega

@[simp] theorem fCc_fBpcc (a : Bool) (cond : BitVec 4) (op2 : BitVec 3) (cc : BitVec 2) (p : Bool) (disp19 : BitVec 19) : fCc (fBpcc a cond op2 cc p disp19) = cc := by
  apply BitVec.eq_of_getLsbD_eq; intro i hi
  simp only [fCc, fBpcc, BitVec.getLsbD_extractLsb', BitVec.getLsbD_append, hi, decide_true, Bool.true_and]
  repeat first | rw [if_neg (by omega)] | rw [if_pos (by omega)]
  congr 1; omega

@[simp] theorem fPredict_fBpcc (a : Bool) (cond : BitVec 4) (op2 : BitVec 3) (cc : BitVec 2) (p : Bool) (disp19 : BitVec 19) : fPredict (fBpcc a cond op2 cc p disp19) = p := by
  simp only [fPredict, fBpcc, bit, BitVec.getLsbD_append]
  simp

@[simp] theorem fDisp19_fBpcc (a : Bool) (cond : BitVec 4) (op2 : BitVec 3) (cc : BitVec 2) (p : Bool) (disp19 : BitVec 19) : fDisp19 (fBpcc a cond op2 cc p disp19) = disp19 := by
  apply BitVec.eq_of_getLsbD_eq; intro i hi
  simp only [fDisp19, fBpcc, BitVec.getLsbD_extractLsb', BitVec.getLsbD_append, hi, decide_true, Bool.true_and]
  repeat first | rw [if_neg (by omega)] | rw [if_pos (by omega)]
  congr 1; omega

@[simp] theorem fOp_fBpr (a : Bool) (rcond : BitVec 3) (p : Bool) (rs1 : RegField) (disp16 : BitVec 16) : fOp (fBpr a rcond p rs1 disp16) = 0#2 := by
  apply BitVec.eq_of_getLsbD_eq; intro i hi
  simp only [fOp, fBpr, BitVec.getLsbD_extractLsb', BitVec.getLsbD_append, hi, decide_true, Bool.true_and]
  repeat rw [if_neg (by omega)]
  congr 1; omega

@[simp] theorem fAnnul_fBpr (a : Bool) (rcond : BitVec 3) (p : Bool) (rs1 : RegField) (disp16 : BitVec 16) : fAnnul (fBpr a rcond p rs1 disp16) = a := by
  simp only [fAnnul, fBpr, bit, BitVec.getLsbD_append]
  simp

@[simp] theorem fRcond_fBpr (a : Bool) (rcond : BitVec 3) (p : Bool) (rs1 : RegField) (disp16 : BitVec 16) : fRcond (fBpr a rcond p rs1 disp16) = rcond := by
  apply BitVec.eq_of_getLsbD_eq; intro i hi
  simp only [fRcond, fBpr, BitVec.getLsbD_extractLsb', BitVec.getLsbD_append, hi, decide_true, Bool.true_and]
  repeat first | rw [if_neg (by omega)] | rw [if_pos (by omega)]
  congr 1; omega

@[simp] theorem fOp2_fBpr (a : Bool) (rcond : BitVec 3) (p : Bool) (rs1 : RegField) (disp16 : BitVec 16) : fOp2 (fBpr a rcond p rs1 disp16) = 3#3 := by
  apply BitVec.eq_of_getLsbD_eq; intro i hi
  simp only [fOp2, fBpr, BitVec.getLsbD_extractLsb', BitVec.getLsbD_append, hi, decide_true, Bool.true_and]
  repeat first | rw [if_neg (by omega)] | rw [if_pos (by omega)]
  congr 1; omega

@[simp] theorem fPredict_fBpr (a : Bool) (rcond : BitVec 3) (p : Bool) (rs1 : RegField) (disp16 : BitVec 16) : fPredict (fBpr a rcond p rs1 disp16) = p := by
  simp only [fPredict, fBpr, bit, BitVec.getLsbD_append]
  simp

@[simp] theorem fRs1_fBpr (a : Bool) (rcond : BitVec 3) (p : Bool) (rs1 : RegField) (disp16 : BitVec 16) : fRs1 (fBpr a rcond p rs1 disp16) = rs1 := by
  apply BitVec.eq_of_getLsbD_eq; intro i hi
  simp only [fRs1, fBpr, BitVec.getLsbD_extractLsb', BitVec.getLsbD_append, hi, decide_true, Bool.true_and]
  repeat first | rw [if_neg (by omega)] | rw [if_pos (by omega)]
  congr 1; omega

@[simp] theorem fDisp16_fBpr (a : Bool) (rcond : BitVec 3) (p : Bool) (rs1 : RegField) (disp16 : BitVec 16) : fDisp16 (fBpr a rcond p rs1 disp16) = disp16 := by
  apply BitVec.eq_of_getLsbD_eq; intro i hi
  simp only [fDisp16, fBpr, BitVec.getLsbD_append, BitVec.getLsbD_extractLsb']
  by_cases h : i < 14
  · simp [h]
  · have h2 : i - 14 < 2 := by omega
    simp only [h, h2, decide_true, Bool.true_and, if_false]
    repeat first | rw [if_neg (by omega)] | rw [if_pos (by omega)]
    have h3 : 20 + (i - 14) - 14 - 5 - 1 = i - 14 := by omega
    have h4 : 14 + (i - 14) = i := by omega
    simp only [h3, h2, h4, decide_true, Bool.true_and]

@[simp] theorem fOp_f1 (disp30 : BitVec 30) : fOp (f1 disp30) = 1#2 := by
  apply BitVec.eq_of_getLsbD_eq; intro i hi
  simp only [fOp, f1, BitVec.getLsbD_extractLsb', BitVec.getLsbD_append, hi, decide_true, Bool.true_and]
  repeat rw [if_neg (by omega)]
  congr 1; omega

@[simp] theorem fDisp30_f1 (disp30 : BitVec 30) : fDisp30 (f1 disp30) = disp30 := by
  apply BitVec.eq_of_getLsbD_eq; intro i hi
  simp only [fDisp30, f1, BitVec.getLsbD_extractLsb', BitVec.getLsbD_append, hi, decide_true, Bool.true_and]
  repeat first | rw [if_neg (by omega)] | rw [if_pos (by omega)]
  congr 1; omega

/-! ## Operand forms -/

@[simp] theorem op2Of_lowOp2 (o : Op2) : op2Of (lowOp2 o) = some o := by
  cases o with
  | reg rs2 =>
    have h1 : lI (0#1 ++ 0#8 ++ rs2) = false := by simp only [lI, BitVec.getLsbD_append]; simp
    have h2 : (0#1 ++ 0#8 ++ rs2).extractLsb' 5 8 = 0#8 := by
      apply BitVec.eq_of_getLsbD_eq; intro i hi
      simp only [BitVec.getLsbD_extractLsb', BitVec.getLsbD_append, hi]; simp [hi]
    have h3 : lRs2 (0#1 ++ 0#8 ++ rs2) = rs2 := by
      apply BitVec.eq_of_getLsbD_eq; intro i hi
      simp only [lRs2, BitVec.getLsbD_extractLsb', BitVec.getLsbD_append, hi]; simp [hi]
    simp only [op2Of, lowOp2, h1, h2, h3]; simp
  | imm v =>
    have h1 : lI (1#1 ++ v) = true := by simp only [lI, BitVec.getLsbD_append]; simp
    have h2 : (1#1 ++ v).extractLsb' 0 13 = v := by
      apply BitVec.eq_of_getLsbD_eq; intro i hi
      simp only [BitVec.getLsbD_extractLsb', BitVec.getLsbD_append, hi]; simp [hi]
    simp only [op2Of, lowOp2, h1, h2]; simp

@[simp] theorem op2x11Of_lowCC11 (cc : BitVec 2) (o : Op2x11) : op2x11Of (lowCC11 cc o) = some o := by
  cases o with
  | reg rs2 =>
    have h1 : lI (0#1 ++ cc ++ 0#6 ++ rs2) = false := by simp only [lI, BitVec.getLsbD_append]; simp
    have h2 : (0#1 ++ cc ++ 0#6 ++ rs2).extractLsb' 5 6 = 0#6 := by
      apply BitVec.eq_of_getLsbD_eq; intro i hi
      simp only [BitVec.getLsbD_extractLsb', BitVec.getLsbD_append, hi]; simp [hi]
    have h3 : lRs2 (0#1 ++ cc ++ 0#6 ++ rs2) = rs2 := by
      apply BitVec.eq_of_getLsbD_eq; intro i hi
      simp only [lRs2, BitVec.getLsbD_extractLsb', BitVec.getLsbD_append, hi]; simp [hi]
    simp only [op2x11Of, lowCC11, h1, h2, h3]; simp
  | imm v =>
    have h1 : lI (1#1 ++ cc ++ v) = true := by simp only [lI, BitVec.getLsbD_append]; simp
    have h2 : (1#1 ++ cc ++ v).extractLsb' 0 11 = v := by
      apply BitVec.eq_of_getLsbD_eq; intro i hi
      simp only [BitVec.getLsbD_extractLsb', BitVec.getLsbD_append, hi]; simp [hi]
    simp only [op2x11Of, lowCC11, h1, h2]; simp

@[simp] theorem op2x10Of_lowRcond10 (rcond : BitVec 3) (o : Op2x10) : op2x10Of (lowRcond10 rcond o) = some o := by
  cases o with
  | reg rs2 =>
    have h1 : lI (0#1 ++ rcond ++ 0#5 ++ rs2) = false := by simp only [lI, BitVec.getLsbD_append]; simp
    have h2 : (0#1 ++ rcond ++ 0#5 ++ rs2).extractLsb' 5 5 = 0#5 := by
      apply BitVec.eq_of_getLsbD_eq; intro i hi
      simp only [BitVec.getLsbD_extractLsb', BitVec.getLsbD_append, hi]; simp [hi]
    have h3 : lRs2 (0#1 ++ rcond ++ 0#5 ++ rs2) = rs2 := by
      apply BitVec.eq_of_getLsbD_eq; intro i hi
      simp only [lRs2, BitVec.getLsbD_extractLsb', BitVec.getLsbD_append, hi]; simp [hi]
    simp only [op2x10Of, lowRcond10, h1, h2, h3]; simp
  | imm v =>
    have h1 : lI (1#1 ++ rcond ++ v) = true := by simp only [lI, BitVec.getLsbD_append]; simp
    have h2 : (1#1 ++ rcond ++ v).extractLsb' 0 10 = v := by
      apply BitVec.eq_of_getLsbD_eq; intro i hi
      simp only [BitVec.getLsbD_extractLsb', BitVec.getLsbD_append, hi]; simp [hi]
    simp only [op2x10Of, lowRcond10, h1, h2]; simp

@[simp] theorem op2x8Of_lowTcc (cc : BitVec 2) (o : Op2x8) : op2x8Of (lowTcc cc o) = some o := by
  cases o with
  | reg rs2 =>
    have h1 : lI (0#1 ++ cc ++ 0#6 ++ rs2) = false := by simp only [lI, BitVec.getLsbD_append]; simp
    have h2 : (0#1 ++ cc ++ 0#6 ++ rs2).extractLsb' 5 6 = 0#6 := by
      apply BitVec.eq_of_getLsbD_eq; intro i hi
      simp only [BitVec.getLsbD_extractLsb', BitVec.getLsbD_append, hi]; simp [hi]
    have h3 : lRs2 (0#1 ++ cc ++ 0#6 ++ rs2) = rs2 := by
      apply BitVec.eq_of_getLsbD_eq; intro i hi
      simp only [lRs2, BitVec.getLsbD_extractLsb', BitVec.getLsbD_append, hi]; simp [hi]
    simp only [op2x8Of, lowTcc, h1, h2, h3]; simp
  | imm v =>
    have h1 : lI (1#1 ++ cc ++ 0#3 ++ v) = true := by simp only [lI, BitVec.getLsbD_append]; simp
    have h2 : (1#1 ++ cc ++ 0#3 ++ v).extractLsb' 8 3 = 0#3 := by
      apply BitVec.eq_of_getLsbD_eq; intro i hi
      simp only [BitVec.getLsbD_extractLsb', BitVec.getLsbD_append, hi]; simp [hi]
    have h3 : (1#1 ++ cc ++ 0#3 ++ v).extractLsb' 0 8 = v := by
      apply BitVec.eq_of_getLsbD_eq; intro i hi
      simp only [BitVec.getLsbD_extractLsb', BitVec.getLsbD_append, hi]; simp [hi]
    simp only [op2x8Of, lowTcc, h1, h2, h3]; simp

@[simp] theorem shift32Of_lowShift32 (o : Shift32) : shift32Of (lowShift32 o) = some o := by
  cases o with
  | reg rs2 =>
    have h1 : lI (0#1 ++ 0#1 ++ 0#7 ++ rs2) = false := by simp only [lI, BitVec.getLsbD_append]; simp
    have h2 : (0#1 ++ 0#1 ++ 0#7 ++ rs2).extractLsb' 5 7 = 0#7 := by
      apply BitVec.eq_of_getLsbD_eq; intro i hi
      simp only [BitVec.getLsbD_extractLsb', BitVec.getLsbD_append, hi]; simp [hi]
    have h3 : lRs2 (0#1 ++ 0#1 ++ 0#7 ++ rs2) = rs2 := by
      apply BitVec.eq_of_getLsbD_eq; intro i hi
      simp only [lRs2, BitVec.getLsbD_extractLsb', BitVec.getLsbD_append, hi]; simp [hi]
    simp only [shift32Of, lowShift32, h1, h2, h3]; simp
  | imm c =>
    have h1 : lI (1#1 ++ 0#1 ++ 0#7 ++ c) = true := by simp only [lI, BitVec.getLsbD_append]; simp
    have h2 : (1#1 ++ 0#1 ++ 0#7 ++ c).extractLsb' 5 7 = 0#7 := by
      apply BitVec.eq_of_getLsbD_eq; intro i hi
      simp only [BitVec.getLsbD_extractLsb', BitVec.getLsbD_append, hi]; simp [hi]
    have h3 : lRs2 (1#1 ++ 0#1 ++ 0#7 ++ c) = c := by
      apply BitVec.eq_of_getLsbD_eq; intro i hi
      simp only [lRs2, BitVec.getLsbD_extractLsb', BitVec.getLsbD_append, hi]; simp [hi]
    simp only [shift32Of, lowShift32, h1, h2, h3]; simp

@[simp] theorem shift64Of_lowShift64 (o : Shift64) : shift64Of (lowShift64 o) = some o := by
  cases o with
  | reg rs2 =>
    have h1 : lI (0#1 ++ 1#1 ++ 0#7 ++ rs2) = false := by simp only [lI, BitVec.getLsbD_append]; simp
    have h2 : (0#1 ++ 1#1 ++ 0#7 ++ rs2).extractLsb' 5 7 = 0#7 := by
      apply BitVec.eq_of_getLsbD_eq; intro i hi
      simp only [BitVec.getLsbD_extractLsb', BitVec.getLsbD_append, hi]; simp [hi]
    have h3 : lRs2 (0#1 ++ 1#1 ++ 0#7 ++ rs2) = rs2 := by
      apply BitVec.eq_of_getLsbD_eq; intro i hi
      simp only [lRs2, BitVec.getLsbD_extractLsb', BitVec.getLsbD_append, hi]; simp [hi]
    simp only [shift64Of, lowShift64, h1, h2, h3]; simp
  | imm c =>
    have h1 : lI (1#1 ++ 1#1 ++ 0#6 ++ c) = true := by simp only [lI, BitVec.getLsbD_append]; simp
    have h2 : (1#1 ++ 1#1 ++ 0#6 ++ c).extractLsb' 6 6 = 0#6 := by
      apply BitVec.eq_of_getLsbD_eq; intro i hi
      simp only [BitVec.getLsbD_extractLsb', BitVec.getLsbD_append, hi]; simp [hi]
    have h3 : (1#1 ++ 1#1 ++ 0#6 ++ c).extractLsb' 0 6 = c := by
      apply BitVec.eq_of_getLsbD_eq; intro i hi
      simp only [BitVec.getLsbD_extractLsb', BitVec.getLsbD_append, hi]; simp [hi]
    simp only [shift64Of, lowShift64, h1, h2, h3]; simp

@[simp] theorem asiOp2Of_lowAsi (o : AsiOp2) : asiOp2Of (lowAsi o) = o := by
  cases o with
  | reg asi rs2 =>
    have h1 : lI (0#1 ++ asi ++ rs2) = false := by simp only [lI, BitVec.getLsbD_append]; simp
    have h2 : lAsi (0#1 ++ asi ++ rs2) = asi := by
      apply BitVec.eq_of_getLsbD_eq; intro i hi
      simp only [lAsi, BitVec.getLsbD_extractLsb', BitVec.getLsbD_append, hi]; simp [hi]
    have h3 : lRs2 (0#1 ++ asi ++ rs2) = rs2 := by
      apply BitVec.eq_of_getLsbD_eq; intro i hi
      simp only [lRs2, BitVec.getLsbD_extractLsb', BitVec.getLsbD_append, hi]; simp [hi]
    simp only [asiOp2Of, lowAsi, h1, h2, h3]; simp
  | imm v =>
    have h1 : lI (1#1 ++ v) = true := by simp only [lI, BitVec.getLsbD_append]; simp
    have h2 : (1#1 ++ v).extractLsb' 0 13 = v := by
      apply BitVec.eq_of_getLsbD_eq; intro i hi
      simp only [BitVec.getLsbD_extractLsb', BitVec.getLsbD_append, hi]; simp [hi]
    simp only [asiOp2Of, lowAsi, h1, h2]; simp

@[simp] theorem casAsiOf_lowCas (o : CasAsi) (rs2 : RegField) : casAsiOf (lowCas o rs2) = some o := by
  cases o with
  | immAsi a =>
    have h1 : lI (0#1 ++ a ++ rs2) = false := by simp only [lI, BitVec.getLsbD_append]; simp
    have h2 : lAsi (0#1 ++ a ++ rs2) = a := by
      apply BitVec.eq_of_getLsbD_eq; intro i hi
      simp only [lAsi, BitVec.getLsbD_extractLsb', BitVec.getLsbD_append, hi]; simp [hi]
    simp only [casAsiOf, lowCas, h1, h2]; simp
  | asiReg =>
    have h1 : lI (1#1 ++ 0#8 ++ rs2) = true := by simp only [lI, BitVec.getLsbD_append]; simp
    have h2 : lAsi (1#1 ++ 0#8 ++ rs2) = 0#8 := by
      apply BitVec.eq_of_getLsbD_eq; intro i hi
      simp only [lAsi, BitVec.getLsbD_extractLsb', BitVec.getLsbD_append, hi]; simp [hi]
    simp only [casAsiOf, lowCas, h1, h2]; simp

@[simp] theorem lRs2_lowCas (o : CasAsi) (rs2 : RegField) : lRs2 (lowCas o rs2) = rs2 := by
  cases o with
  | immAsi a =>
    have h2 : lRs2 (0#1 ++ a ++ rs2) = rs2 := by
      apply BitVec.eq_of_getLsbD_eq; intro i hi
      simp only [lRs2, BitVec.getLsbD_extractLsb', BitVec.getLsbD_append, hi]; simp [hi]
    simp only [lowCas, h2]
  | asiReg =>
    have h2 : lRs2 (1#1 ++ 0#8 ++ rs2) = rs2 := by
      apply BitVec.eq_of_getLsbD_eq; intro i hi
      simp only [lRs2, BitVec.getLsbD_extractLsb', BitVec.getLsbD_append, hi]; simp [hi]
    simp only [lowCas, h2]

@[simp] theorem lOpf_append (opf : BitVec 9) (rs2 : RegField) : lOpf (opf ++ rs2) = opf := by
  apply BitVec.eq_of_getLsbD_eq; intro i hi
  simp only [lOpf, BitVec.getLsbD_extractLsb', BitVec.getLsbD_append, hi]; simp

@[simp] theorem lRs2_append (opf : BitVec 9) (rs2 : RegField) : lRs2 (opf ++ rs2) = rs2 := by
  apply BitVec.eq_of_getLsbD_eq; intro i hi
  simp only [lRs2, BitVec.getLsbD_extractLsb', BitVec.getLsbD_append, hi]; simp [hi]

@[simp] theorem IntCC.ofBits_bits (c : IntCC) : IntCC.ofBits c.bits = some c := by cases c <;> rfl

@[simp] theorem PrivReg.ofNumber_number (p : PrivReg) : PrivReg.ofNumber p.number = some p := by cases p <;> rfl

@[simp] theorem HyperReg.ofNumber_number (h : HyperReg) : HyperReg.ofNumber h.number = some h := by cases h <;> rfl

end Sys2Proof
end

