-- ==== Sys2Proof/Laws/Memory.lean ====
section
/-!
SUPPORT. The laws of memory: a write is read back, leaves every other byte alone and keeps the canonical form; the same for
values of several bytes.
-/

namespace Sys2Proof.Machine

/-- An address below every listed one is unlisted. -/
theorem Memory.read_below {m : List Host.Cell} {a : Nat} (h : ∀ c ∈ m, a < c.1) : Memory.read m a = Memory.unlisted := by
  induction m with
  | nil => rfl
  | cons c rest ih =>
    have hc := h c (by simp)
    simp only [Memory.read]
    rw [if_neg (by omega)]
    exact ih fun d hd => h d (by simp [hd])

/-- Every cell of a written memory is the new one or an old one. -/
theorem Memory.mem_write {m : List Host.Cell} {a : Nat} {v : Byte} {c : Host.Cell} (h : c ∈ Memory.write m a v) :
    c = (a, v) ∧ v ≠ Memory.unlisted ∨ c ∈ m := by
  induction m with
  | nil => simp only [Memory.write] at h; split at h <;> simp_all
  | cons d rest ih =>
    simp only [Memory.write] at h
    split at h
    · split at h
      · exact .inr h
      · rcases List.mem_cons.1 h with rfl | h'
        · exact .inl ⟨rfl, ‹_›⟩
        · exact .inr h'
    · split at h
      · split at h
        · exact .inr (List.mem_cons_of_mem _ h)
        · rcases List.mem_cons.1 h with rfl | h'
          · exact .inl ⟨rfl, ‹_›⟩
          · exact .inr (List.mem_cons_of_mem _ h')
      · rcases List.mem_cons.1 h with rfl | h'
        · exact .inr (by simp)
        · exact (ih h').imp id (List.mem_cons_of_mem _)

/-- A write keeps the canonical form. -/
theorem Memory.wf_write {m : List Host.Cell} (h : Memory.wf m) (a : Nat) (v : Byte) : Memory.wf (Memory.write m a v) := by
  refine ⟨?_, fun c hc => ?_⟩
  · induction m with
    | nil => simp only [Memory.write]; split <;> simp
    | cons d rest ih =>
      obtain ⟨hp, hv⟩ := h
      obtain ⟨hd, hrest⟩ := List.pairwise_cons.1 hp
      have hwf : Memory.wf rest := ⟨hrest, fun c hc => hv c (List.mem_cons_of_mem _ hc)⟩
      simp only [Memory.write]
      split
      · split
        · exact hp
        · refine List.pairwise_cons.2 ⟨fun c hc => ?_, hp⟩
          rcases List.mem_cons.1 hc with rfl | hc'
          · assumption
          · exact Nat.lt_trans ‹a < d.1› (hd c hc')
      · split
        · split
          · exact hrest
          · exact List.pairwise_cons.2 ⟨fun c hc => by have := hd c hc; simp_all, hrest⟩
        · refine List.pairwise_cons.2 ⟨fun c hc => ?_, ih hwf⟩
          rcases Memory.mem_write hc with ⟨rfl, _⟩ | hc'
          · show d.1 < a; omega
          · exact hd c hc'
  · rcases Memory.mem_write hc with ⟨rfl, hv⟩ | hc'
    · exact hv
    · exact h.2 c hc'

/-- A written byte is read back. -/
theorem Memory.read_write_same {m : List Host.Cell} (h : Memory.wf m) (a : Nat) (v : Byte) :
    Memory.read (Memory.write m a v) a = v := by
  induction m with
  | nil => simp only [Memory.write]; split <;> simp_all [Memory.read]
  | cons d rest ih =>
    obtain ⟨hd, hrest⟩ := List.pairwise_cons.1 h.1
    simp only [Memory.write]
    split
    · split
      · rename_i hlt hv
        rw [hv]
        refine Memory.read_below fun c hc => ?_
        rcases List.mem_cons.1 hc with rfl | hc'
        · exact hlt
        · exact Nat.lt_trans hlt (hd c hc')
      · simp [Memory.read]
    · split
      · split
        · rename_i heq hv
          rw [hv]
          exact Memory.read_below fun c hc => heq ▸ hd c hc
        · simp [Memory.read]
      · simp only [Memory.read]
        rw [if_neg (by omega)]
        exact ih ⟨hrest, fun c hc => h.2 c (List.mem_cons_of_mem _ hc)⟩

/-- A write leaves every other byte alone. -/
theorem Memory.read_write_other {m : List Host.Cell} {a b : Nat} (v : Byte) (h : b ≠ a) :
    Memory.read (Memory.write m a v) b = Memory.read m b := by
  induction m with
  | nil => simp only [Memory.write]; split <;> simp [Memory.read, h.symm]
  | cons d rest ih =>
    simp only [Memory.write]
    split
    · split
      · rfl
      · simp [Memory.read, h.symm]
    · split
      · split
        · rename_i heq hv
          simp only [Memory.read]
          rw [if_neg (by omega)]
        · simp only [Memory.read]
          rw [if_neg (by omega), if_neg (by omega)]
      · simp only [Memory.read]
        rw [ih]

/-- Writing bytes keeps the canonical form. -/
theorem Memory.wf_writeBytes {m : List Host.Cell} (h : Memory.wf m) (a : Nat) (bs : List Byte) :
    Memory.wf (Memory.writeBytes m a bs) := by
  induction bs generalizing m a with
  | nil => exact h
  | cons b bs ih => exact ih (Memory.wf_write h a b) (a + 1)

/-- Writing bytes leaves every byte outside them alone. -/
theorem Memory.read_writeBytes_other {m : List Host.Cell} {a b : Nat} {bs : List Byte}
    (h : b < a ∨ a + bs.length ≤ b) : Memory.read (Memory.writeBytes m a bs) b = Memory.read m b := by
  induction bs generalizing m a with
  | nil => rfl
  | cons c cs ih =>
    simp only [List.length_cons] at h
    simp only [Memory.writeBytes]
    rw [ih (by omega), Memory.read_write_other _ (by omega)]

/-- Bytes written are read back. -/
theorem Memory.readBytes_writeBytes {m : List Host.Cell} (h : Memory.wf m) (a : Nat) (bs : List Byte) :
    Memory.readBytes (Memory.writeBytes m a bs) a bs.length = bs := by
  induction bs generalizing m a with
  | nil => rfl
  | cons b bs ih =>
    simp only [List.length_cons, Memory.readBytes, Memory.writeBytes]
    rw [ih (Memory.wf_write h a b), Memory.read_writeBytes_other (.inl (by omega)), Memory.read_write_same h]

@[simp] theorem length_bytesOfWord (v : Word) (n : Nat) : (bytesOfWord v n).length = n := by
  induction n with
  | zero => rfl
  | succ n ih => simp [bytesOfWord, ih]

@[simp] theorem length_endianOrder (little : Bool) (bs : List Byte) : (endianOrder little bs).length = bs.length := by
  unfold endianOrder; split <;> simp

@[simp] theorem length_readBytes (m : List Host.Cell) (a n : Nat) : (Memory.readBytes m a n).length = n := by
  induction n generalizing a with
  | zero => rfl
  | succ n ih => simp [Memory.readBytes, ih]

/-- Storing a value keeps the canonical form. -/
theorem Memory.wf_writeInt {m : List Host.Cell} (h : Memory.wf m) (a n : Nat) (little : Bool) (v : Word) :
    Memory.wf (Memory.writeInt m a n little v) := Memory.wf_writeBytes h a _

/-- Storing a value leaves every byte outside it alone. -/
theorem Memory.read_writeInt_other {m : List Host.Cell} {a b n : Nat} {little : Bool} {v : Word}
    (h : b < a ∨ a + n ≤ b) : Memory.read (Memory.writeInt m a n little v) b = Memory.read m b :=
  Memory.read_writeBytes_other (by simpa using h)

/-- Storing parts keeps the canonical form. -/
theorem wf_writeParts {m : List Host.Cell} (h : Memory.wf m) (pa part : Nat) (little : Bool) (vs : List Word) :
    Memory.wf (writeParts m pa part little vs) := by
  induction vs generalizing m pa with
  | nil => exact h
  | cons v vs ih => exact ih (Memory.wf_writeInt h pa part little v) (pa + part)

/-- Storing parts leaves every byte outside them alone. -/
theorem read_writeParts_other {m : List Host.Cell} {pa part b : Nat} {little : Bool} {vs : List Word}
    (h : b < pa ∨ pa + part * vs.length ≤ b) : Memory.read (writeParts m pa part little vs) b = Memory.read m b := by
  induction vs generalizing m pa with
  | nil => rfl
  | cons v vs ih =>
    have e : part * (v :: vs).length = part * vs.length + part := by rw [List.length_cons, Nat.mul_succ]
    rw [e] at h
    simp only [writeParts]
    rw [ih (by omega), Memory.read_writeInt_other (by omega)]

end Sys2Proof.Machine
end

