-- ==== Sys2Proof/Laws/Host.lean ====
section
/-!
SUPPORT. What the implementation's parameters come to at their defaults, and everything the host operations can do, said once.
-/

namespace Sys2Proof.Machine

/-! ## Parameters at their defaults -/

/-- All bits implemented: nothing is dropped. -/
@[simp] theorem implemented_all {w : Nat} (v : BitVec w) : implemented w v = v :=
  BitVec.eq_of_toNat_eq (by simp [implemented])

@[simp] theorem implemented_tick (v : BitVec 63) : implemented Config.tickBits v = v := implemented_all v

@[simp] theorem implemented_stick (v : BitVec 63) : implemented Config.stickBits v = v := implemented_all v

@[simp] theorem implemented_pid (v : BitVec 8) : implemented Config.pidBits v = v := implemented_all v

@[simp] theorem implemented_intId (v : BitVec 16) : implemented Config.intIdBits v = v := implemented_all v

/-- With eight windows, window arithmetic is arithmetic of three bits. -/
theorem windowAdd_eq (w : BitVec 3) (n : Nat) : windowAdd w n = w + BitVec.ofNat 3 n :=
  BitVec.eq_of_toNat_eq (by simp [windowAdd, Config.nRegWindows])

@[simp] theorem windowAdd_next (w : BitVec 3) : windowAdd w 1 = w + 1#3 := windowAdd_eq w 1

@[simp] theorem windowAdd_previous : ∀ w : BitVec 3, windowAdd w (Config.nRegWindows - 1) = w - 1#3 := by decide

@[simp] theorem windowAdd_spill (w c : BitVec 3) : windowAdd w (c.toNat + 2) = w + c + 2#3 := by
  rw [windowAdd_eq, BitVec.ofNat_add, BitVec.ofNat_toNat, BitVec.setWidth_eq, BitVec.add_assoc]

theorem cleanwinAfterFill_eq : ∀ c : BitVec 3, cleanwinAfterFill c = if c = 7#3 then c else c + 1#3 := by decide

/-- FLUSHW has nothing to spill at CANSAVE = 6. -/
theorem flushw_done : ∀ c : BitVec 3, c.toNat = Config.nRegWindows - 2 ↔ c = 6#3 := by decide

/-- With 56 bits of physical address, nothing of a page's address is dropped. -/
theorem TlbEntry.physicalAddr_eq (e : TlbEntry) (a : Word) :
    e.physicalAddr a =
      let n := (pageBits (TlbEntry.size e)).getD 13
      (e.data.extractLsb' 13 43).toNat * 8192 / 2 ^ n * 2 ^ n + a.toNat % 2 ^ n := by
  have h : (e.data.extractLsb' 13 43).toNat * 8192 % 2 ^ Config.paBits = (e.data.extractLsb' 13 43).toNat * 8192 :=
    Nat.mod_eq_of_lt (by have := (e.data.extractLsb' 13 43).isLt; simp only [Config.paBits]; omega)
  simp only [TlbEntry.physicalAddr, h]

theorem hver_eq : Config.hver = 0x30607#64 := by decide

/-- A class C3 group in hardware executes. -/
@[simp] theorem classC3_present (s : State) (k : Result) : classC3 true s k = k := rfl

/-- One left to software raises illegal_instruction. -/
@[simp] theorem classC3_absent (s : State) (k : Result) : classC3 false s k = raise .illegalInstruction s := rfl

/-- With one strand the shared CMT registers are constants and ignore every store. -/
@[simp] theorem State.strandEnable_eq (s : State) : s.strandEnable = 1#64 := rfl

@[simp] theorem State.strandEnableStatus_eq (s : State) : s.strandEnableStatus = 1#64 := rfl

@[simp] theorem State.xirSteering_eq (s : State) : s.xirSteering = 1#64 := rfl

@[simp] theorem State.warmCmt_eq (s : State) : s.warmCmt = s.cmt := rfl

@[simp] theorem State.writeStrandEnable_eq (s : State) (v : Word) : s.writeStrandEnable v = s := by
  simp [State.writeStrandEnable, Config.nStrands]

@[simp] theorem State.writeXirSteering_eq (s : State) (v : Word) : s.writeXirSteering v = s := rfl

/-- A shared CMT register takes no store, or ignores it. -/
theorem writeCmtShared_some {s t : State} {va v : Word} (h : writeCmtShared s va v = some t) : t = s := by
  unfold writeCmtShared at h
  split at h <;> simp_all

/-- Every XIR reaches the one strand. -/
@[simp] theorem HostRequests.steered_one (r : HostRequests) : r.steered 1#64 = r := by simp [HostRequests.steered]

/-- No event is counted. -/
@[simp] theorem picIncrement_eq (s : State) : picIncrement s = (0, 0) := by simp [picIncrement, Config.picEvents]

@[simp] theorem tickAdvance_eq (s : State) : Config.tickAdvance s = 1 := rfl

@[simp] theorem stickAdvance_eq (s : State) : Config.stickAdvance s = 1 := rfl

@[simp] theorem privScratchIndex_eq (va : Word) : privScratchIndex va = scratchIndex va := by
  cases h : scratchIndex va <;> simp [privScratchIndex, h, Config.scratchpad4to7]

@[simp] theorem hyperBank_eq (s : State) : s.hyperBank = s.hyperScratchpad := rfl

@[simp] theorem setHyperBank_eq (s : State) (bank : Vector Word 8) :
    s.setHyperBank bank = { s with hyperScratchpad := bank } := rfl

@[simp] theorem platformAccess_eq (pa : Nat) (little : Bool) : platformAccess pa little = .memory pa little := rfl

@[simp] theorem Access.regionCheck_eq (a : Access) (pa : Nat) : a.regionCheck pa = none := by
  simp [Access.regionCheck, Config.platformMap]

@[simp] theorem Access.bypass_eq (s : State) (a : Access) : a.bypass s = a.finish s (bypassAddr a.addr) (a.little s) := by
  simp [Access.bypass]

@[simp] theorem breakpointHit_eq (s : State) (a : Word) (pa : Nat) : breakpointHit s a pa = false := by
  simp [breakpointHit, Config.instrBreakpoint]

theorem fetchFinish_eq (s : State) (a : Word) (pa : Nat) :
    fetchFinish s a pa = if s.requests.instructionAccessError then .trap .instructionAccessError else .word pa := by
  simp [fetchFinish, Config.platformMap]

theorem beforeFetch_eq (s : State) :
    beforeFetch s =
      if s.requests.por then some s.powerOnReset
      else if s.requests.wmr then some s.warmReset
      else if s.requests.xir then some s.xirReset
      else
        match s.errorState with
        | some tt => some (s.watchdogReset tt)
        | none =>
          if s.requests.storeError then some s.takeStoreError
          else if s.requests.internalProcessorError then some s.takeIpe
          else if trapLevelZeroPending s then some (takeTrap .trapLevelZero s)
          else (disruptingException s).map fun e => takeTrap e s := by
  cases h : s.requests.internalProcessorError <;> cases h' : s.errorState <;>
    simp [beforeFetch, ipePending, Config.ipePriority, h, h']

/-! ## Host operations -/

/-- What an insertion can do: it refuses an entry that is not valid, of a reserved size, of undefined attributes or overlapping
one of the TLB, and otherwise puts it, with the current partition ID, before the others. -/
theorem State.tlbInsert_some {s t : State} {w : WhichTlb} {entry : TlbEntry} (h : s.tlbInsert w entry = some t) :
    let e := { entry with pid := s.mmu.partitionId }
    e.valid = true ∧ (pageBits (TlbEntry.size e)).isSome = true ∧ e.attributesUndefined = false ∧
    t = { s with
      mmu :=
        { s.mmu with
          itlb := if w = .itlb then e :: s.mmu.itlb else s.mmu.itlb
          dtlb := if w = .dtlb then e :: s.mmu.dtlb else s.mmu.dtlb } } ∧
    ∀ f ∈ (if w = .itlb then s.mmu.itlb else s.mmu.dtlb), e.overlaps f = false := by
  cases w <;> simp only [State.tlbInsert] at h <;> split at h <;> simp_all

/-- A power-on reset is not a request: it is there at once. -/
theorem State.hostRequest_por {r : HostRequests} (s : State) (h : r.por = true) : s.hostRequest r = s.powerOnReset := by
  simp [State.hostRequest, State.hostPor, h]

@[simp] theorem State.hostRequest_other {r : HostRequests} (s : State) (h : r.por = false) :
    s.hostRequest r = { s with requests := s.requests.join r } := by
  simp [State.hostRequest, h]

/-- A warm reset that is pending stays pending. -/
@[simp] theorem HostRequests.join_wmr (p r : HostRequests) : (p.join r).wmr = (p.wmr || r.wmr) := rfl

/-- An externally initiated reset that is pending stays pending. -/
@[simp] theorem HostRequests.join_xir (p r : HostRequests) : (p.join r).xir = (p.xir || r.xir) := rfl

/-- Asking again for what is pending changes nothing. -/
@[simp] theorem HostRequests.join_self (p : HostRequests) : p.join p = p := by
  cases p; simp [HostRequests.join]

/-- An interrupt addressed elsewhere is dropped. -/
theorem State.addressed_other {s t : State} {n : BitVec 16} (h : n ≠ s.strandIntrId) : s.addressed n t = s := by
  simp [State.addressed, h]

/-- A boot image leaves memory in its canonical form. -/
theorem Memory.load_wf (image : List Host.Cell) : Memory.wf (Memory.load image) := by
  unfold Memory.load
  generalize h : ([] : List Host.Cell) = m
  have hm : Memory.wf m := by subst h; simp [Memory.wf]
  clear h
  induction image generalizing m with
  | nil => exact hm
  | cons c rest ih =>
    simp only [List.foldl_cons]
    split
    · exact ih _ (Memory.wf_write hm ..)
    · exact ih _ hm

end Sys2Proof.Machine
end

