-- ==== Sys2Proof/Laws/State.lean ====
section
/-!
SUPPORT. What each named update of the state does to each field: one lemma per field and update.
-/

namespace Sys2Proof.Machine

/-! ## State.advance -/

@[simp] theorem State.advance_globals (s : State) : s.advance.globals = s.globals := rfl
@[simp] theorem State.advance_windows (s : State) : s.advance.windows = s.windows := rfl
@[simp] theorem State.advance_fregs (s : State) : s.advance.fregs = s.fregs := rfl
@[simp] theorem State.advance_pc (s : State) : s.advance.pc = s.npc := rfl
@[simp] theorem State.advance_npc (s : State) : s.advance.npc = s.npc + 4#64 := rfl
@[simp] theorem State.advance_win (s : State) : s.advance.win = s.win := rfl
@[simp] theorem State.advance_y (s : State) : s.advance.y = s.y := rfl
@[simp] theorem State.advance_ccr (s : State) : s.advance.ccr = s.ccr := rfl
@[simp] theorem State.advance_asi (s : State) : s.advance.asi = s.asi := rfl
@[simp] theorem State.advance_fsr (s : State) : s.advance.fsr = s.fsr := rfl
@[simp] theorem State.advance_fprs (s : State) : s.advance.fprs = s.fprs := rfl
@[simp] theorem State.advance_gsr (s : State) : s.advance.gsr = s.gsr := rfl
@[simp] theorem State.advance_pcr (s : State) : s.advance.pcr = s.pcr := rfl
@[simp] theorem State.advance_pic (s : State) : s.advance.pic = s.pic := rfl
@[simp] theorem State.advance_tick (s : State) : s.advance.tick = s.tick := rfl
@[simp] theorem State.advance_stick (s : State) : s.advance.stick = s.stick := rfl
@[simp] theorem State.advance_tickCmpr (s : State) : s.advance.tickCmpr = s.tickCmpr := rfl
@[simp] theorem State.advance_stickCmpr (s : State) : s.advance.stickCmpr = s.stickCmpr := rfl
@[simp] theorem State.advance_hstickCmpr (s : State) : s.advance.hstickCmpr = s.hstickCmpr := rfl
@[simp] theorem State.advance_softint (s : State) : s.advance.softint = s.softint := rfl
@[simp] theorem State.advance_pil (s : State) : s.advance.pil = s.pil := rfl
@[simp] theorem State.advance_pstate (s : State) : s.advance.pstate = s.pstate := rfl
@[simp] theorem State.advance_hpstate (s : State) : s.advance.hpstate = s.hpstate := rfl
@[simp] theorem State.advance_tl (s : State) : s.advance.tl = s.tl := rfl
@[simp] theorem State.advance_gl (s : State) : s.advance.gl = s.gl := rfl
@[simp] theorem State.advance_traps (s : State) : s.advance.traps = s.traps := rfl
@[simp] theorem State.advance_tba (s : State) : s.advance.tba = s.tba := rfl
@[simp] theorem State.advance_htba (s : State) : s.advance.htba = s.htba := rfl
@[simp] theorem State.advance_hsp (s : State) : s.advance.hsp = s.hsp := rfl
@[simp] theorem State.advance_scratchpad (s : State) : s.advance.scratchpad = s.scratchpad := rfl
@[simp] theorem State.advance_hyperScratchpad (s : State) : s.advance.hyperScratchpad = s.hyperScratchpad := rfl
@[simp] theorem State.advance_queues (s : State) : s.advance.queues = s.queues := rfl
@[simp] theorem State.advance_mmu (s : State) : s.advance.mmu = s.mmu := rfl
@[simp] theorem State.advance_strandIntrId (s : State) : s.advance.strandIntrId = s.strandIntrId := rfl
@[simp] theorem State.advance_cmt (s : State) : s.advance.cmt = s.cmt := rfl
@[simp] theorem State.advance_errorState (s : State) : s.advance.errorState = s.errorState := rfl
@[simp] theorem State.advance_requests (s : State) : s.advance.requests = s.requests := rfl
@[simp] theorem State.advance_mem (s : State) : s.advance.mem = s.mem := rfl
@[simp] theorem State.advance_freeCount (s : State) : s.advance.freeCount = s.freeCount := rfl

/-! ## State.delayedTransfer -/

@[simp] theorem State.delayedTransfer_globals (s : State) (ea : Word) : (s.delayedTransfer ea).globals = s.globals :=
  rfl
@[simp] theorem State.delayedTransfer_windows (s : State) (ea : Word) : (s.delayedTransfer ea).windows = s.windows :=
  rfl
@[simp] theorem State.delayedTransfer_fregs (s : State) (ea : Word) : (s.delayedTransfer ea).fregs = s.fregs := rfl
@[simp] theorem State.delayedTransfer_pc (s : State) (ea : Word) : (s.delayedTransfer ea).pc = s.npc := rfl
@[simp] theorem State.delayedTransfer_npc (s : State) (ea : Word) : (s.delayedTransfer ea).npc = ea := rfl
@[simp] theorem State.delayedTransfer_win (s : State) (ea : Word) : (s.delayedTransfer ea).win = s.win := rfl
@[simp] theorem State.delayedTransfer_y (s : State) (ea : Word) : (s.delayedTransfer ea).y = s.y := rfl
@[simp] theorem State.delayedTransfer_ccr (s : State) (ea : Word) : (s.delayedTransfer ea).ccr = s.ccr := rfl
@[simp] theorem State.delayedTransfer_asi (s : State) (ea : Word) : (s.delayedTransfer ea).asi = s.asi := rfl
@[simp] theorem State.delayedTransfer_fsr (s : State) (ea : Word) : (s.delayedTransfer ea).fsr = s.fsr := rfl
@[simp] theorem State.delayedTransfer_fprs (s : State) (ea : Word) : (s.delayedTransfer ea).fprs = s.fprs := rfl
@[simp] theorem State.delayedTransfer_gsr (s : State) (ea : Word) : (s.delayedTransfer ea).gsr = s.gsr := rfl
@[simp] theorem State.delayedTransfer_pcr (s : State) (ea : Word) : (s.delayedTransfer ea).pcr = s.pcr := rfl
@[simp] theorem State.delayedTransfer_pic (s : State) (ea : Word) : (s.delayedTransfer ea).pic = s.pic := rfl
@[simp] theorem State.delayedTransfer_tick (s : State) (ea : Word) : (s.delayedTransfer ea).tick = s.tick := rfl
@[simp] theorem State.delayedTransfer_stick (s : State) (ea : Word) : (s.delayedTransfer ea).stick = s.stick := rfl
@[simp] theorem State.delayedTransfer_tickCmpr (s : State) (ea : Word) : (s.delayedTransfer ea).tickCmpr = s.tickCmpr :=
  rfl
@[simp] theorem State.delayedTransfer_stickCmpr (s : State) (ea : Word) : (s.delayedTransfer ea).stickCmpr = s.stickCmpr :=
  rfl
@[simp] theorem State.delayedTransfer_hstickCmpr (s : State) (ea : Word) : (s.delayedTransfer ea).hstickCmpr = s.hstickCmpr :=
  rfl
@[simp] theorem State.delayedTransfer_softint (s : State) (ea : Word) : (s.delayedTransfer ea).softint = s.softint :=
  rfl
@[simp] theorem State.delayedTransfer_pil (s : State) (ea : Word) : (s.delayedTransfer ea).pil = s.pil := rfl
@[simp] theorem State.delayedTransfer_pstate (s : State) (ea : Word) : (s.delayedTransfer ea).pstate = s.pstate := rfl
@[simp] theorem State.delayedTransfer_hpstate (s : State) (ea : Word) : (s.delayedTransfer ea).hpstate = s.hpstate :=
  rfl
@[simp] theorem State.delayedTransfer_tl (s : State) (ea : Word) : (s.delayedTransfer ea).tl = s.tl := rfl
@[simp] theorem State.delayedTransfer_gl (s : State) (ea : Word) : (s.delayedTransfer ea).gl = s.gl := rfl
@[simp] theorem State.delayedTransfer_traps (s : State) (ea : Word) : (s.delayedTransfer ea).traps = s.traps := rfl
@[simp] theorem State.delayedTransfer_tba (s : State) (ea : Word) : (s.delayedTransfer ea).tba = s.tba := rfl
@[simp] theorem State.delayedTransfer_htba (s : State) (ea : Word) : (s.delayedTransfer ea).htba = s.htba := rfl
@[simp] theorem State.delayedTransfer_hsp (s : State) (ea : Word) : (s.delayedTransfer ea).hsp = s.hsp := rfl
@[simp] theorem State.delayedTransfer_scratchpad (s : State) (ea : Word) : (s.delayedTransfer ea).scratchpad = s.scratchpad :=
  rfl
@[simp] theorem State.delayedTransfer_hyperScratchpad (s : State) (ea : Word) : (s.delayedTransfer ea).hyperScratchpad = s.hyperScratchpad :=
  rfl
@[simp] theorem State.delayedTransfer_queues (s : State) (ea : Word) : (s.delayedTransfer ea).queues = s.queues := rfl
@[simp] theorem State.delayedTransfer_mmu (s : State) (ea : Word) : (s.delayedTransfer ea).mmu = s.mmu := rfl
@[simp] theorem State.delayedTransfer_strandIntrId (s : State) (ea : Word) : (s.delayedTransfer ea).strandIntrId = s.strandIntrId :=
  rfl
@[simp] theorem State.delayedTransfer_cmt (s : State) (ea : Word) : (s.delayedTransfer ea).cmt = s.cmt :=
  rfl
@[simp] theorem State.delayedTransfer_errorState (s : State) (ea : Word) : (s.delayedTransfer ea).errorState = s.errorState :=
  rfl
@[simp] theorem State.delayedTransfer_requests (s : State) (ea : Word) : (s.delayedTransfer ea).requests = s.requests :=
  rfl
@[simp] theorem State.delayedTransfer_mem (s : State) (ea : Word) : (s.delayedTransfer ea).mem = s.mem := rfl
@[simp] theorem State.delayedTransfer_freeCount (s : State) (ea : Word) : (s.delayedTransfer ea).freeCount = s.freeCount :=
  rfl

/-! ## State.annulDelay -/

@[simp] theorem State.annulDelay_globals (s : State) : s.annulDelay.globals = s.globals := rfl
@[simp] theorem State.annulDelay_windows (s : State) : s.annulDelay.windows = s.windows := rfl
@[simp] theorem State.annulDelay_fregs (s : State) : s.annulDelay.fregs = s.fregs := rfl
@[simp] theorem State.annulDelay_pc (s : State) : s.annulDelay.pc = s.npc + 4#64 := rfl
@[simp] theorem State.annulDelay_npc (s : State) : s.annulDelay.npc = s.npc + 8#64 := rfl
@[simp] theorem State.annulDelay_win (s : State) : s.annulDelay.win = s.win := rfl
@[simp] theorem State.annulDelay_y (s : State) : s.annulDelay.y = s.y := rfl
@[simp] theorem State.annulDelay_ccr (s : State) : s.annulDelay.ccr = s.ccr := rfl
@[simp] theorem State.annulDelay_asi (s : State) : s.annulDelay.asi = s.asi := rfl
@[simp] theorem State.annulDelay_fsr (s : State) : s.annulDelay.fsr = s.fsr := rfl
@[simp] theorem State.annulDelay_fprs (s : State) : s.annulDelay.fprs = s.fprs := rfl
@[simp] theorem State.annulDelay_gsr (s : State) : s.annulDelay.gsr = s.gsr := rfl
@[simp] theorem State.annulDelay_pcr (s : State) : s.annulDelay.pcr = s.pcr := rfl
@[simp] theorem State.annulDelay_pic (s : State) : s.annulDelay.pic = s.pic := rfl
@[simp] theorem State.annulDelay_tick (s : State) : s.annulDelay.tick = s.tick := rfl
@[simp] theorem State.annulDelay_stick (s : State) : s.annulDelay.stick = s.stick := rfl
@[simp] theorem State.annulDelay_tickCmpr (s : State) : s.annulDelay.tickCmpr = s.tickCmpr := rfl
@[simp] theorem State.annulDelay_stickCmpr (s : State) : s.annulDelay.stickCmpr = s.stickCmpr := rfl
@[simp] theorem State.annulDelay_hstickCmpr (s : State) : s.annulDelay.hstickCmpr = s.hstickCmpr := rfl
@[simp] theorem State.annulDelay_softint (s : State) : s.annulDelay.softint = s.softint := rfl
@[simp] theorem State.annulDelay_pil (s : State) : s.annulDelay.pil = s.pil := rfl
@[simp] theorem State.annulDelay_pstate (s : State) : s.annulDelay.pstate = s.pstate := rfl
@[simp] theorem State.annulDelay_hpstate (s : State) : s.annulDelay.hpstate = s.hpstate := rfl
@[simp] theorem State.annulDelay_tl (s : State) : s.annulDelay.tl = s.tl := rfl
@[simp] theorem State.annulDelay_gl (s : State) : s.annulDelay.gl = s.gl := rfl
@[simp] theorem State.annulDelay_traps (s : State) : s.annulDelay.traps = s.traps := rfl
@[simp] theorem State.annulDelay_tba (s : State) : s.annulDelay.tba = s.tba := rfl
@[simp] theorem State.annulDelay_htba (s : State) : s.annulDelay.htba = s.htba := rfl
@[simp] theorem State.annulDelay_hsp (s : State) : s.annulDelay.hsp = s.hsp := rfl
@[simp] theorem State.annulDelay_scratchpad (s : State) : s.annulDelay.scratchpad = s.scratchpad := rfl
@[simp] theorem State.annulDelay_hyperScratchpad (s : State) : s.annulDelay.hyperScratchpad = s.hyperScratchpad := rfl
@[simp] theorem State.annulDelay_queues (s : State) : s.annulDelay.queues = s.queues := rfl
@[simp] theorem State.annulDelay_mmu (s : State) : s.annulDelay.mmu = s.mmu := rfl
@[simp] theorem State.annulDelay_strandIntrId (s : State) : s.annulDelay.strandIntrId = s.strandIntrId := rfl
@[simp] theorem State.annulDelay_cmt (s : State) : s.annulDelay.cmt = s.cmt := rfl
@[simp] theorem State.annulDelay_errorState (s : State) : s.annulDelay.errorState = s.errorState := rfl
@[simp] theorem State.annulDelay_requests (s : State) : s.annulDelay.requests = s.requests := rfl
@[simp] theorem State.annulDelay_mem (s : State) : s.annulDelay.mem = s.mem := rfl
@[simp] theorem State.annulDelay_freeCount (s : State) : s.annulDelay.freeCount = s.freeCount := rfl

/-! ## State.transferAnnul -/

@[simp] theorem State.transferAnnul_globals (s : State) (ea : Word) : (s.transferAnnul ea).globals = s.globals := rfl
@[simp] theorem State.transferAnnul_windows (s : State) (ea : Word) : (s.transferAnnul ea).windows = s.windows := rfl
@[simp] theorem State.transferAnnul_fregs (s : State) (ea : Word) : (s.transferAnnul ea).fregs = s.fregs := rfl
@[simp] theorem State.transferAnnul_pc (s : State) (ea : Word) : (s.transferAnnul ea).pc = ea := rfl
@[simp] theorem State.transferAnnul_npc (s : State) (ea : Word) : (s.transferAnnul ea).npc = ea + 4#64 := rfl
@[simp] theorem State.transferAnnul_win (s : State) (ea : Word) : (s.transferAnnul ea).win = s.win := rfl
@[simp] theorem State.transferAnnul_y (s : State) (ea : Word) : (s.transferAnnul ea).y = s.y := rfl
@[simp] theorem State.transferAnnul_ccr (s : State) (ea : Word) : (s.transferAnnul ea).ccr = s.ccr := rfl
@[simp] theorem State.transferAnnul_asi (s : State) (ea : Word) : (s.transferAnnul ea).asi = s.asi := rfl
@[simp] theorem State.transferAnnul_fsr (s : State) (ea : Word) : (s.transferAnnul ea).fsr = s.fsr := rfl
@[simp] theorem State.transferAnnul_fprs (s : State) (ea : Word) : (s.transferAnnul ea).fprs = s.fprs := rfl
@[simp] theorem State.transferAnnul_gsr (s : State) (ea : Word) : (s.transferAnnul ea).gsr = s.gsr := rfl
@[simp] theorem State.transferAnnul_pcr (s : State) (ea : Word) : (s.transferAnnul ea).pcr = s.pcr := rfl
@[simp] theorem State.transferAnnul_pic (s : State) (ea : Word) : (s.transferAnnul ea).pic = s.pic := rfl
@[simp] theorem State.transferAnnul_tick (s : State) (ea : Word) : (s.transferAnnul ea).tick = s.tick := rfl
@[simp] theorem State.transferAnnul_stick (s : State) (ea : Word) : (s.transferAnnul ea).stick = s.stick := rfl
@[simp] theorem State.transferAnnul_tickCmpr (s : State) (ea : Word) : (s.transferAnnul ea).tickCmpr = s.tickCmpr := rfl
@[simp] theorem State.transferAnnul_stickCmpr (s : State) (ea : Word) : (s.transferAnnul ea).stickCmpr = s.stickCmpr :=
  rfl
@[simp] theorem State.transferAnnul_hstickCmpr (s : State) (ea : Word) : (s.transferAnnul ea).hstickCmpr = s.hstickCmpr :=
  rfl
@[simp] theorem State.transferAnnul_softint (s : State) (ea : Word) : (s.transferAnnul ea).softint = s.softint := rfl
@[simp] theorem State.transferAnnul_pil (s : State) (ea : Word) : (s.transferAnnul ea).pil = s.pil := rfl
@[simp] theorem State.transferAnnul_pstate (s : State) (ea : Word) : (s.transferAnnul ea).pstate = s.pstate := rfl
@[simp] theorem State.transferAnnul_hpstate (s : State) (ea : Word) : (s.transferAnnul ea).hpstate = s.hpstate := rfl
@[simp] theorem State.transferAnnul_tl (s : State) (ea : Word) : (s.transferAnnul ea).tl = s.tl := rfl
@[simp] theorem State.transferAnnul_gl (s : State) (ea : Word) : (s.transferAnnul ea).gl = s.gl := rfl
@[simp] theorem State.transferAnnul_traps (s : State) (ea : Word) : (s.transferAnnul ea).traps = s.traps := rfl
@[simp] theorem State.transferAnnul_tba (s : State) (ea : Word) : (s.transferAnnul ea).tba = s.tba := rfl
@[simp] theorem State.transferAnnul_htba (s : State) (ea : Word) : (s.transferAnnul ea).htba = s.htba := rfl
@[simp] theorem State.transferAnnul_hsp (s : State) (ea : Word) : (s.transferAnnul ea).hsp = s.hsp := rfl
@[simp] theorem State.transferAnnul_scratchpad (s : State) (ea : Word) : (s.transferAnnul ea).scratchpad = s.scratchpad :=
  rfl
@[simp] theorem State.transferAnnul_hyperScratchpad (s : State) (ea : Word) : (s.transferAnnul ea).hyperScratchpad = s.hyperScratchpad :=
  rfl
@[simp] theorem State.transferAnnul_queues (s : State) (ea : Word) : (s.transferAnnul ea).queues = s.queues := rfl
@[simp] theorem State.transferAnnul_mmu (s : State) (ea : Word) : (s.transferAnnul ea).mmu = s.mmu := rfl
@[simp] theorem State.transferAnnul_strandIntrId (s : State) (ea : Word) : (s.transferAnnul ea).strandIntrId = s.strandIntrId :=
  rfl
@[simp] theorem State.transferAnnul_cmt (s : State) (ea : Word) : (s.transferAnnul ea).cmt = s.cmt :=
  rfl
@[simp] theorem State.transferAnnul_errorState (s : State) (ea : Word) : (s.transferAnnul ea).errorState = s.errorState :=
  rfl
@[simp] theorem State.transferAnnul_requests (s : State) (ea : Word) : (s.transferAnnul ea).requests = s.requests := rfl
@[simp] theorem State.transferAnnul_mem (s : State) (ea : Word) : (s.transferAnnul ea).mem = s.mem := rfl
@[simp] theorem State.transferAnnul_freeCount (s : State) (ea : Word) : (s.transferAnnul ea).freeCount = s.freeCount :=
  rfl

/-! ## State.setCcr -/

@[simp] theorem State.setCcr_globals (s : State) (c : BitVec 8) : (s.setCcr c).globals = s.globals := rfl
@[simp] theorem State.setCcr_windows (s : State) (c : BitVec 8) : (s.setCcr c).windows = s.windows := rfl
@[simp] theorem State.setCcr_fregs (s : State) (c : BitVec 8) : (s.setCcr c).fregs = s.fregs := rfl
@[simp] theorem State.setCcr_pc (s : State) (c : BitVec 8) : (s.setCcr c).pc = s.pc := rfl
@[simp] theorem State.setCcr_npc (s : State) (c : BitVec 8) : (s.setCcr c).npc = s.npc := rfl
@[simp] theorem State.setCcr_win (s : State) (c : BitVec 8) : (s.setCcr c).win = s.win := rfl
@[simp] theorem State.setCcr_y (s : State) (c : BitVec 8) : (s.setCcr c).y = s.y := rfl
@[simp] theorem State.setCcr_ccr (s : State) (c : BitVec 8) : (s.setCcr c).ccr = c := rfl
@[simp] theorem State.setCcr_asi (s : State) (c : BitVec 8) : (s.setCcr c).asi = s.asi := rfl
@[simp] theorem State.setCcr_fsr (s : State) (c : BitVec 8) : (s.setCcr c).fsr = s.fsr := rfl
@[simp] theorem State.setCcr_fprs (s : State) (c : BitVec 8) : (s.setCcr c).fprs = s.fprs := rfl
@[simp] theorem State.setCcr_gsr (s : State) (c : BitVec 8) : (s.setCcr c).gsr = s.gsr := rfl
@[simp] theorem State.setCcr_pcr (s : State) (c : BitVec 8) : (s.setCcr c).pcr = s.pcr := rfl
@[simp] theorem State.setCcr_pic (s : State) (c : BitVec 8) : (s.setCcr c).pic = s.pic := rfl
@[simp] theorem State.setCcr_tick (s : State) (c : BitVec 8) : (s.setCcr c).tick = s.tick := rfl
@[simp] theorem State.setCcr_stick (s : State) (c : BitVec 8) : (s.setCcr c).stick = s.stick := rfl
@[simp] theorem State.setCcr_tickCmpr (s : State) (c : BitVec 8) : (s.setCcr c).tickCmpr = s.tickCmpr := rfl
@[simp] theorem State.setCcr_stickCmpr (s : State) (c : BitVec 8) : (s.setCcr c).stickCmpr = s.stickCmpr := rfl
@[simp] theorem State.setCcr_hstickCmpr (s : State) (c : BitVec 8) : (s.setCcr c).hstickCmpr = s.hstickCmpr := rfl
@[simp] theorem State.setCcr_softint (s : State) (c : BitVec 8) : (s.setCcr c).softint = s.softint := rfl
@[simp] theorem State.setCcr_pil (s : State) (c : BitVec 8) : (s.setCcr c).pil = s.pil := rfl
@[simp] theorem State.setCcr_pstate (s : State) (c : BitVec 8) : (s.setCcr c).pstate = s.pstate := rfl
@[simp] theorem State.setCcr_hpstate (s : State) (c : BitVec 8) : (s.setCcr c).hpstate = s.hpstate := rfl
@[simp] theorem State.setCcr_tl (s : State) (c : BitVec 8) : (s.setCcr c).tl = s.tl := rfl
@[simp] theorem State.setCcr_gl (s : State) (c : BitVec 8) : (s.setCcr c).gl = s.gl := rfl
@[simp] theorem State.setCcr_traps (s : State) (c : BitVec 8) : (s.setCcr c).traps = s.traps := rfl
@[simp] theorem State.setCcr_tba (s : State) (c : BitVec 8) : (s.setCcr c).tba = s.tba := rfl
@[simp] theorem State.setCcr_htba (s : State) (c : BitVec 8) : (s.setCcr c).htba = s.htba := rfl
@[simp] theorem State.setCcr_hsp (s : State) (c : BitVec 8) : (s.setCcr c).hsp = s.hsp := rfl
@[simp] theorem State.setCcr_scratchpad (s : State) (c : BitVec 8) : (s.setCcr c).scratchpad = s.scratchpad := rfl
@[simp] theorem State.setCcr_hyperScratchpad (s : State) (c : BitVec 8) : (s.setCcr c).hyperScratchpad = s.hyperScratchpad :=
  rfl
@[simp] theorem State.setCcr_queues (s : State) (c : BitVec 8) : (s.setCcr c).queues = s.queues := rfl
@[simp] theorem State.setCcr_mmu (s : State) (c : BitVec 8) : (s.setCcr c).mmu = s.mmu := rfl
@[simp] theorem State.setCcr_strandIntrId (s : State) (c : BitVec 8) : (s.setCcr c).strandIntrId = s.strandIntrId := rfl
@[simp] theorem State.setCcr_cmt (s : State) (c : BitVec 8) : (s.setCcr c).cmt = s.cmt := rfl
@[simp] theorem State.setCcr_errorState (s : State) (c : BitVec 8) : (s.setCcr c).errorState = s.errorState := rfl
@[simp] theorem State.setCcr_requests (s : State) (c : BitVec 8) : (s.setCcr c).requests = s.requests := rfl
@[simp] theorem State.setCcr_mem (s : State) (c : BitVec 8) : (s.setCcr c).mem = s.mem := rfl
@[simp] theorem State.setCcr_freeCount (s : State) (c : BitVec 8) : (s.setCcr c).freeCount = s.freeCount := rfl

/-! ## State.setY -/

@[simp] theorem State.setY_globals (s : State) (v : BitVec 32) : (s.setY v).globals = s.globals := rfl
@[simp] theorem State.setY_windows (s : State) (v : BitVec 32) : (s.setY v).windows = s.windows := rfl
@[simp] theorem State.setY_fregs (s : State) (v : BitVec 32) : (s.setY v).fregs = s.fregs := rfl
@[simp] theorem State.setY_pc (s : State) (v : BitVec 32) : (s.setY v).pc = s.pc := rfl
@[simp] theorem State.setY_npc (s : State) (v : BitVec 32) : (s.setY v).npc = s.npc := rfl
@[simp] theorem State.setY_win (s : State) (v : BitVec 32) : (s.setY v).win = s.win := rfl
@[simp] theorem State.setY_y (s : State) (v : BitVec 32) : (s.setY v).y = v := rfl
@[simp] theorem State.setY_ccr (s : State) (v : BitVec 32) : (s.setY v).ccr = s.ccr := rfl
@[simp] theorem State.setY_asi (s : State) (v : BitVec 32) : (s.setY v).asi = s.asi := rfl
@[simp] theorem State.setY_fsr (s : State) (v : BitVec 32) : (s.setY v).fsr = s.fsr := rfl
@[simp] theorem State.setY_fprs (s : State) (v : BitVec 32) : (s.setY v).fprs = s.fprs := rfl
@[simp] theorem State.setY_gsr (s : State) (v : BitVec 32) : (s.setY v).gsr = s.gsr := rfl
@[simp] theorem State.setY_pcr (s : State) (v : BitVec 32) : (s.setY v).pcr = s.pcr := rfl
@[simp] theorem State.setY_pic (s : State) (v : BitVec 32) : (s.setY v).pic = s.pic := rfl
@[simp] theorem State.setY_tick (s : State) (v : BitVec 32) : (s.setY v).tick = s.tick := rfl
@[simp] theorem State.setY_stick (s : State) (v : BitVec 32) : (s.setY v).stick = s.stick := rfl
@[simp] theorem State.setY_tickCmpr (s : State) (v : BitVec 32) : (s.setY v).tickCmpr = s.tickCmpr := rfl
@[simp] theorem State.setY_stickCmpr (s : State) (v : BitVec 32) : (s.setY v).stickCmpr = s.stickCmpr := rfl
@[simp] theorem State.setY_hstickCmpr (s : State) (v : BitVec 32) : (s.setY v).hstickCmpr = s.hstickCmpr := rfl
@[simp] theorem State.setY_softint (s : State) (v : BitVec 32) : (s.setY v).softint = s.softint := rfl
@[simp] theorem State.setY_pil (s : State) (v : BitVec 32) : (s.setY v).pil = s.pil := rfl
@[simp] theorem State.setY_pstate (s : State) (v : BitVec 32) : (s.setY v).pstate = s.pstate := rfl
@[simp] theorem State.setY_hpstate (s : State) (v : BitVec 32) : (s.setY v).hpstate = s.hpstate := rfl
@[simp] theorem State.setY_tl (s : State) (v : BitVec 32) : (s.setY v).tl = s.tl := rfl
@[simp] theorem State.setY_gl (s : State) (v : BitVec 32) : (s.setY v).gl = s.gl := rfl
@[simp] theorem State.setY_traps (s : State) (v : BitVec 32) : (s.setY v).traps = s.traps := rfl
@[simp] theorem State.setY_tba (s : State) (v : BitVec 32) : (s.setY v).tba = s.tba := rfl
@[simp] theorem State.setY_htba (s : State) (v : BitVec 32) : (s.setY v).htba = s.htba := rfl
@[simp] theorem State.setY_hsp (s : State) (v : BitVec 32) : (s.setY v).hsp = s.hsp := rfl
@[simp] theorem State.setY_scratchpad (s : State) (v : BitVec 32) : (s.setY v).scratchpad = s.scratchpad := rfl
@[simp] theorem State.setY_hyperScratchpad (s : State) (v : BitVec 32) : (s.setY v).hyperScratchpad = s.hyperScratchpad :=
  rfl
@[simp] theorem State.setY_queues (s : State) (v : BitVec 32) : (s.setY v).queues = s.queues := rfl
@[simp] theorem State.setY_mmu (s : State) (v : BitVec 32) : (s.setY v).mmu = s.mmu := rfl
@[simp] theorem State.setY_strandIntrId (s : State) (v : BitVec 32) : (s.setY v).strandIntrId = s.strandIntrId := rfl
@[simp] theorem State.setY_cmt (s : State) (v : BitVec 32) : (s.setY v).cmt = s.cmt := rfl
@[simp] theorem State.setY_errorState (s : State) (v : BitVec 32) : (s.setY v).errorState = s.errorState := rfl
@[simp] theorem State.setY_requests (s : State) (v : BitVec 32) : (s.setY v).requests = s.requests := rfl
@[simp] theorem State.setY_mem (s : State) (v : BitVec 32) : (s.setY v).mem = s.mem := rfl
@[simp] theorem State.setY_freeCount (s : State) (v : BitVec 32) : (s.setY v).freeCount = s.freeCount := rfl

/-! ## State.drawn -/

@[simp] theorem State.drawn_globals (s : State) : s.drawn.globals = s.globals := rfl
@[simp] theorem State.drawn_windows (s : State) : s.drawn.windows = s.windows := rfl
@[simp] theorem State.drawn_fregs (s : State) : s.drawn.fregs = s.fregs := rfl
@[simp] theorem State.drawn_pc (s : State) : s.drawn.pc = s.pc := rfl
@[simp] theorem State.drawn_npc (s : State) : s.drawn.npc = s.npc := rfl
@[simp] theorem State.drawn_win (s : State) : s.drawn.win = s.win := rfl
@[simp] theorem State.drawn_y (s : State) : s.drawn.y = s.y := rfl
@[simp] theorem State.drawn_ccr (s : State) : s.drawn.ccr = s.ccr := rfl
@[simp] theorem State.drawn_asi (s : State) : s.drawn.asi = s.asi := rfl
@[simp] theorem State.drawn_fsr (s : State) : s.drawn.fsr = s.fsr := rfl
@[simp] theorem State.drawn_fprs (s : State) : s.drawn.fprs = s.fprs := rfl
@[simp] theorem State.drawn_gsr (s : State) : s.drawn.gsr = s.gsr := rfl
@[simp] theorem State.drawn_pcr (s : State) : s.drawn.pcr = s.pcr := rfl
@[simp] theorem State.drawn_pic (s : State) : s.drawn.pic = s.pic := rfl
@[simp] theorem State.drawn_tick (s : State) : s.drawn.tick = s.tick := rfl
@[simp] theorem State.drawn_stick (s : State) : s.drawn.stick = s.stick := rfl
@[simp] theorem State.drawn_tickCmpr (s : State) : s.drawn.tickCmpr = s.tickCmpr := rfl
@[simp] theorem State.drawn_stickCmpr (s : State) : s.drawn.stickCmpr = s.stickCmpr := rfl
@[simp] theorem State.drawn_hstickCmpr (s : State) : s.drawn.hstickCmpr = s.hstickCmpr := rfl
@[simp] theorem State.drawn_softint (s : State) : s.drawn.softint = s.softint := rfl
@[simp] theorem State.drawn_pil (s : State) : s.drawn.pil = s.pil := rfl
@[simp] theorem State.drawn_pstate (s : State) : s.drawn.pstate = s.pstate := rfl
@[simp] theorem State.drawn_hpstate (s : State) : s.drawn.hpstate = s.hpstate := rfl
@[simp] theorem State.drawn_tl (s : State) : s.drawn.tl = s.tl := rfl
@[simp] theorem State.drawn_gl (s : State) : s.drawn.gl = s.gl := rfl
@[simp] theorem State.drawn_traps (s : State) : s.drawn.traps = s.traps := rfl
@[simp] theorem State.drawn_tba (s : State) : s.drawn.tba = s.tba := rfl
@[simp] theorem State.drawn_htba (s : State) : s.drawn.htba = s.htba := rfl
@[simp] theorem State.drawn_hsp (s : State) : s.drawn.hsp = s.hsp := rfl
@[simp] theorem State.drawn_scratchpad (s : State) : s.drawn.scratchpad = s.scratchpad := rfl
@[simp] theorem State.drawn_hyperScratchpad (s : State) : s.drawn.hyperScratchpad = s.hyperScratchpad := rfl
@[simp] theorem State.drawn_queues (s : State) : s.drawn.queues = s.queues := rfl
@[simp] theorem State.drawn_mmu (s : State) : s.drawn.mmu = s.mmu := rfl
@[simp] theorem State.drawn_strandIntrId (s : State) : s.drawn.strandIntrId = s.strandIntrId := rfl
@[simp] theorem State.drawn_cmt (s : State) : s.drawn.cmt = s.cmt := rfl
@[simp] theorem State.drawn_errorState (s : State) : s.drawn.errorState = s.errorState := rfl
@[simp] theorem State.drawn_requests (s : State) : s.drawn.requests = s.requests := rfl
@[simp] theorem State.drawn_mem (s : State) : s.drawn.mem = s.mem := rfl
@[simp] theorem State.drawn_freeCount (s : State) : s.drawn.freeCount = s.freeCount + 1 := rfl

/-! ## State.undefinedY -/

@[simp] theorem State.undefinedY_globals (s : State) : s.undefinedY.globals = s.globals := rfl
@[simp] theorem State.undefinedY_windows (s : State) : s.undefinedY.windows = s.windows := rfl
@[simp] theorem State.undefinedY_fregs (s : State) : s.undefinedY.fregs = s.fregs := rfl
@[simp] theorem State.undefinedY_pc (s : State) : s.undefinedY.pc = s.pc := rfl
@[simp] theorem State.undefinedY_npc (s : State) : s.undefinedY.npc = s.npc := rfl
@[simp] theorem State.undefinedY_win (s : State) : s.undefinedY.win = s.win := rfl
@[simp] theorem State.undefinedY_y (s : State) : s.undefinedY.y = s.freeWord.setWidth 32 := rfl
@[simp] theorem State.undefinedY_ccr (s : State) : s.undefinedY.ccr = s.ccr := rfl
@[simp] theorem State.undefinedY_asi (s : State) : s.undefinedY.asi = s.asi := rfl
@[simp] theorem State.undefinedY_fsr (s : State) : s.undefinedY.fsr = s.fsr := rfl
@[simp] theorem State.undefinedY_fprs (s : State) : s.undefinedY.fprs = s.fprs := rfl
@[simp] theorem State.undefinedY_gsr (s : State) : s.undefinedY.gsr = s.gsr := rfl
@[simp] theorem State.undefinedY_pcr (s : State) : s.undefinedY.pcr = s.pcr := rfl
@[simp] theorem State.undefinedY_pic (s : State) : s.undefinedY.pic = s.pic := rfl
@[simp] theorem State.undefinedY_tick (s : State) : s.undefinedY.tick = s.tick := rfl
@[simp] theorem State.undefinedY_stick (s : State) : s.undefinedY.stick = s.stick := rfl
@[simp] theorem State.undefinedY_tickCmpr (s : State) : s.undefinedY.tickCmpr = s.tickCmpr := rfl
@[simp] theorem State.undefinedY_stickCmpr (s : State) : s.undefinedY.stickCmpr = s.stickCmpr := rfl
@[simp] theorem State.undefinedY_hstickCmpr (s : State) : s.undefinedY.hstickCmpr = s.hstickCmpr := rfl
@[simp] theorem State.undefinedY_softint (s : State) : s.undefinedY.softint = s.softint := rfl
@[simp] theorem State.undefinedY_pil (s : State) : s.undefinedY.pil = s.pil := rfl
@[simp] theorem State.undefinedY_pstate (s : State) : s.undefinedY.pstate = s.pstate := rfl
@[simp] theorem State.undefinedY_hpstate (s : State) : s.undefinedY.hpstate = s.hpstate := rfl
@[simp] theorem State.undefinedY_tl (s : State) : s.undefinedY.tl = s.tl := rfl
@[simp] theorem State.undefinedY_gl (s : State) : s.undefinedY.gl = s.gl := rfl
@[simp] theorem State.undefinedY_traps (s : State) : s.undefinedY.traps = s.traps := rfl
@[simp] theorem State.undefinedY_tba (s : State) : s.undefinedY.tba = s.tba := rfl
@[simp] theorem State.undefinedY_htba (s : State) : s.undefinedY.htba = s.htba := rfl
@[simp] theorem State.undefinedY_hsp (s : State) : s.undefinedY.hsp = s.hsp := rfl
@[simp] theorem State.undefinedY_scratchpad (s : State) : s.undefinedY.scratchpad = s.scratchpad := rfl
@[simp] theorem State.undefinedY_hyperScratchpad (s : State) : s.undefinedY.hyperScratchpad = s.hyperScratchpad := rfl
@[simp] theorem State.undefinedY_queues (s : State) : s.undefinedY.queues = s.queues := rfl
@[simp] theorem State.undefinedY_mmu (s : State) : s.undefinedY.mmu = s.mmu := rfl
@[simp] theorem State.undefinedY_strandIntrId (s : State) : s.undefinedY.strandIntrId = s.strandIntrId := rfl
@[simp] theorem State.undefinedY_cmt (s : State) : s.undefinedY.cmt = s.cmt := rfl
@[simp] theorem State.undefinedY_errorState (s : State) : s.undefinedY.errorState = s.errorState := rfl
@[simp] theorem State.undefinedY_requests (s : State) : s.undefinedY.requests = s.requests := rfl
@[simp] theorem State.undefinedY_mem (s : State) : s.undefinedY.mem = s.mem := rfl
@[simp] theorem State.undefinedY_freeCount (s : State) : s.undefinedY.freeCount = s.freeCount + 1 := rfl

/-! ## State.setFsr -/

@[simp] theorem State.setFsr_globals (s : State) (f : Fsr) : (s.setFsr f).globals = s.globals := rfl
@[simp] theorem State.setFsr_windows (s : State) (f : Fsr) : (s.setFsr f).windows = s.windows := rfl
@[simp] theorem State.setFsr_fregs (s : State) (f : Fsr) : (s.setFsr f).fregs = s.fregs := rfl
@[simp] theorem State.setFsr_pc (s : State) (f : Fsr) : (s.setFsr f).pc = s.pc := rfl
@[simp] theorem State.setFsr_npc (s : State) (f : Fsr) : (s.setFsr f).npc = s.npc := rfl
@[simp] theorem State.setFsr_win (s : State) (f : Fsr) : (s.setFsr f).win = s.win := rfl
@[simp] theorem State.setFsr_y (s : State) (f : Fsr) : (s.setFsr f).y = s.y := rfl
@[simp] theorem State.setFsr_ccr (s : State) (f : Fsr) : (s.setFsr f).ccr = s.ccr := rfl
@[simp] theorem State.setFsr_asi (s : State) (f : Fsr) : (s.setFsr f).asi = s.asi := rfl
@[simp] theorem State.setFsr_fsr (s : State) (f : Fsr) : (s.setFsr f).fsr = f := rfl
@[simp] theorem State.setFsr_fprs (s : State) (f : Fsr) : (s.setFsr f).fprs = s.fprs := rfl
@[simp] theorem State.setFsr_gsr (s : State) (f : Fsr) : (s.setFsr f).gsr = s.gsr := rfl
@[simp] theorem State.setFsr_pcr (s : State) (f : Fsr) : (s.setFsr f).pcr = s.pcr := rfl
@[simp] theorem State.setFsr_pic (s : State) (f : Fsr) : (s.setFsr f).pic = s.pic := rfl
@[simp] theorem State.setFsr_tick (s : State) (f : Fsr) : (s.setFsr f).tick = s.tick := rfl
@[simp] theorem State.setFsr_stick (s : State) (f : Fsr) : (s.setFsr f).stick = s.stick := rfl
@[simp] theorem State.setFsr_tickCmpr (s : State) (f : Fsr) : (s.setFsr f).tickCmpr = s.tickCmpr := rfl
@[simp] theorem State.setFsr_stickCmpr (s : State) (f : Fsr) : (s.setFsr f).stickCmpr = s.stickCmpr := rfl
@[simp] theorem State.setFsr_hstickCmpr (s : State) (f : Fsr) : (s.setFsr f).hstickCmpr = s.hstickCmpr := rfl
@[simp] theorem State.setFsr_softint (s : State) (f : Fsr) : (s.setFsr f).softint = s.softint := rfl
@[simp] theorem State.setFsr_pil (s : State) (f : Fsr) : (s.setFsr f).pil = s.pil := rfl
@[simp] theorem State.setFsr_pstate (s : State) (f : Fsr) : (s.setFsr f).pstate = s.pstate := rfl
@[simp] theorem State.setFsr_hpstate (s : State) (f : Fsr) : (s.setFsr f).hpstate = s.hpstate := rfl
@[simp] theorem State.setFsr_tl (s : State) (f : Fsr) : (s.setFsr f).tl = s.tl := rfl
@[simp] theorem State.setFsr_gl (s : State) (f : Fsr) : (s.setFsr f).gl = s.gl := rfl
@[simp] theorem State.setFsr_traps (s : State) (f : Fsr) : (s.setFsr f).traps = s.traps := rfl
@[simp] theorem State.setFsr_tba (s : State) (f : Fsr) : (s.setFsr f).tba = s.tba := rfl
@[simp] theorem State.setFsr_htba (s : State) (f : Fsr) : (s.setFsr f).htba = s.htba := rfl
@[simp] theorem State.setFsr_hsp (s : State) (f : Fsr) : (s.setFsr f).hsp = s.hsp := rfl
@[simp] theorem State.setFsr_scratchpad (s : State) (f : Fsr) : (s.setFsr f).scratchpad = s.scratchpad := rfl
@[simp] theorem State.setFsr_hyperScratchpad (s : State) (f : Fsr) : (s.setFsr f).hyperScratchpad = s.hyperScratchpad :=
  rfl
@[simp] theorem State.setFsr_queues (s : State) (f : Fsr) : (s.setFsr f).queues = s.queues := rfl
@[simp] theorem State.setFsr_mmu (s : State) (f : Fsr) : (s.setFsr f).mmu = s.mmu := rfl
@[simp] theorem State.setFsr_strandIntrId (s : State) (f : Fsr) : (s.setFsr f).strandIntrId = s.strandIntrId := rfl
@[simp] theorem State.setFsr_cmt (s : State) (f : Fsr) : (s.setFsr f).cmt = s.cmt := rfl
@[simp] theorem State.setFsr_errorState (s : State) (f : Fsr) : (s.setFsr f).errorState = s.errorState := rfl
@[simp] theorem State.setFsr_requests (s : State) (f : Fsr) : (s.setFsr f).requests = s.requests := rfl
@[simp] theorem State.setFsr_mem (s : State) (f : Fsr) : (s.setFsr f).mem = s.mem := rfl
@[simp] theorem State.setFsr_freeCount (s : State) (f : Fsr) : (s.setFsr f).freeCount = s.freeCount := rfl

/-! ## State.clearFtt -/

@[simp] theorem State.clearFtt_globals (s : State) : s.clearFtt.globals = s.globals := rfl
@[simp] theorem State.clearFtt_windows (s : State) : s.clearFtt.windows = s.windows := rfl
@[simp] theorem State.clearFtt_fregs (s : State) : s.clearFtt.fregs = s.fregs := rfl
@[simp] theorem State.clearFtt_pc (s : State) : s.clearFtt.pc = s.pc := rfl
@[simp] theorem State.clearFtt_npc (s : State) : s.clearFtt.npc = s.npc := rfl
@[simp] theorem State.clearFtt_win (s : State) : s.clearFtt.win = s.win := rfl
@[simp] theorem State.clearFtt_y (s : State) : s.clearFtt.y = s.y := rfl
@[simp] theorem State.clearFtt_ccr (s : State) : s.clearFtt.ccr = s.ccr := rfl
@[simp] theorem State.clearFtt_asi (s : State) : s.clearFtt.asi = s.asi := rfl
@[simp] theorem State.clearFtt_fsr (s : State) : s.clearFtt.fsr = { s.fsr with ftt := 0#3 } := rfl
@[simp] theorem State.clearFtt_fprs (s : State) : s.clearFtt.fprs = s.fprs := rfl
@[simp] theorem State.clearFtt_gsr (s : State) : s.clearFtt.gsr = s.gsr := rfl
@[simp] theorem State.clearFtt_pcr (s : State) : s.clearFtt.pcr = s.pcr := rfl
@[simp] theorem State.clearFtt_pic (s : State) : s.clearFtt.pic = s.pic := rfl
@[simp] theorem State.clearFtt_tick (s : State) : s.clearFtt.tick = s.tick := rfl
@[simp] theorem State.clearFtt_stick (s : State) : s.clearFtt.stick = s.stick := rfl
@[simp] theorem State.clearFtt_tickCmpr (s : State) : s.clearFtt.tickCmpr = s.tickCmpr := rfl
@[simp] theorem State.clearFtt_stickCmpr (s : State) : s.clearFtt.stickCmpr = s.stickCmpr := rfl
@[simp] theorem State.clearFtt_hstickCmpr (s : State) : s.clearFtt.hstickCmpr = s.hstickCmpr := rfl
@[simp] theorem State.clearFtt_softint (s : State) : s.clearFtt.softint = s.softint := rfl
@[simp] theorem State.clearFtt_pil (s : State) : s.clearFtt.pil = s.pil := rfl
@[simp] theorem State.clearFtt_pstate (s : State) : s.clearFtt.pstate = s.pstate := rfl
@[simp] theorem State.clearFtt_hpstate (s : State) : s.clearFtt.hpstate = s.hpstate := rfl
@[simp] theorem State.clearFtt_tl (s : State) : s.clearFtt.tl = s.tl := rfl
@[simp] theorem State.clearFtt_gl (s : State) : s.clearFtt.gl = s.gl := rfl
@[simp] theorem State.clearFtt_traps (s : State) : s.clearFtt.traps = s.traps := rfl
@[simp] theorem State.clearFtt_tba (s : State) : s.clearFtt.tba = s.tba := rfl
@[simp] theorem State.clearFtt_htba (s : State) : s.clearFtt.htba = s.htba := rfl
@[simp] theorem State.clearFtt_hsp (s : State) : s.clearFtt.hsp = s.hsp := rfl
@[simp] theorem State.clearFtt_scratchpad (s : State) : s.clearFtt.scratchpad = s.scratchpad := rfl
@[simp] theorem State.clearFtt_hyperScratchpad (s : State) : s.clearFtt.hyperScratchpad = s.hyperScratchpad := rfl
@[simp] theorem State.clearFtt_queues (s : State) : s.clearFtt.queues = s.queues := rfl
@[simp] theorem State.clearFtt_mmu (s : State) : s.clearFtt.mmu = s.mmu := rfl
@[simp] theorem State.clearFtt_strandIntrId (s : State) : s.clearFtt.strandIntrId = s.strandIntrId := rfl
@[simp] theorem State.clearFtt_cmt (s : State) : s.clearFtt.cmt = s.cmt := rfl
@[simp] theorem State.clearFtt_errorState (s : State) : s.clearFtt.errorState = s.errorState := rfl
@[simp] theorem State.clearFtt_requests (s : State) : s.clearFtt.requests = s.requests := rfl
@[simp] theorem State.clearFtt_mem (s : State) : s.clearFtt.mem = s.mem := rfl
@[simp] theorem State.clearFtt_freeCount (s : State) : s.clearFtt.freeCount = s.freeCount := rfl

/-! ## State.clearCexcFtt -/

@[simp] theorem State.clearCexcFtt_globals (s : State) : s.clearCexcFtt.globals = s.globals := rfl
@[simp] theorem State.clearCexcFtt_windows (s : State) : s.clearCexcFtt.windows = s.windows := rfl
@[simp] theorem State.clearCexcFtt_fregs (s : State) : s.clearCexcFtt.fregs = s.fregs := rfl
@[simp] theorem State.clearCexcFtt_pc (s : State) : s.clearCexcFtt.pc = s.pc := rfl
@[simp] theorem State.clearCexcFtt_npc (s : State) : s.clearCexcFtt.npc = s.npc := rfl
@[simp] theorem State.clearCexcFtt_win (s : State) : s.clearCexcFtt.win = s.win := rfl
@[simp] theorem State.clearCexcFtt_y (s : State) : s.clearCexcFtt.y = s.y := rfl
@[simp] theorem State.clearCexcFtt_ccr (s : State) : s.clearCexcFtt.ccr = s.ccr := rfl
@[simp] theorem State.clearCexcFtt_asi (s : State) : s.clearCexcFtt.asi = s.asi := rfl
@[simp] theorem State.clearCexcFtt_fsr (s : State) : s.clearCexcFtt.fsr = { s.fsr with cexc := 0#5, ftt := 0#3 } := rfl
@[simp] theorem State.clearCexcFtt_fprs (s : State) : s.clearCexcFtt.fprs = s.fprs := rfl
@[simp] theorem State.clearCexcFtt_gsr (s : State) : s.clearCexcFtt.gsr = s.gsr := rfl
@[simp] theorem State.clearCexcFtt_pcr (s : State) : s.clearCexcFtt.pcr = s.pcr := rfl
@[simp] theorem State.clearCexcFtt_pic (s : State) : s.clearCexcFtt.pic = s.pic := rfl
@[simp] theorem State.clearCexcFtt_tick (s : State) : s.clearCexcFtt.tick = s.tick := rfl
@[simp] theorem State.clearCexcFtt_stick (s : State) : s.clearCexcFtt.stick = s.stick := rfl
@[simp] theorem State.clearCexcFtt_tickCmpr (s : State) : s.clearCexcFtt.tickCmpr = s.tickCmpr := rfl
@[simp] theorem State.clearCexcFtt_stickCmpr (s : State) : s.clearCexcFtt.stickCmpr = s.stickCmpr := rfl
@[simp] theorem State.clearCexcFtt_hstickCmpr (s : State) : s.clearCexcFtt.hstickCmpr = s.hstickCmpr := rfl
@[simp] theorem State.clearCexcFtt_softint (s : State) : s.clearCexcFtt.softint = s.softint := rfl
@[simp] theorem State.clearCexcFtt_pil (s : State) : s.clearCexcFtt.pil = s.pil := rfl
@[simp] theorem State.clearCexcFtt_pstate (s : State) : s.clearCexcFtt.pstate = s.pstate := rfl
@[simp] theorem State.clearCexcFtt_hpstate (s : State) : s.clearCexcFtt.hpstate = s.hpstate := rfl
@[simp] theorem State.clearCexcFtt_tl (s : State) : s.clearCexcFtt.tl = s.tl := rfl
@[simp] theorem State.clearCexcFtt_gl (s : State) : s.clearCexcFtt.gl = s.gl := rfl
@[simp] theorem State.clearCexcFtt_traps (s : State) : s.clearCexcFtt.traps = s.traps := rfl
@[simp] theorem State.clearCexcFtt_tba (s : State) : s.clearCexcFtt.tba = s.tba := rfl
@[simp] theorem State.clearCexcFtt_htba (s : State) : s.clearCexcFtt.htba = s.htba := rfl
@[simp] theorem State.clearCexcFtt_hsp (s : State) : s.clearCexcFtt.hsp = s.hsp := rfl
@[simp] theorem State.clearCexcFtt_scratchpad (s : State) : s.clearCexcFtt.scratchpad = s.scratchpad := rfl
@[simp] theorem State.clearCexcFtt_hyperScratchpad (s : State) : s.clearCexcFtt.hyperScratchpad = s.hyperScratchpad :=
  rfl
@[simp] theorem State.clearCexcFtt_queues (s : State) : s.clearCexcFtt.queues = s.queues := rfl
@[simp] theorem State.clearCexcFtt_mmu (s : State) : s.clearCexcFtt.mmu = s.mmu := rfl
@[simp] theorem State.clearCexcFtt_strandIntrId (s : State) : s.clearCexcFtt.strandIntrId = s.strandIntrId := rfl
@[simp] theorem State.clearCexcFtt_cmt (s : State) : s.clearCexcFtt.cmt = s.cmt := rfl
@[simp] theorem State.clearCexcFtt_errorState (s : State) : s.clearCexcFtt.errorState = s.errorState := rfl
@[simp] theorem State.clearCexcFtt_requests (s : State) : s.clearCexcFtt.requests = s.requests := rfl
@[simp] theorem State.clearCexcFtt_mem (s : State) : s.clearCexcFtt.mem = s.mem := rfl
@[simp] theorem State.clearCexcFtt_freeCount (s : State) : s.clearCexcFtt.freeCount = s.freeCount := rfl

/-! ## State.setWin -/

@[simp] theorem State.setWin_globals (s : State) (w : WindowRegs) : (s.setWin w).globals = s.globals := rfl
@[simp] theorem State.setWin_windows (s : State) (w : WindowRegs) : (s.setWin w).windows = s.windows := rfl
@[simp] theorem State.setWin_fregs (s : State) (w : WindowRegs) : (s.setWin w).fregs = s.fregs := rfl
@[simp] theorem State.setWin_pc (s : State) (w : WindowRegs) : (s.setWin w).pc = s.pc := rfl
@[simp] theorem State.setWin_npc (s : State) (w : WindowRegs) : (s.setWin w).npc = s.npc := rfl
@[simp] theorem State.setWin_win (s : State) (w : WindowRegs) : (s.setWin w).win = w := rfl
@[simp] theorem State.setWin_y (s : State) (w : WindowRegs) : (s.setWin w).y = s.y := rfl
@[simp] theorem State.setWin_ccr (s : State) (w : WindowRegs) : (s.setWin w).ccr = s.ccr := rfl
@[simp] theorem State.setWin_asi (s : State) (w : WindowRegs) : (s.setWin w).asi = s.asi := rfl
@[simp] theorem State.setWin_fsr (s : State) (w : WindowRegs) : (s.setWin w).fsr = s.fsr := rfl
@[simp] theorem State.setWin_fprs (s : State) (w : WindowRegs) : (s.setWin w).fprs = s.fprs := rfl
@[simp] theorem State.setWin_gsr (s : State) (w : WindowRegs) : (s.setWin w).gsr = s.gsr := rfl
@[simp] theorem State.setWin_pcr (s : State) (w : WindowRegs) : (s.setWin w).pcr = s.pcr := rfl
@[simp] theorem State.setWin_pic (s : State) (w : WindowRegs) : (s.setWin w).pic = s.pic := rfl
@[simp] theorem State.setWin_tick (s : State) (w : WindowRegs) : (s.setWin w).tick = s.tick := rfl
@[simp] theorem State.setWin_stick (s : State) (w : WindowRegs) : (s.setWin w).stick = s.stick := rfl
@[simp] theorem State.setWin_tickCmpr (s : State) (w : WindowRegs) : (s.setWin w).tickCmpr = s.tickCmpr := rfl
@[simp] theorem State.setWin_stickCmpr (s : State) (w : WindowRegs) : (s.setWin w).stickCmpr = s.stickCmpr := rfl
@[simp] theorem State.setWin_hstickCmpr (s : State) (w : WindowRegs) : (s.setWin w).hstickCmpr = s.hstickCmpr := rfl
@[simp] theorem State.setWin_softint (s : State) (w : WindowRegs) : (s.setWin w).softint = s.softint := rfl
@[simp] theorem State.setWin_pil (s : State) (w : WindowRegs) : (s.setWin w).pil = s.pil := rfl
@[simp] theorem State.setWin_pstate (s : State) (w : WindowRegs) : (s.setWin w).pstate = s.pstate := rfl
@[simp] theorem State.setWin_hpstate (s : State) (w : WindowRegs) : (s.setWin w).hpstate = s.hpstate := rfl
@[simp] theorem State.setWin_tl (s : State) (w : WindowRegs) : (s.setWin w).tl = s.tl := rfl
@[simp] theorem State.setWin_gl (s : State) (w : WindowRegs) : (s.setWin w).gl = s.gl := rfl
@[simp] theorem State.setWin_traps (s : State) (w : WindowRegs) : (s.setWin w).traps = s.traps := rfl
@[simp] theorem State.setWin_tba (s : State) (w : WindowRegs) : (s.setWin w).tba = s.tba := rfl
@[simp] theorem State.setWin_htba (s : State) (w : WindowRegs) : (s.setWin w).htba = s.htba := rfl
@[simp] theorem State.setWin_hsp (s : State) (w : WindowRegs) : (s.setWin w).hsp = s.hsp := rfl
@[simp] theorem State.setWin_scratchpad (s : State) (w : WindowRegs) : (s.setWin w).scratchpad = s.scratchpad := rfl
@[simp] theorem State.setWin_hyperScratchpad (s : State) (w : WindowRegs) : (s.setWin w).hyperScratchpad = s.hyperScratchpad :=
  rfl
@[simp] theorem State.setWin_queues (s : State) (w : WindowRegs) : (s.setWin w).queues = s.queues := rfl
@[simp] theorem State.setWin_mmu (s : State) (w : WindowRegs) : (s.setWin w).mmu = s.mmu := rfl
@[simp] theorem State.setWin_strandIntrId (s : State) (w : WindowRegs) : (s.setWin w).strandIntrId = s.strandIntrId :=
  rfl
@[simp] theorem State.setWin_cmt (s : State) (w : WindowRegs) : (s.setWin w).cmt = s.cmt :=
  rfl
@[simp] theorem State.setWin_errorState (s : State) (w : WindowRegs) : (s.setWin w).errorState = s.errorState := rfl
@[simp] theorem State.setWin_requests (s : State) (w : WindowRegs) : (s.setWin w).requests = s.requests := rfl
@[simp] theorem State.setWin_mem (s : State) (w : WindowRegs) : (s.setWin w).mem = s.mem := rfl
@[simp] theorem State.setWin_freeCount (s : State) (w : WindowRegs) : (s.setWin w).freeCount = s.freeCount := rfl

/-! ## State.setGsr -/

@[simp] theorem State.setGsr_globals (s : State) (g : Gsr) : (s.setGsr g).globals = s.globals := rfl
@[simp] theorem State.setGsr_windows (s : State) (g : Gsr) : (s.setGsr g).windows = s.windows := rfl
@[simp] theorem State.setGsr_fregs (s : State) (g : Gsr) : (s.setGsr g).fregs = s.fregs := rfl
@[simp] theorem State.setGsr_pc (s : State) (g : Gsr) : (s.setGsr g).pc = s.pc := rfl
@[simp] theorem State.setGsr_npc (s : State) (g : Gsr) : (s.setGsr g).npc = s.npc := rfl
@[simp] theorem State.setGsr_win (s : State) (g : Gsr) : (s.setGsr g).win = s.win := rfl
@[simp] theorem State.setGsr_y (s : State) (g : Gsr) : (s.setGsr g).y = s.y := rfl
@[simp] theorem State.setGsr_ccr (s : State) (g : Gsr) : (s.setGsr g).ccr = s.ccr := rfl
@[simp] theorem State.setGsr_asi (s : State) (g : Gsr) : (s.setGsr g).asi = s.asi := rfl
@[simp] theorem State.setGsr_fsr (s : State) (g : Gsr) : (s.setGsr g).fsr = s.fsr := rfl
@[simp] theorem State.setGsr_fprs (s : State) (g : Gsr) : (s.setGsr g).fprs = s.fprs := rfl
@[simp] theorem State.setGsr_gsr (s : State) (g : Gsr) : (s.setGsr g).gsr = g := rfl
@[simp] theorem State.setGsr_pcr (s : State) (g : Gsr) : (s.setGsr g).pcr = s.pcr := rfl
@[simp] theorem State.setGsr_pic (s : State) (g : Gsr) : (s.setGsr g).pic = s.pic := rfl
@[simp] theorem State.setGsr_tick (s : State) (g : Gsr) : (s.setGsr g).tick = s.tick := rfl
@[simp] theorem State.setGsr_stick (s : State) (g : Gsr) : (s.setGsr g).stick = s.stick := rfl
@[simp] theorem State.setGsr_tickCmpr (s : State) (g : Gsr) : (s.setGsr g).tickCmpr = s.tickCmpr := rfl
@[simp] theorem State.setGsr_stickCmpr (s : State) (g : Gsr) : (s.setGsr g).stickCmpr = s.stickCmpr := rfl
@[simp] theorem State.setGsr_hstickCmpr (s : State) (g : Gsr) : (s.setGsr g).hstickCmpr = s.hstickCmpr := rfl
@[simp] theorem State.setGsr_softint (s : State) (g : Gsr) : (s.setGsr g).softint = s.softint := rfl
@[simp] theorem State.setGsr_pil (s : State) (g : Gsr) : (s.setGsr g).pil = s.pil := rfl
@[simp] theorem State.setGsr_pstate (s : State) (g : Gsr) : (s.setGsr g).pstate = s.pstate := rfl
@[simp] theorem State.setGsr_hpstate (s : State) (g : Gsr) : (s.setGsr g).hpstate = s.hpstate := rfl
@[simp] theorem State.setGsr_tl (s : State) (g : Gsr) : (s.setGsr g).tl = s.tl := rfl
@[simp] theorem State.setGsr_gl (s : State) (g : Gsr) : (s.setGsr g).gl = s.gl := rfl
@[simp] theorem State.setGsr_traps (s : State) (g : Gsr) : (s.setGsr g).traps = s.traps := rfl
@[simp] theorem State.setGsr_tba (s : State) (g : Gsr) : (s.setGsr g).tba = s.tba := rfl
@[simp] theorem State.setGsr_htba (s : State) (g : Gsr) : (s.setGsr g).htba = s.htba := rfl
@[simp] theorem State.setGsr_hsp (s : State) (g : Gsr) : (s.setGsr g).hsp = s.hsp := rfl
@[simp] theorem State.setGsr_scratchpad (s : State) (g : Gsr) : (s.setGsr g).scratchpad = s.scratchpad := rfl
@[simp] theorem State.setGsr_hyperScratchpad (s : State) (g : Gsr) : (s.setGsr g).hyperScratchpad = s.hyperScratchpad :=
  rfl
@[simp] theorem State.setGsr_queues (s : State) (g : Gsr) : (s.setGsr g).queues = s.queues := rfl
@[simp] theorem State.setGsr_mmu (s : State) (g : Gsr) : (s.setGsr g).mmu = s.mmu := rfl
@[simp] theorem State.setGsr_strandIntrId (s : State) (g : Gsr) : (s.setGsr g).strandIntrId = s.strandIntrId := rfl
@[simp] theorem State.setGsr_cmt (s : State) (g : Gsr) : (s.setGsr g).cmt = s.cmt := rfl
@[simp] theorem State.setGsr_errorState (s : State) (g : Gsr) : (s.setGsr g).errorState = s.errorState := rfl
@[simp] theorem State.setGsr_requests (s : State) (g : Gsr) : (s.setGsr g).requests = s.requests := rfl
@[simp] theorem State.setGsr_mem (s : State) (g : Gsr) : (s.setGsr g).mem = s.mem := rfl
@[simp] theorem State.setGsr_freeCount (s : State) (g : Gsr) : (s.setGsr g).freeCount = s.freeCount := rfl

/-! ## State.setTrapEntry -/

@[simp] theorem State.setTrapEntry_globals (s : State) (e : TrapEntry) : (s.setTrapEntry e).globals = s.globals := rfl
@[simp] theorem State.setTrapEntry_windows (s : State) (e : TrapEntry) : (s.setTrapEntry e).windows = s.windows := rfl
@[simp] theorem State.setTrapEntry_fregs (s : State) (e : TrapEntry) : (s.setTrapEntry e).fregs = s.fregs := rfl
@[simp] theorem State.setTrapEntry_pc (s : State) (e : TrapEntry) : (s.setTrapEntry e).pc = s.pc := rfl
@[simp] theorem State.setTrapEntry_npc (s : State) (e : TrapEntry) : (s.setTrapEntry e).npc = s.npc := rfl
@[simp] theorem State.setTrapEntry_win (s : State) (e : TrapEntry) : (s.setTrapEntry e).win = s.win := rfl
@[simp] theorem State.setTrapEntry_y (s : State) (e : TrapEntry) : (s.setTrapEntry e).y = s.y := rfl
@[simp] theorem State.setTrapEntry_ccr (s : State) (e : TrapEntry) : (s.setTrapEntry e).ccr = s.ccr := rfl
@[simp] theorem State.setTrapEntry_asi (s : State) (e : TrapEntry) : (s.setTrapEntry e).asi = s.asi := rfl
@[simp] theorem State.setTrapEntry_fsr (s : State) (e : TrapEntry) : (s.setTrapEntry e).fsr = s.fsr := rfl
@[simp] theorem State.setTrapEntry_fprs (s : State) (e : TrapEntry) : (s.setTrapEntry e).fprs = s.fprs := rfl
@[simp] theorem State.setTrapEntry_gsr (s : State) (e : TrapEntry) : (s.setTrapEntry e).gsr = s.gsr := rfl
@[simp] theorem State.setTrapEntry_pcr (s : State) (e : TrapEntry) : (s.setTrapEntry e).pcr = s.pcr := rfl
@[simp] theorem State.setTrapEntry_pic (s : State) (e : TrapEntry) : (s.setTrapEntry e).pic = s.pic := rfl
@[simp] theorem State.setTrapEntry_tick (s : State) (e : TrapEntry) : (s.setTrapEntry e).tick = s.tick := rfl
@[simp] theorem State.setTrapEntry_stick (s : State) (e : TrapEntry) : (s.setTrapEntry e).stick = s.stick := rfl
@[simp] theorem State.setTrapEntry_tickCmpr (s : State) (e : TrapEntry) : (s.setTrapEntry e).tickCmpr = s.tickCmpr :=
  rfl
@[simp] theorem State.setTrapEntry_stickCmpr (s : State) (e : TrapEntry) : (s.setTrapEntry e).stickCmpr = s.stickCmpr :=
  rfl
@[simp] theorem State.setTrapEntry_hstickCmpr (s : State) (e : TrapEntry) : (s.setTrapEntry e).hstickCmpr = s.hstickCmpr :=
  rfl
@[simp] theorem State.setTrapEntry_softint (s : State) (e : TrapEntry) : (s.setTrapEntry e).softint = s.softint := rfl
@[simp] theorem State.setTrapEntry_pil (s : State) (e : TrapEntry) : (s.setTrapEntry e).pil = s.pil := rfl
@[simp] theorem State.setTrapEntry_pstate (s : State) (e : TrapEntry) : (s.setTrapEntry e).pstate = s.pstate := rfl
@[simp] theorem State.setTrapEntry_hpstate (s : State) (e : TrapEntry) : (s.setTrapEntry e).hpstate = s.hpstate := rfl
@[simp] theorem State.setTrapEntry_tl (s : State) (e : TrapEntry) : (s.setTrapEntry e).tl = s.tl := rfl
@[simp] theorem State.setTrapEntry_gl (s : State) (e : TrapEntry) : (s.setTrapEntry e).gl = s.gl := rfl
@[simp] theorem State.setTrapEntry_tba (s : State) (e : TrapEntry) : (s.setTrapEntry e).tba = s.tba := rfl
@[simp] theorem State.setTrapEntry_htba (s : State) (e : TrapEntry) : (s.setTrapEntry e).htba = s.htba := rfl
@[simp] theorem State.setTrapEntry_hsp (s : State) (e : TrapEntry) : (s.setTrapEntry e).hsp = s.hsp := rfl
@[simp] theorem State.setTrapEntry_scratchpad (s : State) (e : TrapEntry) : (s.setTrapEntry e).scratchpad = s.scratchpad :=
  rfl
@[simp] theorem State.setTrapEntry_hyperScratchpad (s : State) (e : TrapEntry) : (s.setTrapEntry e).hyperScratchpad = s.hyperScratchpad :=
  rfl
@[simp] theorem State.setTrapEntry_queues (s : State) (e : TrapEntry) : (s.setTrapEntry e).queues = s.queues := rfl
@[simp] theorem State.setTrapEntry_mmu (s : State) (e : TrapEntry) : (s.setTrapEntry e).mmu = s.mmu := rfl
@[simp] theorem State.setTrapEntry_strandIntrId (s : State) (e : TrapEntry) : (s.setTrapEntry e).strandIntrId = s.strandIntrId :=
  rfl
@[simp] theorem State.setTrapEntry_cmt (s : State) (e : TrapEntry) : (s.setTrapEntry e).cmt = s.cmt :=
  rfl
@[simp] theorem State.setTrapEntry_errorState (s : State) (e : TrapEntry) : (s.setTrapEntry e).errorState = s.errorState :=
  rfl
@[simp] theorem State.setTrapEntry_requests (s : State) (e : TrapEntry) : (s.setTrapEntry e).requests = s.requests :=
  rfl
@[simp] theorem State.setTrapEntry_mem (s : State) (e : TrapEntry) : (s.setTrapEntry e).mem = s.mem := rfl
@[simp] theorem State.setTrapEntry_freeCount (s : State) (e : TrapEntry) : (s.setTrapEntry e).freeCount = s.freeCount :=
  rfl

/-! ## State.markLower -/

@[simp] theorem State.markLower_globals (s : State) : s.markLower.globals = s.globals := rfl
@[simp] theorem State.markLower_windows (s : State) : s.markLower.windows = s.windows := rfl
@[simp] theorem State.markLower_fregs (s : State) : s.markLower.fregs = s.fregs := rfl
@[simp] theorem State.markLower_pc (s : State) : s.markLower.pc = s.pc := rfl
@[simp] theorem State.markLower_npc (s : State) : s.markLower.npc = s.npc := rfl
@[simp] theorem State.markLower_win (s : State) : s.markLower.win = s.win := rfl
@[simp] theorem State.markLower_y (s : State) : s.markLower.y = s.y := rfl
@[simp] theorem State.markLower_ccr (s : State) : s.markLower.ccr = s.ccr := rfl
@[simp] theorem State.markLower_asi (s : State) : s.markLower.asi = s.asi := rfl
@[simp] theorem State.markLower_fsr (s : State) : s.markLower.fsr = s.fsr := rfl
@[simp] theorem State.markLower_fprs (s : State) : s.markLower.fprs = { s.fprs with dl := true } := rfl
@[simp] theorem State.markLower_gsr (s : State) : s.markLower.gsr = s.gsr := rfl
@[simp] theorem State.markLower_pcr (s : State) : s.markLower.pcr = s.pcr := rfl
@[simp] theorem State.markLower_pic (s : State) : s.markLower.pic = s.pic := rfl
@[simp] theorem State.markLower_tick (s : State) : s.markLower.tick = s.tick := rfl
@[simp] theorem State.markLower_stick (s : State) : s.markLower.stick = s.stick := rfl
@[simp] theorem State.markLower_tickCmpr (s : State) : s.markLower.tickCmpr = s.tickCmpr := rfl
@[simp] theorem State.markLower_stickCmpr (s : State) : s.markLower.stickCmpr = s.stickCmpr := rfl
@[simp] theorem State.markLower_hstickCmpr (s : State) : s.markLower.hstickCmpr = s.hstickCmpr := rfl
@[simp] theorem State.markLower_softint (s : State) : s.markLower.softint = s.softint := rfl
@[simp] theorem State.markLower_pil (s : State) : s.markLower.pil = s.pil := rfl
@[simp] theorem State.markLower_pstate (s : State) : s.markLower.pstate = s.pstate := rfl
@[simp] theorem State.markLower_hpstate (s : State) : s.markLower.hpstate = s.hpstate := rfl
@[simp] theorem State.markLower_tl (s : State) : s.markLower.tl = s.tl := rfl
@[simp] theorem State.markLower_gl (s : State) : s.markLower.gl = s.gl := rfl
@[simp] theorem State.markLower_traps (s : State) : s.markLower.traps = s.traps := rfl
@[simp] theorem State.markLower_tba (s : State) : s.markLower.tba = s.tba := rfl
@[simp] theorem State.markLower_htba (s : State) : s.markLower.htba = s.htba := rfl
@[simp] theorem State.markLower_hsp (s : State) : s.markLower.hsp = s.hsp := rfl
@[simp] theorem State.markLower_scratchpad (s : State) : s.markLower.scratchpad = s.scratchpad := rfl
@[simp] theorem State.markLower_hyperScratchpad (s : State) : s.markLower.hyperScratchpad = s.hyperScratchpad := rfl
@[simp] theorem State.markLower_queues (s : State) : s.markLower.queues = s.queues := rfl
@[simp] theorem State.markLower_mmu (s : State) : s.markLower.mmu = s.mmu := rfl
@[simp] theorem State.markLower_strandIntrId (s : State) : s.markLower.strandIntrId = s.strandIntrId := rfl
@[simp] theorem State.markLower_cmt (s : State) : s.markLower.cmt = s.cmt := rfl
@[simp] theorem State.markLower_errorState (s : State) : s.markLower.errorState = s.errorState := rfl
@[simp] theorem State.markLower_requests (s : State) : s.markLower.requests = s.requests := rfl
@[simp] theorem State.markLower_mem (s : State) : s.markLower.mem = s.mem := rfl
@[simp] theorem State.markLower_freeCount (s : State) : s.markLower.freeCount = s.freeCount := rfl

/-! ## State.writeFS -/

@[simp] theorem State.writeFS_globals (s : State) (f : RegField) (v : HWord) : (s.writeFS f v).globals = s.globals :=
  rfl
@[simp] theorem State.writeFS_windows (s : State) (f : RegField) (v : HWord) : (s.writeFS f v).windows = s.windows :=
  rfl
@[simp] theorem State.writeFS_pc (s : State) (f : RegField) (v : HWord) : (s.writeFS f v).pc = s.pc := rfl
@[simp] theorem State.writeFS_npc (s : State) (f : RegField) (v : HWord) : (s.writeFS f v).npc = s.npc := rfl
@[simp] theorem State.writeFS_win (s : State) (f : RegField) (v : HWord) : (s.writeFS f v).win = s.win := rfl
@[simp] theorem State.writeFS_y (s : State) (f : RegField) (v : HWord) : (s.writeFS f v).y = s.y := rfl
@[simp] theorem State.writeFS_ccr (s : State) (f : RegField) (v : HWord) : (s.writeFS f v).ccr = s.ccr := rfl
@[simp] theorem State.writeFS_asi (s : State) (f : RegField) (v : HWord) : (s.writeFS f v).asi = s.asi := rfl
@[simp] theorem State.writeFS_fsr (s : State) (f : RegField) (v : HWord) : (s.writeFS f v).fsr = s.fsr := rfl
@[simp] theorem State.writeFS_fprs (s : State) (f : RegField) (v : HWord) : (s.writeFS f v).fprs = { s.fprs with dl := true } :=
  rfl
@[simp] theorem State.writeFS_gsr (s : State) (f : RegField) (v : HWord) : (s.writeFS f v).gsr = s.gsr := rfl
@[simp] theorem State.writeFS_pcr (s : State) (f : RegField) (v : HWord) : (s.writeFS f v).pcr = s.pcr := rfl
@[simp] theorem State.writeFS_pic (s : State) (f : RegField) (v : HWord) : (s.writeFS f v).pic = s.pic := rfl
@[simp] theorem State.writeFS_tick (s : State) (f : RegField) (v : HWord) : (s.writeFS f v).tick = s.tick := rfl
@[simp] theorem State.writeFS_stick (s : State) (f : RegField) (v : HWord) : (s.writeFS f v).stick = s.stick := rfl
@[simp] theorem State.writeFS_tickCmpr (s : State) (f : RegField) (v : HWord) : (s.writeFS f v).tickCmpr = s.tickCmpr :=
  rfl
@[simp] theorem State.writeFS_stickCmpr (s : State) (f : RegField) (v : HWord) : (s.writeFS f v).stickCmpr = s.stickCmpr :=
  rfl
@[simp] theorem State.writeFS_hstickCmpr (s : State) (f : RegField) (v : HWord) : (s.writeFS f v).hstickCmpr = s.hstickCmpr :=
  rfl
@[simp] theorem State.writeFS_softint (s : State) (f : RegField) (v : HWord) : (s.writeFS f v).softint = s.softint :=
  rfl
@[simp] theorem State.writeFS_pil (s : State) (f : RegField) (v : HWord) : (s.writeFS f v).pil = s.pil := rfl
@[simp] theorem State.writeFS_pstate (s : State) (f : RegField) (v : HWord) : (s.writeFS f v).pstate = s.pstate := rfl
@[simp] theorem State.writeFS_hpstate (s : State) (f : RegField) (v : HWord) : (s.writeFS f v).hpstate = s.hpstate :=
  rfl
@[simp] theorem State.writeFS_tl (s : State) (f : RegField) (v : HWord) : (s.writeFS f v).tl = s.tl := rfl
@[simp] theorem State.writeFS_gl (s : State) (f : RegField) (v : HWord) : (s.writeFS f v).gl = s.gl := rfl
@[simp] theorem State.writeFS_traps (s : State) (f : RegField) (v : HWord) : (s.writeFS f v).traps = s.traps := rfl
@[simp] theorem State.writeFS_tba (s : State) (f : RegField) (v : HWord) : (s.writeFS f v).tba = s.tba := rfl
@[simp] theorem State.writeFS_htba (s : State) (f : RegField) (v : HWord) : (s.writeFS f v).htba = s.htba := rfl
@[simp] theorem State.writeFS_hsp (s : State) (f : RegField) (v : HWord) : (s.writeFS f v).hsp = s.hsp := rfl
@[simp] theorem State.writeFS_scratchpad (s : State) (f : RegField) (v : HWord) : (s.writeFS f v).scratchpad = s.scratchpad :=
  rfl
@[simp] theorem State.writeFS_hyperScratchpad (s : State) (f : RegField) (v : HWord) : (s.writeFS f v).hyperScratchpad = s.hyperScratchpad :=
  rfl
@[simp] theorem State.writeFS_queues (s : State) (f : RegField) (v : HWord) : (s.writeFS f v).queues = s.queues := rfl
@[simp] theorem State.writeFS_mmu (s : State) (f : RegField) (v : HWord) : (s.writeFS f v).mmu = s.mmu := rfl
@[simp] theorem State.writeFS_strandIntrId (s : State) (f : RegField) (v : HWord) : (s.writeFS f v).strandIntrId = s.strandIntrId :=
  rfl
@[simp] theorem State.writeFS_cmt (s : State) (f : RegField) (v : HWord) : (s.writeFS f v).cmt = s.cmt :=
  rfl
@[simp] theorem State.writeFS_errorState (s : State) (f : RegField) (v : HWord) : (s.writeFS f v).errorState = s.errorState :=
  rfl
@[simp] theorem State.writeFS_requests (s : State) (f : RegField) (v : HWord) : (s.writeFS f v).requests = s.requests :=
  rfl
@[simp] theorem State.writeFS_mem (s : State) (f : RegField) (v : HWord) : (s.writeFS f v).mem = s.mem := rfl
@[simp] theorem State.writeFS_freeCount (s : State) (f : RegField) (v : HWord) : (s.writeFS f v).freeCount = s.freeCount :=
  rfl

/-! ## State.returnFromTrapRestore -/

@[simp] theorem State.returnFromTrapRestore_globals (s : State) : s.returnFromTrapRestore.globals = s.globals := rfl
@[simp] theorem State.returnFromTrapRestore_windows (s : State) : s.returnFromTrapRestore.windows = s.windows := rfl
@[simp] theorem State.returnFromTrapRestore_fregs (s : State) : s.returnFromTrapRestore.fregs = s.fregs := rfl
@[simp] theorem State.returnFromTrapRestore_pc (s : State) : s.returnFromTrapRestore.pc = s.pc := rfl
@[simp] theorem State.returnFromTrapRestore_npc (s : State) : s.returnFromTrapRestore.npc = s.npc := rfl
@[simp] theorem State.returnFromTrapRestore_win (s : State) : s.returnFromTrapRestore.win = { s.win with cwp := s.trapEntry.tstate.cwp.setWidth 3 } :=
  rfl
@[simp] theorem State.returnFromTrapRestore_y (s : State) : s.returnFromTrapRestore.y = s.y := rfl
@[simp] theorem State.returnFromTrapRestore_ccr (s : State) : s.returnFromTrapRestore.ccr = s.trapEntry.tstate.ccr :=
  rfl
@[simp] theorem State.returnFromTrapRestore_asi (s : State) : s.returnFromTrapRestore.asi = s.trapEntry.tstate.asi :=
  rfl
@[simp] theorem State.returnFromTrapRestore_fsr (s : State) : s.returnFromTrapRestore.fsr = s.fsr := rfl
@[simp] theorem State.returnFromTrapRestore_fprs (s : State) : s.returnFromTrapRestore.fprs = s.fprs := rfl
@[simp] theorem State.returnFromTrapRestore_gsr (s : State) : s.returnFromTrapRestore.gsr = s.gsr := rfl
@[simp] theorem State.returnFromTrapRestore_pcr (s : State) : s.returnFromTrapRestore.pcr = s.pcr := rfl
@[simp] theorem State.returnFromTrapRestore_pic (s : State) : s.returnFromTrapRestore.pic = s.pic := rfl
@[simp] theorem State.returnFromTrapRestore_tick (s : State) : s.returnFromTrapRestore.tick = s.tick := rfl
@[simp] theorem State.returnFromTrapRestore_stick (s : State) : s.returnFromTrapRestore.stick = s.stick := rfl
@[simp] theorem State.returnFromTrapRestore_tickCmpr (s : State) : s.returnFromTrapRestore.tickCmpr = s.tickCmpr := rfl
@[simp] theorem State.returnFromTrapRestore_stickCmpr (s : State) : s.returnFromTrapRestore.stickCmpr = s.stickCmpr :=
  rfl
@[simp] theorem State.returnFromTrapRestore_hstickCmpr (s : State) : s.returnFromTrapRestore.hstickCmpr = s.hstickCmpr :=
  rfl
@[simp] theorem State.returnFromTrapRestore_softint (s : State) : s.returnFromTrapRestore.softint = s.softint := rfl
@[simp] theorem State.returnFromTrapRestore_pil (s : State) : s.returnFromTrapRestore.pil = s.pil := rfl
@[simp] theorem State.returnFromTrapRestore_pstate (s : State) : s.returnFromTrapRestore.pstate = PState.ofBits s.trapEntry.tstate.pstate :=
  rfl
@[simp] theorem State.returnFromTrapRestore_hpstate (s : State) : s.returnFromTrapRestore.hpstate = HPState.ofBits s.trapEntry.htstate :=
  rfl
@[simp] theorem State.returnFromTrapRestore_tl (s : State) : s.returnFromTrapRestore.tl = s.tl := rfl
@[simp] theorem State.returnFromTrapRestore_gl (s : State) : s.returnFromTrapRestore.gl = s.restoredGl := rfl
@[simp] theorem State.returnFromTrapRestore_traps (s : State) : s.returnFromTrapRestore.traps = s.traps := rfl
@[simp] theorem State.returnFromTrapRestore_tba (s : State) : s.returnFromTrapRestore.tba = s.tba := rfl
@[simp] theorem State.returnFromTrapRestore_htba (s : State) : s.returnFromTrapRestore.htba = s.htba := rfl
@[simp] theorem State.returnFromTrapRestore_hsp (s : State) : s.returnFromTrapRestore.hsp = s.hsp := rfl
@[simp] theorem State.returnFromTrapRestore_scratchpad (s : State) : s.returnFromTrapRestore.scratchpad = s.scratchpad :=
  rfl
@[simp] theorem State.returnFromTrapRestore_hyperScratchpad (s : State) : s.returnFromTrapRestore.hyperScratchpad = s.hyperScratchpad :=
  rfl
@[simp] theorem State.returnFromTrapRestore_queues (s : State) : s.returnFromTrapRestore.queues = s.queues := rfl
@[simp] theorem State.returnFromTrapRestore_mmu (s : State) : s.returnFromTrapRestore.mmu = s.mmu := rfl
@[simp] theorem State.returnFromTrapRestore_strandIntrId (s : State) : s.returnFromTrapRestore.strandIntrId = s.strandIntrId :=
  rfl
@[simp] theorem State.returnFromTrapRestore_cmt (s : State) : s.returnFromTrapRestore.cmt = s.cmt :=
  rfl
@[simp] theorem State.returnFromTrapRestore_errorState (s : State) : s.returnFromTrapRestore.errorState = s.errorState :=
  rfl
@[simp] theorem State.returnFromTrapRestore_requests (s : State) : s.returnFromTrapRestore.requests = s.requests := rfl
@[simp] theorem State.returnFromTrapRestore_mem (s : State) : s.returnFromTrapRestore.mem = s.mem := rfl
@[simp] theorem State.returnFromTrapRestore_freeCount (s : State) : s.returnFromTrapRestore.freeCount = s.freeCount :=
  rfl

/-! ## State.writeR -/

@[simp] theorem State.writeR_fregs (s : State) (r : RegField) (v : Word) : (s.writeR r v).fregs = s.fregs := by
  unfold State.writeR; split <;> [rfl; split <;> rfl]
@[simp] theorem State.writeR_pc (s : State) (r : RegField) (v : Word) : (s.writeR r v).pc = s.pc := by
  unfold State.writeR; split <;> [rfl; split <;> rfl]
@[simp] theorem State.writeR_npc (s : State) (r : RegField) (v : Word) : (s.writeR r v).npc = s.npc := by
  unfold State.writeR; split <;> [rfl; split <;> rfl]
@[simp] theorem State.writeR_win (s : State) (r : RegField) (v : Word) : (s.writeR r v).win = s.win := by
  unfold State.writeR; split <;> [rfl; split <;> rfl]
@[simp] theorem State.writeR_y (s : State) (r : RegField) (v : Word) : (s.writeR r v).y = s.y := by
  unfold State.writeR; split <;> [rfl; split <;> rfl]
@[simp] theorem State.writeR_ccr (s : State) (r : RegField) (v : Word) : (s.writeR r v).ccr = s.ccr := by
  unfold State.writeR; split <;> [rfl; split <;> rfl]
@[simp] theorem State.writeR_asi (s : State) (r : RegField) (v : Word) : (s.writeR r v).asi = s.asi := by
  unfold State.writeR; split <;> [rfl; split <;> rfl]
@[simp] theorem State.writeR_fsr (s : State) (r : RegField) (v : Word) : (s.writeR r v).fsr = s.fsr := by
  unfold State.writeR; split <;> [rfl; split <;> rfl]
@[simp] theorem State.writeR_fprs (s : State) (r : RegField) (v : Word) : (s.writeR r v).fprs = s.fprs := by
  unfold State.writeR; split <;> [rfl; split <;> rfl]
@[simp] theorem State.writeR_gsr (s : State) (r : RegField) (v : Word) : (s.writeR r v).gsr = s.gsr := by
  unfold State.writeR; split <;> [rfl; split <;> rfl]
@[simp] theorem State.writeR_pcr (s : State) (r : RegField) (v : Word) : (s.writeR r v).pcr = s.pcr := by
  unfold State.writeR; split <;> [rfl; split <;> rfl]
@[simp] theorem State.writeR_pic (s : State) (r : RegField) (v : Word) : (s.writeR r v).pic = s.pic := by
  unfold State.writeR; split <;> [rfl; split <;> rfl]
@[simp] theorem State.writeR_tick (s : State) (r : RegField) (v : Word) : (s.writeR r v).tick = s.tick := by
  unfold State.writeR; split <;> [rfl; split <;> rfl]
@[simp] theorem State.writeR_stick (s : State) (r : RegField) (v : Word) : (s.writeR r v).stick = s.stick := by
  unfold State.writeR; split <;> [rfl; split <;> rfl]
@[simp] theorem State.writeR_tickCmpr (s : State) (r : RegField) (v : Word) : (s.writeR r v).tickCmpr = s.tickCmpr := by
  unfold State.writeR; split <;> [rfl; split <;> rfl]
@[simp] theorem State.writeR_stickCmpr (s : State) (r : RegField) (v : Word) : (s.writeR r v).stickCmpr = s.stickCmpr :=
  by unfold State.writeR; split <;> [rfl; split <;> rfl]
@[simp] theorem State.writeR_hstickCmpr (s : State) (r : RegField) (v : Word) : (s.writeR r v).hstickCmpr = s.hstickCmpr :=
  by unfold State.writeR; split <;> [rfl; split <;> rfl]
@[simp] theorem State.writeR_softint (s : State) (r : RegField) (v : Word) : (s.writeR r v).softint = s.softint := by
  unfold State.writeR; split <;> [rfl; split <;> rfl]
@[simp] theorem State.writeR_pil (s : State) (r : RegField) (v : Word) : (s.writeR r v).pil = s.pil := by
  unfold State.writeR; split <;> [rfl; split <;> rfl]
@[simp] theorem State.writeR_pstate (s : State) (r : RegField) (v : Word) : (s.writeR r v).pstate = s.pstate := by
  unfold State.writeR; split <;> [rfl; split <;> rfl]
@[simp] theorem State.writeR_hpstate (s : State) (r : RegField) (v : Word) : (s.writeR r v).hpstate = s.hpstate := by
  unfold State.writeR; split <;> [rfl; split <;> rfl]
@[simp] theorem State.writeR_tl (s : State) (r : RegField) (v : Word) : (s.writeR r v).tl = s.tl := by
  unfold State.writeR; split <;> [rfl; split <;> rfl]
@[simp] theorem State.writeR_gl (s : State) (r : RegField) (v : Word) : (s.writeR r v).gl = s.gl := by
  unfold State.writeR; split <;> [rfl; split <;> rfl]
@[simp] theorem State.writeR_traps (s : State) (r : RegField) (v : Word) : (s.writeR r v).traps = s.traps := by
  unfold State.writeR; split <;> [rfl; split <;> rfl]
@[simp] theorem State.writeR_tba (s : State) (r : RegField) (v : Word) : (s.writeR r v).tba = s.tba := by
  unfold State.writeR; split <;> [rfl; split <;> rfl]
@[simp] theorem State.writeR_htba (s : State) (r : RegField) (v : Word) : (s.writeR r v).htba = s.htba := by
  unfold State.writeR; split <;> [rfl; split <;> rfl]
@[simp] theorem State.writeR_hsp (s : State) (r : RegField) (v : Word) : (s.writeR r v).hsp = s.hsp := by
  unfold State.writeR; split <;> [rfl; split <;> rfl]
@[simp] theorem State.writeR_scratchpad (s : State) (r : RegField) (v : Word) : (s.writeR r v).scratchpad = s.scratchpad :=
  by unfold State.writeR; split <;> [rfl; split <;> rfl]
@[simp] theorem State.writeR_hyperScratchpad (s : State) (r : RegField) (v : Word) : (s.writeR r v).hyperScratchpad = s.hyperScratchpad :=
  by unfold State.writeR; split <;> [rfl; split <;> rfl]
@[simp] theorem State.writeR_queues (s : State) (r : RegField) (v : Word) : (s.writeR r v).queues = s.queues := by
  unfold State.writeR; split <;> [rfl; split <;> rfl]
@[simp] theorem State.writeR_mmu (s : State) (r : RegField) (v : Word) : (s.writeR r v).mmu = s.mmu := by
  unfold State.writeR; split <;> [rfl; split <;> rfl]
@[simp] theorem State.writeR_strandIntrId (s : State) (r : RegField) (v : Word) : (s.writeR r v).strandIntrId = s.strandIntrId :=
  by unfold State.writeR; split <;> [rfl; split <;> rfl]
@[simp] theorem State.writeR_cmt (s : State) (r : RegField) (v : Word) : (s.writeR r v).cmt = s.cmt :=
  by unfold State.writeR; split <;> [rfl; split <;> rfl]
@[simp] theorem State.writeR_errorState (s : State) (r : RegField) (v : Word) : (s.writeR r v).errorState = s.errorState :=
  by unfold State.writeR; split <;> [rfl; split <;> rfl]
@[simp] theorem State.writeR_requests (s : State) (r : RegField) (v : Word) : (s.writeR r v).requests = s.requests := by
  unfold State.writeR; split <;> [rfl; split <;> rfl]
@[simp] theorem State.writeR_mem (s : State) (r : RegField) (v : Word) : (s.writeR r v).mem = s.mem := by
  unfold State.writeR; split <;> [rfl; split <;> rfl]
@[simp] theorem State.writeR_freeCount (s : State) (r : RegField) (v : Word) : (s.writeR r v).freeCount = s.freeCount :=
  by unfold State.writeR; split <;> [rfl; split <;> rfl]

/-! ## State.markDouble -/

@[simp] theorem State.markDouble_globals (s : State) (f : RegField) : (s.markDouble f).globals = s.globals := by
  unfold State.markDouble; split <;> rfl
@[simp] theorem State.markDouble_windows (s : State) (f : RegField) : (s.markDouble f).windows = s.windows := by
  unfold State.markDouble; split <;> rfl
@[simp] theorem State.markDouble_fregs (s : State) (f : RegField) : (s.markDouble f).fregs = s.fregs := by
  unfold State.markDouble; split <;> rfl
@[simp] theorem State.markDouble_pc (s : State) (f : RegField) : (s.markDouble f).pc = s.pc := by
  unfold State.markDouble; split <;> rfl
@[simp] theorem State.markDouble_npc (s : State) (f : RegField) : (s.markDouble f).npc = s.npc := by
  unfold State.markDouble; split <;> rfl
@[simp] theorem State.markDouble_win (s : State) (f : RegField) : (s.markDouble f).win = s.win := by
  unfold State.markDouble; split <;> rfl
@[simp] theorem State.markDouble_y (s : State) (f : RegField) : (s.markDouble f).y = s.y := by
  unfold State.markDouble; split <;> rfl
@[simp] theorem State.markDouble_ccr (s : State) (f : RegField) : (s.markDouble f).ccr = s.ccr := by
  unfold State.markDouble; split <;> rfl
@[simp] theorem State.markDouble_asi (s : State) (f : RegField) : (s.markDouble f).asi = s.asi := by
  unfold State.markDouble; split <;> rfl
@[simp] theorem State.markDouble_fsr (s : State) (f : RegField) : (s.markDouble f).fsr = s.fsr := by
  unfold State.markDouble; split <;> rfl
@[simp] theorem State.markDouble_gsr (s : State) (f : RegField) : (s.markDouble f).gsr = s.gsr := by
  unfold State.markDouble; split <;> rfl
@[simp] theorem State.markDouble_pcr (s : State) (f : RegField) : (s.markDouble f).pcr = s.pcr := by
  unfold State.markDouble; split <;> rfl
@[simp] theorem State.markDouble_pic (s : State) (f : RegField) : (s.markDouble f).pic = s.pic := by
  unfold State.markDouble; split <;> rfl
@[simp] theorem State.markDouble_tick (s : State) (f : RegField) : (s.markDouble f).tick = s.tick := by
  unfold State.markDouble; split <;> rfl
@[simp] theorem State.markDouble_stick (s : State) (f : RegField) : (s.markDouble f).stick = s.stick := by
  unfold State.markDouble; split <;> rfl
@[simp] theorem State.markDouble_tickCmpr (s : State) (f : RegField) : (s.markDouble f).tickCmpr = s.tickCmpr := by
  unfold State.markDouble; split <;> rfl
@[simp] theorem State.markDouble_stickCmpr (s : State) (f : RegField) : (s.markDouble f).stickCmpr = s.stickCmpr := by
  unfold State.markDouble; split <;> rfl
@[simp] theorem State.markDouble_hstickCmpr (s : State) (f : RegField) : (s.markDouble f).hstickCmpr = s.hstickCmpr :=
  by unfold State.markDouble; split <;> rfl
@[simp] theorem State.markDouble_softint (s : State) (f : RegField) : (s.markDouble f).softint = s.softint := by
  unfold State.markDouble; split <;> rfl
@[simp] theorem State.markDouble_pil (s : State) (f : RegField) : (s.markDouble f).pil = s.pil := by
  unfold State.markDouble; split <;> rfl
@[simp] theorem State.markDouble_pstate (s : State) (f : RegField) : (s.markDouble f).pstate = s.pstate := by
  unfold State.markDouble; split <;> rfl
@[simp] theorem State.markDouble_hpstate (s : State) (f : RegField) : (s.markDouble f).hpstate = s.hpstate := by
  unfold State.markDouble; split <;> rfl
@[simp] theorem State.markDouble_tl (s : State) (f : RegField) : (s.markDouble f).tl = s.tl := by
  unfold State.markDouble; split <;> rfl
@[simp] theorem State.markDouble_gl (s : State) (f : RegField) : (s.markDouble f).gl = s.gl := by
  unfold State.markDouble; split <;> rfl
@[simp] theorem State.markDouble_traps (s : State) (f : RegField) : (s.markDouble f).traps = s.traps := by
  unfold State.markDouble; split <;> rfl
@[simp] theorem State.markDouble_tba (s : State) (f : RegField) : (s.markDouble f).tba = s.tba := by
  unfold State.markDouble; split <;> rfl
@[simp] theorem State.markDouble_htba (s : State) (f : RegField) : (s.markDouble f).htba = s.htba := by
  unfold State.markDouble; split <;> rfl
@[simp] theorem State.markDouble_hsp (s : State) (f : RegField) : (s.markDouble f).hsp = s.hsp := by
  unfold State.markDouble; split <;> rfl
@[simp] theorem State.markDouble_scratchpad (s : State) (f : RegField) : (s.markDouble f).scratchpad = s.scratchpad :=
  by unfold State.markDouble; split <;> rfl
@[simp] theorem State.markDouble_hyperScratchpad (s : State) (f : RegField) : (s.markDouble f).hyperScratchpad = s.hyperScratchpad :=
  by unfold State.markDouble; split <;> rfl
@[simp] theorem State.markDouble_queues (s : State) (f : RegField) : (s.markDouble f).queues = s.queues := by
  unfold State.markDouble; split <;> rfl
@[simp] theorem State.markDouble_mmu (s : State) (f : RegField) : (s.markDouble f).mmu = s.mmu := by
  unfold State.markDouble; split <;> rfl
@[simp] theorem State.markDouble_strandIntrId (s : State) (f : RegField) : (s.markDouble f).strandIntrId = s.strandIntrId :=
  by unfold State.markDouble; split <;> rfl
@[simp] theorem State.markDouble_cmt (s : State) (f : RegField) : (s.markDouble f).cmt = s.cmt :=
  by unfold State.markDouble; split <;> rfl
@[simp] theorem State.markDouble_errorState (s : State) (f : RegField) : (s.markDouble f).errorState = s.errorState :=
  by unfold State.markDouble; split <;> rfl
@[simp] theorem State.markDouble_requests (s : State) (f : RegField) : (s.markDouble f).requests = s.requests := by
  unfold State.markDouble; split <;> rfl
@[simp] theorem State.markDouble_mem (s : State) (f : RegField) : (s.markDouble f).mem = s.mem := by
  unfold State.markDouble; split <;> rfl
@[simp] theorem State.markDouble_freeCount (s : State) (f : RegField) : (s.markDouble f).freeCount = s.freeCount := by
  unfold State.markDouble; split <;> rfl

/-! ## State.writeFD -/

@[simp] theorem State.writeFD_globals (s : State) (f : RegField) (v : Word) : (s.writeFD f v).globals = s.globals := by
  unfold State.writeFD; simp
@[simp] theorem State.writeFD_windows (s : State) (f : RegField) (v : Word) : (s.writeFD f v).windows = s.windows := by
  unfold State.writeFD; simp
@[simp] theorem State.writeFD_pc (s : State) (f : RegField) (v : Word) : (s.writeFD f v).pc = s.pc := by
  unfold State.writeFD; simp
@[simp] theorem State.writeFD_npc (s : State) (f : RegField) (v : Word) : (s.writeFD f v).npc = s.npc := by
  unfold State.writeFD; simp
@[simp] theorem State.writeFD_win (s : State) (f : RegField) (v : Word) : (s.writeFD f v).win = s.win := by
  unfold State.writeFD; simp
@[simp] theorem State.writeFD_y (s : State) (f : RegField) (v : Word) : (s.writeFD f v).y = s.y := by
  unfold State.writeFD; simp
@[simp] theorem State.writeFD_ccr (s : State) (f : RegField) (v : Word) : (s.writeFD f v).ccr = s.ccr := by
  unfold State.writeFD; simp
@[simp] theorem State.writeFD_asi (s : State) (f : RegField) (v : Word) : (s.writeFD f v).asi = s.asi := by
  unfold State.writeFD; simp
@[simp] theorem State.writeFD_fsr (s : State) (f : RegField) (v : Word) : (s.writeFD f v).fsr = s.fsr := by
  unfold State.writeFD; simp
@[simp] theorem State.writeFD_gsr (s : State) (f : RegField) (v : Word) : (s.writeFD f v).gsr = s.gsr := by
  unfold State.writeFD; simp
@[simp] theorem State.writeFD_pcr (s : State) (f : RegField) (v : Word) : (s.writeFD f v).pcr = s.pcr := by
  unfold State.writeFD; simp
@[simp] theorem State.writeFD_pic (s : State) (f : RegField) (v : Word) : (s.writeFD f v).pic = s.pic := by
  unfold State.writeFD; simp
@[simp] theorem State.writeFD_tick (s : State) (f : RegField) (v : Word) : (s.writeFD f v).tick = s.tick := by
  unfold State.writeFD; simp
@[simp] theorem State.writeFD_stick (s : State) (f : RegField) (v : Word) : (s.writeFD f v).stick = s.stick := by
  unfold State.writeFD; simp
@[simp] theorem State.writeFD_tickCmpr (s : State) (f : RegField) (v : Word) : (s.writeFD f v).tickCmpr = s.tickCmpr :=
  by unfold State.writeFD; simp
@[simp] theorem State.writeFD_stickCmpr (s : State) (f : RegField) (v : Word) : (s.writeFD f v).stickCmpr = s.stickCmpr :=
  by unfold State.writeFD; simp
@[simp] theorem State.writeFD_hstickCmpr (s : State) (f : RegField) (v : Word) : (s.writeFD f v).hstickCmpr = s.hstickCmpr :=
  by unfold State.writeFD; simp
@[simp] theorem State.writeFD_softint (s : State) (f : RegField) (v : Word) : (s.writeFD f v).softint = s.softint := by
  unfold State.writeFD; simp
@[simp] theorem State.writeFD_pil (s : State) (f : RegField) (v : Word) : (s.writeFD f v).pil = s.pil := by
  unfold State.writeFD; simp
@[simp] theorem State.writeFD_pstate (s : State) (f : RegField) (v : Word) : (s.writeFD f v).pstate = s.pstate := by
  unfold State.writeFD; simp
@[simp] theorem State.writeFD_hpstate (s : State) (f : RegField) (v : Word) : (s.writeFD f v).hpstate = s.hpstate := by
  unfold State.writeFD; simp
@[simp] theorem State.writeFD_tl (s : State) (f : RegField) (v : Word) : (s.writeFD f v).tl = s.tl := by
  unfold State.writeFD; simp
@[simp] theorem State.writeFD_gl (s : State) (f : RegField) (v : Word) : (s.writeFD f v).gl = s.gl := by
  unfold State.writeFD; simp
@[simp] theorem State.writeFD_traps (s : State) (f : RegField) (v : Word) : (s.writeFD f v).traps = s.traps := by
  unfold State.writeFD; simp
@[simp] theorem State.writeFD_tba (s : State) (f : RegField) (v : Word) : (s.writeFD f v).tba = s.tba := by
  unfold State.writeFD; simp
@[simp] theorem State.writeFD_htba (s : State) (f : RegField) (v : Word) : (s.writeFD f v).htba = s.htba := by
  unfold State.writeFD; simp
@[simp] theorem State.writeFD_hsp (s : State) (f : RegField) (v : Word) : (s.writeFD f v).hsp = s.hsp := by
  unfold State.writeFD; simp
@[simp] theorem State.writeFD_scratchpad (s : State) (f : RegField) (v : Word) : (s.writeFD f v).scratchpad = s.scratchpad :=
  by unfold State.writeFD; simp
@[simp] theorem State.writeFD_hyperScratchpad (s : State) (f : RegField) (v : Word) : (s.writeFD f v).hyperScratchpad = s.hyperScratchpad :=
  by unfold State.writeFD; simp
@[simp] theorem State.writeFD_queues (s : State) (f : RegField) (v : Word) : (s.writeFD f v).queues = s.queues := by
  unfold State.writeFD; simp
@[simp] theorem State.writeFD_mmu (s : State) (f : RegField) (v : Word) : (s.writeFD f v).mmu = s.mmu := by
  unfold State.writeFD; simp
@[simp] theorem State.writeFD_strandIntrId (s : State) (f : RegField) (v : Word) : (s.writeFD f v).strandIntrId = s.strandIntrId :=
  by unfold State.writeFD; simp
@[simp] theorem State.writeFD_cmt (s : State) (f : RegField) (v : Word) : (s.writeFD f v).cmt = s.cmt :=
  by unfold State.writeFD; simp
@[simp] theorem State.writeFD_errorState (s : State) (f : RegField) (v : Word) : (s.writeFD f v).errorState = s.errorState :=
  by unfold State.writeFD; simp
@[simp] theorem State.writeFD_requests (s : State) (f : RegField) (v : Word) : (s.writeFD f v).requests = s.requests :=
  by unfold State.writeFD; simp
@[simp] theorem State.writeFD_mem (s : State) (f : RegField) (v : Word) : (s.writeFD f v).mem = s.mem := by
  unfold State.writeFD; simp
@[simp] theorem State.writeFD_freeCount (s : State) (f : RegField) (v : Word) : (s.writeFD f v).freeCount = s.freeCount :=
  by unfold State.writeFD; simp

/-! ## State.enterRed -/

@[simp] theorem State.enterRed_globals (s : State) (l : Fin 7) (tt : TrapType) (c : BitVec 3) (z : Bool) (o : BitVec 8) : (s.enterRed l tt c z o).globals = s.globals :=
  rfl
@[simp] theorem State.enterRed_windows (s : State) (l : Fin 7) (tt : TrapType) (c : BitVec 3) (z : Bool) (o : BitVec 8) : (s.enterRed l tt c z o).windows = s.windows :=
  rfl
@[simp] theorem State.enterRed_fregs (s : State) (l : Fin 7) (tt : TrapType) (c : BitVec 3) (z : Bool) (o : BitVec 8) : (s.enterRed l tt c z o).fregs = s.fregs :=
  rfl
@[simp] theorem State.enterRed_pc (s : State) (l : Fin 7) (tt : TrapType) (c : BitVec 3) (z : Bool) (o : BitVec 8) : (s.enterRed l tt c z o).pc = redVector o :=
  rfl
@[simp] theorem State.enterRed_npc (s : State) (l : Fin 7) (tt : TrapType) (c : BitVec 3) (z : Bool) (o : BitVec 8) : (s.enterRed l tt c z o).npc = redVector o + 4#64 :=
  rfl
@[simp] theorem State.enterRed_win (s : State) (l : Fin 7) (tt : TrapType) (c : BitVec 3) (z : Bool) (o : BitVec 8) : (s.enterRed l tt c z o).win = { s.win with cwp := c } :=
  rfl
@[simp] theorem State.enterRed_y (s : State) (l : Fin 7) (tt : TrapType) (c : BitVec 3) (z : Bool) (o : BitVec 8) : (s.enterRed l tt c z o).y = s.y :=
  rfl
@[simp] theorem State.enterRed_ccr (s : State) (l : Fin 7) (tt : TrapType) (c : BitVec 3) (z : Bool) (o : BitVec 8) : (s.enterRed l tt c z o).ccr = s.ccr :=
  rfl
@[simp] theorem State.enterRed_asi (s : State) (l : Fin 7) (tt : TrapType) (c : BitVec 3) (z : Bool) (o : BitVec 8) : (s.enterRed l tt c z o).asi = s.asi :=
  rfl
@[simp] theorem State.enterRed_fsr (s : State) (l : Fin 7) (tt : TrapType) (c : BitVec 3) (z : Bool) (o : BitVec 8) : (s.enterRed l tt c z o).fsr = s.fsr :=
  rfl
@[simp] theorem State.enterRed_fprs (s : State) (l : Fin 7) (tt : TrapType) (c : BitVec 3) (z : Bool) (o : BitVec 8) : (s.enterRed l tt c z o).fprs = s.fprs :=
  rfl
@[simp] theorem State.enterRed_gsr (s : State) (l : Fin 7) (tt : TrapType) (c : BitVec 3) (z : Bool) (o : BitVec 8) : (s.enterRed l tt c z o).gsr = s.gsr :=
  rfl
@[simp] theorem State.enterRed_pcr (s : State) (l : Fin 7) (tt : TrapType) (c : BitVec 3) (z : Bool) (o : BitVec 8) : (s.enterRed l tt c z o).pcr = s.pcr :=
  rfl
@[simp] theorem State.enterRed_pic (s : State) (l : Fin 7) (tt : TrapType) (c : BitVec 3) (z : Bool) (o : BitVec 8) : (s.enterRed l tt c z o).pic = s.pic :=
  rfl
@[simp] theorem State.enterRed_tick (s : State) (l : Fin 7) (tt : TrapType) (c : BitVec 3) (z : Bool) (o : BitVec 8) : (s.enterRed l tt c z o).tick = s.tick :=
  rfl
@[simp] theorem State.enterRed_stick (s : State) (l : Fin 7) (tt : TrapType) (c : BitVec 3) (z : Bool) (o : BitVec 8) : (s.enterRed l tt c z o).stick = s.stick :=
  rfl
@[simp] theorem State.enterRed_tickCmpr (s : State) (l : Fin 7) (tt : TrapType) (c : BitVec 3) (z : Bool) (o : BitVec 8) : (s.enterRed l tt c z o).tickCmpr = s.tickCmpr :=
  rfl
@[simp] theorem State.enterRed_stickCmpr (s : State) (l : Fin 7) (tt : TrapType) (c : BitVec 3) (z : Bool) (o : BitVec 8) : (s.enterRed l tt c z o).stickCmpr = s.stickCmpr :=
  rfl
@[simp] theorem State.enterRed_hstickCmpr (s : State) (l : Fin 7) (tt : TrapType) (c : BitVec 3) (z : Bool) (o : BitVec 8) : (s.enterRed l tt c z o).hstickCmpr = s.hstickCmpr :=
  rfl
@[simp] theorem State.enterRed_softint (s : State) (l : Fin 7) (tt : TrapType) (c : BitVec 3) (z : Bool) (o : BitVec 8) : (s.enterRed l tt c z o).softint = s.softint :=
  rfl
@[simp] theorem State.enterRed_pil (s : State) (l : Fin 7) (tt : TrapType) (c : BitVec 3) (z : Bool) (o : BitVec 8) : (s.enterRed l tt c z o).pil = s.pil :=
  rfl
@[simp] theorem State.enterRed_pstate (s : State) (l : Fin 7) (tt : TrapType) (c : BitVec 3) (z : Bool) (o : BitVec 8) : (s.enterRed l tt c z o).pstate = redPState s.pstate :=
  rfl
@[simp] theorem State.enterRed_hpstate (s : State) (l : Fin 7) (tt : TrapType) (c : BitVec 3) (z : Bool) (o : BitVec 8) : (s.enterRed l tt c z o).hpstate = { ibe := false, red := true, hpriv := true, tlz := z } :=
  rfl
@[simp] theorem State.enterRed_tl (s : State) (l : Fin 7) (tt : TrapType) (c : BitVec 3) (z : Bool) (o : BitVec 8) : (s.enterRed l tt c z o).tl = l :=
  rfl
@[simp] theorem State.enterRed_tba (s : State) (l : Fin 7) (tt : TrapType) (c : BitVec 3) (z : Bool) (o : BitVec 8) : (s.enterRed l tt c z o).tba = s.tba :=
  rfl
@[simp] theorem State.enterRed_htba (s : State) (l : Fin 7) (tt : TrapType) (c : BitVec 3) (z : Bool) (o : BitVec 8) : (s.enterRed l tt c z o).htba = s.htba :=
  rfl
@[simp] theorem State.enterRed_hsp (s : State) (l : Fin 7) (tt : TrapType) (c : BitVec 3) (z : Bool) (o : BitVec 8) : (s.enterRed l tt c z o).hsp = s.hsp :=
  rfl
@[simp] theorem State.enterRed_scratchpad (s : State) (l : Fin 7) (tt : TrapType) (c : BitVec 3) (z : Bool) (o : BitVec 8) : (s.enterRed l tt c z o).scratchpad = s.scratchpad :=
  rfl
@[simp] theorem State.enterRed_hyperScratchpad (s : State) (l : Fin 7) (tt : TrapType) (c : BitVec 3) (z : Bool) (o : BitVec 8) : (s.enterRed l tt c z o).hyperScratchpad = s.hyperScratchpad :=
  rfl
@[simp] theorem State.enterRed_queues (s : State) (l : Fin 7) (tt : TrapType) (c : BitVec 3) (z : Bool) (o : BitVec 8) : (s.enterRed l tt c z o).queues = s.queues :=
  rfl
@[simp] theorem State.enterRed_mmu (s : State) (l : Fin 7) (tt : TrapType) (c : BitVec 3) (z : Bool) (o : BitVec 8) : (s.enterRed l tt c z o).mmu = { s.mmu with immuEnable := false, dmmuEnable := false } :=
  rfl
@[simp] theorem State.enterRed_strandIntrId (s : State) (l : Fin 7) (tt : TrapType) (c : BitVec 3) (z : Bool) (o : BitVec 8) : (s.enterRed l tt c z o).strandIntrId = s.strandIntrId :=
  rfl
@[simp] theorem State.enterRed_cmt (s : State) (l : Fin 7) (tt : TrapType) (c : BitVec 3) (z : Bool) (o : BitVec 8) :
    (s.enterRed l tt c z o).cmt = s.cmt :=
  rfl
@[simp] theorem State.enterRed_errorState (s : State) (l : Fin 7) (tt : TrapType) (c : BitVec 3) (z : Bool) (o : BitVec 8) : (s.enterRed l tt c z o).errorState = s.errorState :=
  rfl
@[simp] theorem State.enterRed_requests (s : State) (l : Fin 7) (tt : TrapType) (c : BitVec 3) (z : Bool) (o : BitVec 8) : (s.enterRed l tt c z o).requests = s.requests :=
  rfl
@[simp] theorem State.enterRed_mem (s : State) (l : Fin 7) (tt : TrapType) (c : BitVec 3) (z : Bool) (o : BitVec 8) : (s.enterRed l tt c z o).mem = s.mem :=
  rfl
@[simp] theorem State.enterRed_freeCount (s : State) (l : Fin 7) (tt : TrapType) (c : BitVec 3) (z : Bool) (o : BitVec 8) : (s.enterRed l tt c z o).freeCount = s.freeCount :=
  rfl

/-! ## State.normalTrap -/

@[simp] theorem State.normalTrap_globals (s : State) (e : Exc) : (s.normalTrap e).globals = s.globals := rfl
@[simp] theorem State.normalTrap_windows (s : State) (e : Exc) : (s.normalTrap e).windows = s.windows := rfl
@[simp] theorem State.normalTrap_fregs (s : State) (e : Exc) : (s.normalTrap e).fregs = s.fregs := rfl
@[simp] theorem State.normalTrap_win (s : State) (e : Exc) : (s.normalTrap e).win = { s.win with cwp := windowTrapCwp e.tt s.win } :=
  rfl
@[simp] theorem State.normalTrap_y (s : State) (e : Exc) : (s.normalTrap e).y = s.y := rfl
@[simp] theorem State.normalTrap_ccr (s : State) (e : Exc) : (s.normalTrap e).ccr = s.ccr := rfl
@[simp] theorem State.normalTrap_asi (s : State) (e : Exc) : (s.normalTrap e).asi = s.asi := rfl
@[simp] theorem State.normalTrap_fsr (s : State) (e : Exc) : (s.normalTrap e).fsr = s.fsr := rfl
@[simp] theorem State.normalTrap_fprs (s : State) (e : Exc) : (s.normalTrap e).fprs = s.fprs := rfl
@[simp] theorem State.normalTrap_gsr (s : State) (e : Exc) : (s.normalTrap e).gsr = s.gsr := rfl
@[simp] theorem State.normalTrap_pcr (s : State) (e : Exc) : (s.normalTrap e).pcr = s.pcr := rfl
@[simp] theorem State.normalTrap_pic (s : State) (e : Exc) : (s.normalTrap e).pic = s.pic := rfl
@[simp] theorem State.normalTrap_tick (s : State) (e : Exc) : (s.normalTrap e).tick = s.tick := rfl
@[simp] theorem State.normalTrap_stick (s : State) (e : Exc) : (s.normalTrap e).stick = s.stick := rfl
@[simp] theorem State.normalTrap_tickCmpr (s : State) (e : Exc) : (s.normalTrap e).tickCmpr = s.tickCmpr := rfl
@[simp] theorem State.normalTrap_stickCmpr (s : State) (e : Exc) : (s.normalTrap e).stickCmpr = s.stickCmpr := rfl
@[simp] theorem State.normalTrap_hstickCmpr (s : State) (e : Exc) : (s.normalTrap e).hstickCmpr = s.hstickCmpr := rfl
@[simp] theorem State.normalTrap_softint (s : State) (e : Exc) : (s.normalTrap e).softint = s.softint := rfl
@[simp] theorem State.normalTrap_pil (s : State) (e : Exc) : (s.normalTrap e).pil = s.pil := rfl
@[simp] theorem State.normalTrap_tl (s : State) (e : Exc) : (s.normalTrap e).tl = nextLevel s.tl := rfl
@[simp] theorem State.normalTrap_tba (s : State) (e : Exc) : (s.normalTrap e).tba = s.tba := rfl
@[simp] theorem State.normalTrap_htba (s : State) (e : Exc) : (s.normalTrap e).htba = s.htba := rfl
@[simp] theorem State.normalTrap_hsp (s : State) (e : Exc) : (s.normalTrap e).hsp = s.hsp := rfl
@[simp] theorem State.normalTrap_scratchpad (s : State) (e : Exc) : (s.normalTrap e).scratchpad = s.scratchpad := rfl
@[simp] theorem State.normalTrap_hyperScratchpad (s : State) (e : Exc) : (s.normalTrap e).hyperScratchpad = s.hyperScratchpad :=
  rfl
@[simp] theorem State.normalTrap_queues (s : State) (e : Exc) : (s.normalTrap e).queues = s.queues := rfl
@[simp] theorem State.normalTrap_mmu (s : State) (e : Exc) : (s.normalTrap e).mmu = s.mmu := rfl
@[simp] theorem State.normalTrap_strandIntrId (s : State) (e : Exc) : (s.normalTrap e).strandIntrId = s.strandIntrId :=
  rfl
@[simp] theorem State.normalTrap_cmt (s : State) (e : Exc) : (s.normalTrap e).cmt = s.cmt :=
  rfl
@[simp] theorem State.normalTrap_errorState (s : State) (e : Exc) : (s.normalTrap e).errorState = s.errorState := rfl
@[simp] theorem State.normalTrap_requests (s : State) (e : Exc) : (s.normalTrap e).requests = s.requests := rfl
@[simp] theorem State.normalTrap_mem (s : State) (e : Exc) : (s.normalTrap e).mem = s.mem := rfl
@[simp] theorem State.normalTrap_freeCount (s : State) (e : Exc) : (s.normalTrap e).freeCount = s.freeCount := rfl

end Sys2Proof.Machine
end

