-- ==== Sys2Proof/Laws/Registers.lean ====
section
/-!
SUPPORT. The laws of the R and F registers: a write is read back and leaves every other register alone.
-/

namespace Sys2Proof.Machine

/-- An entry just written is read back. -/
theorem get_set_same {α : Type} {n : Nat} (v : Vector α n) (i : Fin n) (x : α) (h : i.val < n) :
    (v.set i.val x h).get i = x := by
  show (v.set i.val x h)[i.val] = x
  simp

/-- Writing an entry leaves the others alone. -/
theorem get_set_other {α : Type} {n : Nat} (v : Vector α n) {i : Nat} {j : Fin n} (x : α) (h : i < n) (hne : i ≠ j.val) :
    (v.set i x h).get j = v.get j := by
  show (v.set i x h)[j.val] = v[j.val]
  rw [Vector.getElem_set_ne (h := hne)]

/-- Two globals of one level are kept in different places. -/
theorem globalIndex_inj {gl : Fin 4} {a b : RegField} (ha : a ≠ 0#5) (hb : b ≠ 0#5) (ha' : a.toNat < 8)
    (hb' : b.toNat < 8) (h : (globalIndex gl a).val = (globalIndex gl b).val) : a = b := by
  have pa : 0 < a.toNat := by bv_omega
  have pb : 0 < b.toNat := by bv_omega
  simp only [globalIndex] at h
  rw [Nat.mod_eq_of_lt (by omega), Nat.mod_eq_of_lt (by omega)] at h
  exact BitVec.eq_of_toNat_eq (by omega)

/-- Two windowed registers of one window are kept in different places. -/
theorem windowIndex_inj : ∀ (cwp : BitVec 3) (a b : RegField), 8 ≤ a.toNat → 8 ≤ b.toNat →
    windowIndex cwp a = windowIndex cwp b → a = b := by decide

/-- A written register other than R[0] is read back. -/
theorem State.readR_writeR_same {r : RegField} (h : r ≠ 0#5) (s : State) (v : Word) : (s.writeR r v).readR r = v := by
  unfold State.writeR State.readR
  rw [if_neg h, if_neg h]
  split
  · exact get_set_same _ (globalIndex s.gl r) _ (globalIndex s.gl r).isLt
  · exact get_set_same _ (windowIndex s.win.cwp r).toFin _ (windowIndex s.win.cwp r).toFin.isLt

/-- A write leaves every other register of the window alone. -/
theorem State.readR_writeR_other {r q : RegField} (h : q ≠ r) (s : State) (v : Word) :
    (s.writeR r v).readR q = s.readR q := by
  unfold State.readR State.writeR
  by_cases hr : r = 0#5
  · simp [hr]
  · by_cases hq : q = 0#5
    · simp [hq]
    · simp only [hr, hq, if_false]
      by_cases h8 : r.toNat < 8 <;> by_cases q8 : q.toNat < 8 <;> simp only [h8, q8, if_true, if_false]
      · have hne : (globalIndex s.gl r).val ≠ (globalIndex s.gl q).val :=
          fun e => h (globalIndex_inj hq hr q8 h8 e.symm)
        exact get_set_other _ _ _ hne
      · have hne : (windowIndex s.win.cwp r).toFin.val ≠ (windowIndex s.win.cwp q).toFin.val := fun e =>
          h (windowIndex_inj s.win.cwp q r (by omega) (by omega) (BitVec.eq_of_toNat_eq e.symm))
        exact get_set_other _ _ _ hne

/-- A write of R[0] does nothing. -/
@[simp] theorem State.writeR_zero (s : State) (v : Word) : s.writeR 0#5 v = s := by simp [State.writeR]

/-- R[0] reads as 0. -/
@[simp] theorem State.readR_zero (s : State) : s.readR 0#5 = 0#64 := by simp [State.readR]

/-- Reading a register depends only on the registers, CWP and GL. -/
theorem State.readR_congr {s t : State} (hg : t.globals = s.globals) (hw : t.windows = s.windows)
    (hc : t.win.cwp = s.win.cwp) (hl : t.gl = s.gl) (r : RegField) : t.readR r = s.readR r := by
  unfold State.readR
  rw [hg, hw, hc, hl]

/-- The halves of double registers are kept in different places. -/
theorem doubleHi_ne_doubleLo (f g : RegField) : doubleHi f ≠ doubleLo g := by
  revert f g; decide

/-- A written single register is read back. -/
theorem State.readFS_writeFS_same (s : State) (f : RegField) (v : HWord) : (s.writeFS f v).readFS f = v :=
  get_set_same _ (0#1 ++ f).toFin _ (0#1 ++ f).toFin.isLt

/-- A written double register is read back. -/
theorem State.readFD_writeFD_same (s : State) (f : RegField) (v : Word) : (s.writeFD f v).readFD f = v := by
  have hne : (doubleHi f).toNat ≠ (doubleLo f).toNat :=
    fun e => doubleHi_ne_doubleLo f f (BitVec.eq_of_toNat_eq e)
  unfold State.writeFD State.readFD
  rw [State.markDouble_fregs]
  have e1 : ∀ (w : Vector HWord 64) (h : _) (h' : _),
      ((w.set (doubleHi f).toFin.val (v.extractLsb' 32 32) h).set (doubleLo f).toFin.val (v.extractLsb' 0 32) h').get
        (doubleHi f).toFin = v.extractLsb' 32 32 := fun w h h' => by
    rw [get_set_other _ _ _ (by simpa using hne.symm)]
    exact get_set_same _ (doubleHi f).toFin _ _
  have e2 : ∀ (w : Vector HWord 64) (h' : _),
      (w.set (doubleLo f).toFin.val (v.extractLsb' 0 32) h').get (doubleLo f).toFin = v.extractLsb' 0 32 :=
    fun w h' => get_set_same _ (doubleLo f).toFin _ _
  rw [e1, e2]
  refine BitVec.eq_of_getLsbD_eq fun i hi => ?_
  rw [BitVec.getLsbD_append, BitVec.getLsbD_extractLsb', BitVec.getLsbD_extractLsb']
  split
  · simp [*]
  · rw [show 32 + (i - 32) = i by omega]
    simp; omega

/-- The trap-stack entry just written is the current one. -/
@[simp] theorem State.setTrapEntry_trapEntry (s : State) (e : TrapEntry) : (s.setTrapEntry e).trapEntry = e := by
  simp only [State.trapEntry, State.setTrapEntry]
  exact get_set_same ..

/-- Above trap level 0, writing the current trap-stack entry leaves the other levels alone. -/
theorem State.setTrapEntry_other {s : State} (e : TrapEntry) {n : Fin 6} (h : s.tl ≠ 0) (hn : n.val + 1 ≠ s.tl.val) :
    (s.setTrapEntry e).traps.get n = s.traps.get n := by
  have h' : s.tl.val ≠ 0 := fun c => h (Fin.ext c)
  exact get_set_other _ _ (trapIndex s.tl).isLt (by simp only [trapIndex]; omega)

end Sys2Proof.Machine
end

