-- ==== Sys2Proof/Laws/Writes.lean ====
section
/-!
SUPPORT. The operations that write one register or some bytes do that and nothing else: `WritesR`, `WritesFS`, `WritesFD`
and `StoresBytes` of the operations themselves, once.
-/

namespace Sys2Proof.Machine

/-- Writing R[rd] writes R[rd] and nothing else. -/
theorem writesR_writeR (u : State) (rd : RegField) (v : Word) : WritesR u (u.writeR rd v) rd v where
  value := by
    by_cases h : rd = 0#5
    · subst h; simp
    · rw [if_neg h, State.readR_writeR_same h]
  visible := fun r h => State.readR_writeR_other h u v
  globals := fun i h => by
    unfold State.writeR
    split
    · rfl
    · split
      · rename_i h0 h8
        refine get_set_other _ _ (globalIndex u.gl rd).isLt fun e => ?_
        rcases h with h | h | h
        · exact h0 h
        · omega
        · exact h (Fin.ext e.symm)
      · rfl
  windows := fun i h => by
    unfold State.writeR
    split
    · rfl
    · split
      · rfl
      · refine get_set_other _ _ (windowIndex u.win.cwp rd).toFin.isLt fun e => ?_
        rcases h with h | h
        · exact absurd h ‹_›
        · exact h (Fin.ext e.symm)
  memory := fun a => by simp
  rest := by
    unfold State.writeR
    split
    · rfl
    · split <;> rfl

/-- A register write in place of another order of the same updates. -/
theorem writesR_of_eq {u t : State} {rd : RegField} {v : Word} (h : t = u.writeR rd v) : WritesR u t rd v :=
  h ▸ writesR_writeR u rd v

/-- Writing a register and advancing commute. -/
theorem State.advance_writeR (s : State) (rd : RegField) (v : Word) :
    (s.writeR rd v).advance = s.advance.writeR rd v := by
  unfold State.writeR State.advance
  split
  · rfl
  · split <;> rfl

/-- Writing back is writing R[rd] of the state that has advanced. -/
theorem writeBack_writes (s : State) (rd : RegField) (v : Word) :
    ∃ t, writeBack s rd v = .next t ∧ WritesR s.advance t rd v :=
  ⟨_, rfl, writesR_of_eq (State.advance_writeR s rd v)⟩

/-- Writing back with condition codes. -/
theorem writeBackCC_writes (s : State) (rd : RegField) (v : Word) (c : BitVec 8) :
    ∃ t, writeBackCC s rd v c = .next t ∧ WritesR { s.advance with ccr := c } t rd v := by
  refine ⟨_, rfl, writesR_of_eq ?_⟩
  unfold State.writeR State.advance State.setCcr
  split
  · rfl
  · split <;> rfl

@[simp] theorem singleIndex_eq : ∀ f : RegField, (0#1 ++ f).toFin = singleIndex f := by decide
@[simp] theorem doubleHi_eq : ∀ f : RegField, (doubleHi f).toFin = upperIndex f := by decide
@[simp] theorem doubleLo_eq : ∀ f : RegField, (doubleLo f).toFin = lowerIndex f := by decide

/-- Writing FS[f] writes it, sets the dirty bit, and nothing else. -/
theorem writesFS_writeFS (u : State) (f : RegField) (v : HWord) : WritesFS u (u.writeFS f v) f v where
  value := State.readFS_writeFS_same u f v
  others := fun _ h => get_set_other _ _ (0#1 ++ f).toFin.isLt fun e =>
    h ((Fin.ext e.symm).trans (singleIndex_eq f))
  memory := fun _ => rfl
  rest := rfl

/-- Writing FD[f] writes it, sets the dirty bit of its half, and nothing else. -/
theorem writesFD_writeFD (u : State) (f : RegField) (v : Word) : WritesFD u (u.writeFD f v) f v where
  value := State.readFD_writeFD_same u f v
  others := fun i hh hl => by
    rw [State.writeFD, State.markDouble_fregs]
    show ((u.fregs.set (doubleHi f).toFin.val (v.extractLsb' 32 32) (doubleHi f).toFin.isLt).set (doubleLo f).toFin.val
      (v.extractLsb' 0 32) (doubleLo f).toFin.isLt).get i = u.fregs.get i
    rw [get_set_other _ _ _ fun e => hl ((Fin.ext e.symm).trans (doubleLo_eq f)),
      get_set_other _ _ _ fun e => hh ((Fin.ext e.symm).trans (doubleHi_eq f))]
  memory := fun a => by simp
  rest := by
    have h : f.getLsbD 0 = decide (f.toNat % 2 = 1) := by revert f; decide
    unfold State.writeFD State.markDouble State.markLower
    rw [h]
    by_cases h2 : f.toNat % 2 = 1 <;> simp [h2]

/-- Each byte written is read back. -/
theorem Memory.read_writeBytes_at {m : List Host.Cell} (hm : Memory.wf m) (pa : Nat) (bs : List Byte) (i : Nat)
    (h : i < bs.length) : Memory.read (Memory.writeBytes m pa bs) (pa + i) = bs[i] := by
  induction bs generalizing m pa i with
  | nil => exact absurd h (by simp)
  | cons b bs ih =>
    cases i with
    | zero =>
      rw [Memory.writeBytes, Memory.read_writeBytes_other (by omega)]
      exact Memory.read_write_same hm pa b
    | succ i =>
      rw [Memory.writeBytes, show pa + (i + 1) = pa + 1 + i by omega,
        ih (Memory.wf_write hm pa b) (pa + 1) i (by simpa using h)]
      rfl

/-- A store of bytes stores them and changes nothing else. -/
theorem storesBytes_writeBytes {u : State} (hm : Memory.wf u.mem) (pa : Nat) (bs : List Byte) :
    StoresBytes u { u with mem := Memory.writeBytes u.mem pa bs } pa bs where
  stored := fun i h => Memory.read_writeBytes_at hm pa bs i h
  others := fun _ h => Memory.read_writeBytes_other h
  rest := rfl

end Sys2Proof.Machine
end

