-- ==== Sys2Proof/Tests/Slice0.lean ====
section
/-!
SUPPORT. The model's own tests: ill-formed terms refused, every constructor's decoding, one-step checks against the spec's
test vectors, and the witnesses of the statements' hypotheses.
-/

namespace Sys2Proof.Tests

open Sys2Proof Sys2Proof.Machine

/-! ## States -/

/-- Hyperprivileged mode outside RED_state at TL = 0, FPU enabled, the processor of the spec's test vectors. -/
def base : State :=
  { State.reset with
    pc := 0x1000#64
    npc := 0x1004#64
    tl := 0
    gl := 0
    hpstate := { ibe := false, red := false, hpriv := true, tlz := false }
    fprs := { fef := true, du := false, dl := false }
    tba := 0x80#49
    htba := 0x20#50
    win :=
      { cwp := 2#3, cansave := 3#3, canrestore := 3#3, cleanwin := 7#3, otherwin := 0#3, wstateOther := 0#3,
        wstateNormal := 1#3 } }

/-- The same in nonprivileged mode. -/
def user : State := { base with hpstate := { base.hpstate with hpriv := false } }

/-- The same in privileged mode. -/
def priv : State := { user with pstate := { user.pstate with priv := true } }

/-- The same in RED_state. -/
def red : State := { base with hpstate := { base.hpstate with red := true } }

/-- The FPU disabled. -/
def fpOff : State := { base with fprs := { base.fprs with fef := false } }

/-- No window to save or restore; one of another address space. -/
def noWindows : State := { base with win := { base.win with cansave := 0#3, canrestore := 0#3, otherwin := 6#3 } }

/-- R[8] at 0x1000. -/
def at1000 : State := base.writeR 8#5 0x1000#64

/-- An 8-kilobyte page at 0x2000, writable and cacheable, physical 0x42000. -/
def page : TlbEntry := { real := false, pid := 0#8, ctx := 5#16, vpn := 0x2000#64, data := 0x8000000000042440#64 }

/-- Nonprivileged code with that page mapped in its primary context; R[9] at 0x2000. -/
def mapped : State :=
  { user.writeR 9#5 0x2000#64 with
    mmu := { user.mmu with dmmuEnable := true, primaryContext := 5#16, dtlb := [page] } }

/-- The bytes of the spec's memory test vectors: 0x00 to 0xEE in steps of 0x11 from 0x1000. -/
def bytes : State :=
  { base with mem := (List.range 15).map fun i => (0x1001 + i, BitVec.ofNat 8 (0x11 * (i + 1))) }

def setR (s : State) (r : RegField) (v : Word) : State := s.writeR r v
def setFS (s : State) (f : RegField) (v : HWord) : State := s.writeFS f v
def setFD (s : State) (f : RegField) (v : Word) : State := s.writeFD f v

/-- The instruction answers a next state with the property. -/
def holdsAfter (i : Instr) (s : State) (p : State → Bool) : Bool :=
  match exec i s with
  | .next t => p t
  | _ => false

/-! ## Well-formedness: an ill-formed term for each check -/

theorem test_illformed_sethi : (Instr.sethi 0#5 0#22).wellFormed = false := by decide
theorem test_illformed_ldtw : (Instr.ldtw 3#5 1#5 (.imm 0#13)).wellFormed = false := by decide
theorem test_illformed_sttw : (Instr.sttw 3#5 1#5 (.imm 0#13)).wellFormed = false := by decide
theorem test_illformed_ldtwa_odd : (Instr.ldtwa 3#5 1#5 (.reg 0x80#8 0#5)).wellFormed = false := by decide
theorem test_illformed_ldtwa_twin : (Instr.ldtwa 2#5 1#5 (.reg 0x22#8 0#5)).wellFormed = false := by decide
theorem test_illformed_sttwa : (Instr.sttwa 3#5 1#5 (.reg 0x80#8 0#5)).wellFormed = false := by decide
theorem test_illformed_ldtxa_odd : (Instr.ldtxa 3#5 1#5 0x22#8 0#5).wellFormed = false := by decide
theorem test_illformed_ldtxa_asi : (Instr.ldtxa 2#5 1#5 0x80#8 0#5).wellFormed = false := by decide
theorem test_illformed_lddfa_block : (Instr.lddfa 2#5 1#5 (.reg 0xF0#8 0#5)).wellFormed = false := by decide
theorem test_illformed_lddfa_short : (Instr.lddfa 2#5 1#5 (.reg 0xD0#8 0#5)).wellFormed = false := by decide
theorem test_illformed_ldblockf : (Instr.ldblockf 2#5 1#5 0x80#8 0#5).wellFormed = false := by decide
theorem test_illformed_ldshortf : (Instr.ldshortf 2#5 1#5 0x80#8 0#5).wellFormed = false := by decide
theorem test_illformed_stdfa_block : (Instr.stdfa 2#5 1#5 (.reg 0xF0#8 0#5)).wellFormed = false := by decide
theorem test_illformed_stdfa_short : (Instr.stdfa 2#5 1#5 (.reg 0xD0#8 0#5)).wellFormed = false := by decide
theorem test_illformed_stdfa_partial : (Instr.stdfa 2#5 1#5 (.reg 0xC0#8 0#5)).wellFormed = false := by decide
theorem test_illformed_stblockf : (Instr.stblockf 2#5 1#5 0x80#8 0#5).wellFormed = false := by decide
theorem test_illformed_stpartialf : (Instr.stpartialf 2#5 1#5 0x80#8 0#5).wellFormed = false := by decide
theorem test_illformed_stshortf : (Instr.stshortf 2#5 1#5 0x80#8 0#5).wellFormed = false := by decide
theorem test_illformed_impdep2b : (Instr.impdep2b 0#5 0#12 0#2 0#5).wellFormed = false := by decide
theorem test_illformed_prefetch : (Instr.prefetch 5#5 1#5 (.imm 0#13)).wellFormed = false := by decide
theorem test_illformed_prefetcha : (Instr.prefetcha 15#5 1#5 (.imm 0#13)).wellFormed = false := by decide
theorem test_illformed_wrhpr : (Instr.wrhpr .hver 1#5 (.imm 0#13)).wellFormed = false := by decide

/-! ## Words the decoder refuses (30_encoding.md R330) -/

theorem test_decode_refuses :
    decode 0x86004022#32 = .error .illegalInstruction ∧ decode 0xD61A2000#32 = .error .illegalInstruction ∧
    decode 0x80E80000#32 = .error .illegalInstruction ∧ decode 0x81A00000#32 = .error .unimplementedFPop ∧
    decode 0x81A80000#32 = .error .unimplementedFPop := by
  decide

/-- FMOVScc and FMOVDcc with opf_cc 101 and 111, FMOVRd and FMOVRs with rcond 000 and 100 (45_fp.md R832, R842). -/
theorem test_decode_refuses_moves :
    decode 0x85AA2821#32 = .error (.unimplementedFMove false 2#5) ∧
    decode 0x87AA3842#32 = .error (.unimplementedFMove true 3#5) ∧
    decode 0x87A840C2#32 = .error (.unimplementedFMove true 3#5) ∧
    decode 0x85A850A1#32 = .error (.unimplementedFMove false 2#5) := by
  decide

/-! ## Decoding: one word for each constructor

A word marked `spec` is an example of the rule of its instruction; the others are built from the fields of
spec/opcode_table.json (30_encoding.md R301 to R326). -/

theorem test_decode_control_1 :
    decode 0x00000000#32 = .ok (.illtrap 0#5 0#22) ∧
    decode 0x30480002#32 = .ok (.bpa true .icc true 2#19) ∧
    decode 0x00480002#32 = .ok (.bpn false .icc true 2#19) ∧
    decode 0x12680002#32 = .ok (.bpne false .xcc true 2#19) ∧
    decode 0x0264D839#32 = .ok (.bpe false .xcc false 0x4D839#19) ∧
    decode 0x3465C099#32 = .ok (.bpg true .xcc false 0x5C099#19) ∧
    decode 0x0448FBBC#32 = .ok (.bple false .icc true 0xFBBC#19) ∧
    decode 0x36411FDE#32 = .ok (.bpge true .icc false 0x11FDE#19) ∧
    decode 0x26446BEA#32 = .ok (.bpl true .icc false 0x46BEA#19) ∧
    decode 0x186D4330#32 = .ok (.bpgu false .xcc true 0x54330#19) ∧
    decode 0x2869FE29#32 = .ok (.bpleu true .xcc true 0x1FE29#19) ∧
    decode 0x3A6B8C9E#32 = .ok (.bpcc true .xcc true 0x38C9E#19) ∧
    decode 0x0A6CE2EF#32 = .ok (.bpcs false .xcc true 0x4E2EF#19) ∧
    decode 0x1C610DFF#32 = .ok (.bppos false .xcc false 0x10DFF#19) ∧
    decode 0x0C653877#32 = .ok (.bpneg false .xcc false 0x53877#19) ∧
    decode 0x3E41EA36#32 = .ok (.bpvc true .icc false 0x1EA36#19) ∧
    decode 0x2E633255#32 = .ok (.bpvs true .xcc false 0x33255#19) ∧
    decode 0x10800004#32 = .ok (.ba false 4#22) ∧
    decode 0x20800000#32 = .ok (.bn true 0#22) := by
  decide

theorem test_decode_control_2 :
    decode 0x32BFFFFE#32 = .ok (.bne true 0x3FFFFE#22) ∧
    decode 0x02864138#32 = .ok (.be false 0x64138#22) ∧
    decode 0x34A16A3B#32 = .ok (.bg true 0x216A3B#22) ∧
    decode 0x24A7688D#32 = .ok (.ble true 0x27688D#22) ∧
    decode 0x16BB10F6#32 = .ok (.bge false 0x3B10F6#22) ∧
    decode 0x06ADD97F#32 = .ok (.bl false 0x2DD97F#22) ∧
    decode 0x3894E8A2#32 = .ok (.bgu true 0x14E8A2#22) ∧
    decode 0x08927100#32 = .ok (.bleu false 0x127100#22) ∧
    decode 0x3A9F65A8#32 = .ok (.bcc true 0x1F65A8#22) ∧
    decode 0x2AB959CE#32 = .ok (.bcs true 0x3959CE#22) ∧
    decode 0x1CB3E968#32 = .ok (.bpos false 0x33E968#22) ∧
    decode 0x0C9AFE87#32 = .ok (.bneg false 0x1AFE87#22) ∧
    decode 0x1EADCF45#32 = .ok (.bvc false 0x2DCF45#22) ∧
    decode 0x2E942359#32 = .ok (.bvs true 0x142359#22) ∧
    decode 0x02CA0004#32 = .ok (.brz false true 8#5 4#16) ∧
    decode 0x04DB7399#32 = .ok (.brlez false true 0xD#5 0x7399#16) ∧
    decode 0x26F07FFF#32 = .ok (.brlz true false 1#5 0xFFFF#16) ∧
    decode 0x2AEEDB20#32 = .ok (.brnz true true 0x1B#5 0x9B20#16) ∧
    decode 0x2CFB9AA2#32 = .ok (.brgz true true 0xE#5 0xDAA2#16) := by
  decide

theorem test_decode_control_3 :
    decode 0x2EFC966C#32 = .ok (.brgez true true 0x12#5 0xD66C#16) ∧
    decode 0x31480002#32 = .ok (.fbpa true 0#2 true 2#19) ∧
    decode 0x01480000#32 = .ok (.fbpn false 0#2 true 0#19) ∧
    decode 0x0F4C281D#32 = .ok (.fbpu false 0#2 true 0x4281D#19) ∧
    decode 0x2D5C82B1#32 = .ok (.fbpg true 1#2 true 0x482B1#19) ∧
    decode 0x0B600003#32 = .ok (.fbpug false 2#2 false 3#19) ∧
    decode 0x29559C21#32 = .ok (.fbpl true 1#2 false 0x59C21#19) ∧
    decode 0x0751CC9D#32 = .ok (.fbpul false 1#2 false 0x1CC9D#19) ∧
    decode 0x05469545#32 = .ok (.fbplg false 0#2 false 0x69545#19) ∧
    decode 0x237229F1#32 = .ok (.fbpne true 3#2 false 0x229F1#19) ∧
    decode 0x337FFFFF#32 = .ok (.fbpe true 3#2 true 0x7FFFF#19) ∧
    decode 0x355BD25E#32 = .ok (.fbpue true 1#2 true 0x3D25E#19) ∧
    decode 0x174D8B76#32 = .ok (.fbpge false 0#2 true 0x58B76#19) ∧
    decode 0x1951D357#32 = .ok (.fbpuge false 1#2 false 0x1D357#19) ∧
    decode 0x1B6A1E48#32 = .ok (.fbple false 2#2 true 0x21E48#19) ∧
    decode 0x3D4642EA#32 = .ok (.fbpule true 0#2 false 0x642EA#19) ∧
    decode 0x1F70691C#32 = .ok (.fbpo false 3#2 false 0x691C#19) ∧
    decode 0x11800002#32 = .ok (.fba false 2#22) ∧
    decode 0x21800000#32 = .ok (.fbn true 0#22) := by
  decide

theorem test_decode_control_4 :
    decode 0x2FBFFFFE#32 = .ok (.fbu true 0x3FFFFE#22) ∧
    decode 0x0D915E4B#32 = .ok (.fbg false 0x115E4B#22) ∧
    decode 0x2BA0C07E#32 = .ok (.fbug true 0x20C07E#22) ∧
    decode 0x29AF5C66#32 = .ok (.fbl true 0x2F5C66#22) ∧
    decode 0x279A8978#32 = .ok (.fbul true 0x1A8978#22) ∧
    decode 0x05B45130#32 = .ok (.fblg false 0x345130#22) ∧
    decode 0x03800004#32 = .ok (.fbne false 4#22) ∧
    decode 0x33AB18B9#32 = .ok (.fbe true 0x2B18B9#22) ∧
    decode 0x159461AA#32 = .ok (.fbue false 0x1461AA#22) ∧
    decode 0x179C33B2#32 = .ok (.fbge false 0x1C33B2#22) ∧
    decode 0x399EEEFB#32 = .ok (.fbuge true 0x1EEEFB#22) ∧
    decode 0x1B8A3CAB#32 = .ok (.fble false 0xA3CAB#22) ∧
    decode 0x3DA9C619#32 = .ok (.fbule true 0x29C619#22) ∧
    decode 0x1F800002#32 = .ok (.fbo false 2#22) ∧
    decode 0x40000010#32 = .ok (.call 0x10#30) ∧
    decode 0x81C7E008#32 = .ok (.jmpl 0#5 0x1F#5 (.imm 8#13)) ∧
    decode 0x81CFE008#32 = .ok (.return_ 0#5 0x1F#5 (.imm 8#13)) ∧
    decode 0x91D02005#32 = .ok (.ta .icc 0#5 (.imm 5#8)) ∧
    decode 0x81D02000#32 = .ok (.tn .icc 0#5 (.imm 0#8)) := by
  decide

theorem test_decode_control_5 :
    decode 0x93D0707F#32 = .ok (.tne .xcc 1#5 (.imm 0x7F#8)) ∧
    decode 0x83D030E8#32 = .ok (.te .xcc 0#5 (.imm 0xE8#8)) ∧
    decode 0x95D7B0EF#32 = .ok (.tg .xcc 0x1E#5 (.imm 0xEF#8)) ∧
    decode 0x85D130A6#32 = .ok (.tle .xcc 4#5 (.imm 0xA6#8)) ∧
    decode 0x97D06009#32 = .ok (.tge .icc 1#5 (.imm 9#8)) ∧
    decode 0x87D66009#32 = .ok (.tl .icc 0x19#5 (.imm 9#8)) ∧
    decode 0x99D2F015#32 = .ok (.tgu .xcc 0xB#5 (.imm 0x15#8)) ∧
    decode 0x89D7A03C#32 = .ok (.tleu .icc 0x1E#5 (.imm 0x3C#8)) ∧
    decode 0x9BD3304E#32 = .ok (.tcc .xcc 0xC#5 (.imm 0x4E#8)) ∧
    decode 0x8BD03003#32 = .ok (.tcs .xcc 0#5 (.imm 3#8)) ∧
    decode 0x9DD02096#32 = .ok (.tpos .icc 0#5 (.imm 0x96#8)) ∧
    decode 0x8DD7F013#32 = .ok (.tneg .xcc 0x1F#5 (.imm 0x13#8)) ∧
    decode 0x9FD5E016#32 = .ok (.tvc .icc 0x17#5 (.imm 0x16#8)) ∧
    decode 0x8FD0202A#32 = .ok (.tvs .icc 0#5 (.imm 0x2A#8)) ∧
    decode 0x81F00000#32 = .ok .done ∧
    decode 0x83F00000#32 = .ok .retry := by
  decide

theorem test_decode_fpmemory :
    decode 0xC3022004#32 = .ok (.ldf 1#5 8#5 (.imm 4#13)) ∧
    decode 0xC9122000#32 = .ok (.ldqf 4#5 8#5 (.imm 0#13)) ∧
    decode 0xC51A2008#32 = .ok (.lddf 2#5 8#5 (.imm 8#13)) ∧
    decode 0xC3222004#32 = .ok (.stf 1#5 8#5 (.imm 4#13)) ∧
    decode 0xC9322000#32 = .ok (.stqf 4#5 8#5 (.imm 0#13)) ∧
    decode 0xC53A2008#32 = .ok (.stdf 2#5 8#5 (.imm 8#13)) ∧
    decode 0xC3821100#32 = .ok (.ldfa 1#5 8#5 (.reg 0x88#8 0#5)) ∧
    decode 0xC9921000#32 = .ok (.ldqfa 4#5 8#5 (.reg 0x80#8 0#5)) ∧
    decode 0xC59A1100#32 = .ok (.lddfa 2#5 8#5 (.reg 0x88#8 0#5)) ∧
    decode 0xC3A21100#32 = .ok (.stfa 1#5 8#5 (.reg 0x88#8 0#5)) ∧
    decode 0xC9B21000#32 = .ok (.stqfa 4#5 8#5 (.reg 0x80#8 0#5)) ∧
    decode 0xC5BA1100#32 = .ok (.stdfa 2#5 8#5 (.reg 0x88#8 0#5)) ∧
    decode 0xE19A9E00#32 = .ok (.ldblockf 0x10#5 0xA#5 0xF0#8 0#5) ∧
    decode 0xC59A1A00#32 = .ok (.ldshortf 2#5 8#5 0xD0#8 0#5) ∧
    decode 0xE1BA9E00#32 = .ok (.stblockf 0x10#5 0xA#5 0xF0#8 0#5) ∧
    decode 0xC5BA1809#32 = .ok (.stpartialf 2#5 8#5 0xC0#8 9#5) ∧
    decode 0xC5BA1A40#32 = .ok (.stshortf 2#5 8#5 0xD2#8 0#5) ∧
    decode 0xC10A2004#32 = .ok (.ldfsr 8#5 (.imm 4#13)) ∧
    decode 0xC30A2008#32 = .ok (.ldxfsr 8#5 (.imm 8#13)) ∧
    decode 0xC12A2004#32 = .ok (.stfsr 8#5 (.imm 4#13)) ∧
    decode 0xC32A2000#32 = .ok (.stxfsr 8#5 (.imm 0#13)) := by
  decide

theorem test_decode_fpop_1 :
    decode 0x85A00021#32 = .ok (.fmovs 2#5 1#5) ∧
    decode 0x87A00040#32 = .ok (.fmovd 3#5 0#5) ∧
    decode 0x89A00060#32 = .ok (.fmovq 4#5 0#5) ∧
    decode 0x85A000A1#32 = .ok (.fnegs 2#5 1#5) ∧
    decode 0x85A000C0#32 = .ok (.fnegd 2#5 0#5) ∧
    decode 0x89A000E0#32 = .ok (.fnegq 4#5 0#5) ∧
    decode 0x85A00121#32 = .ok (.fabss 2#5 1#5) ∧
    decode 0x85A00141#32 = .ok (.fabsd 2#5 1#5) ∧
    decode 0x91A00164#32 = .ok (.fabsq 8#5 4#5) ∧
    decode 0x85A00521#32 = .ok (.fsqrts 2#5 1#5) ∧
    decode 0x85A00540#32 = .ok (.fsqrtd 2#5 0#5) ∧
    decode 0x89A00560#32 = .ok (.fsqrtq 4#5 0#5) ∧
    decode 0x87A04822#32 = .ok (.fadds 3#5 1#5 2#5) ∧
    decode 0x89A00842#32 = .ok (.faddd 4#5 0#5 2#5) ∧
    decode 0x91A00864#32 = .ok (.faddq 8#5 0#5 4#5) ∧
    decode 0x87A048A2#32 = .ok (.fsubs 3#5 1#5 2#5) ∧
    decode 0x8DA108C4#32 = .ok (.fsubd 6#5 4#5 4#5) ∧
    decode 0x91A008E4#32 = .ok (.fsubq 8#5 0#5 4#5) ∧
    decode 0x87A04922#32 = .ok (.fmuls 3#5 1#5 2#5) ∧
    decode 0x89A00942#32 = .ok (.fmuld 4#5 0#5 2#5) := by
  decide

theorem test_decode_fpop_2 :
    decode 0x91A00964#32 = .ok (.fmulq 8#5 0#5 4#5) ∧
    decode 0x87A049A2#32 = .ok (.fdivs 3#5 1#5 2#5) ∧
    decode 0x89A009C2#32 = .ok (.fdivd 4#5 0#5 2#5) ∧
    decode 0x91A009E4#32 = .ok (.fdivq 8#5 0#5 4#5) ∧
    decode 0x89A04D22#32 = .ok (.fsmuld 4#5 1#5 2#5) ∧
    decode 0x89A00DC2#32 = .ok (.fdmulq 4#5 0#5 2#5) ∧
    decode 0x85A01021#32 = .ok (.fstox 2#5 1#5) ∧
    decode 0x85A01040#32 = .ok (.fdtox 2#5 0#5) ∧
    decode 0x85A01060#32 = .ok (.fqtox 2#5 0#5) ∧
    decode 0x85A01080#32 = .ok (.fxtos 2#5 0#5) ∧
    decode 0x85A01100#32 = .ok (.fxtod 2#5 0#5) ∧
    decode 0x89A01180#32 = .ok (.fxtoq 4#5 0#5) ∧
    decode 0x85A01881#32 = .ok (.fitos 2#5 1#5) ∧
    decode 0x85A018C0#32 = .ok (.fdtos 2#5 0#5) ∧
    decode 0x85A018E0#32 = .ok (.fqtos 2#5 0#5) ∧
    decode 0x85A01901#32 = .ok (.fitod 2#5 1#5) ∧
    decode 0x85A01921#32 = .ok (.fstod 2#5 1#5) ∧
    decode 0x85A01960#32 = .ok (.fqtod 2#5 0#5) ∧
    decode 0x89A01981#32 = .ok (.fitoq 4#5 1#5) ∧
    decode 0x89A019A1#32 = .ok (.fstoq 4#5 1#5) := by
  decide

theorem test_decode_fpop_3 :
    decode 0x89A019C0#32 = .ok (.fdtoq 4#5 0#5) ∧
    decode 0x85A01A21#32 = .ok (.fstoi 2#5 1#5) ∧
    decode 0x85A01A40#32 = .ok (.fdtoi 2#5 0#5) ∧
    decode 0x85A01A60#32 = .ok (.fqtoi 2#5 0#5) ∧
    decode 0x85AA6021#32 = .ok (.fmovsicc 2#5 9#4 1#5) ∧
    decode 0x85A83021#32 = .ok (.fmovsxcc 2#5 0#4 1#5) ∧
    decode 0x85AA0021#32 = .ok (.fmovsfcc 2#5 0#2 8#4 1#5) ∧
    decode 0xADA9204A#32 = .ok (.fmovdicc 0x16#5 4#4 0xA#5) ∧
    decode 0x85AAB040#32 = .ok (.fmovdxcc 2#5 0xA#4 0#5) ∧
    decode 0x89AB5846#32 = .ok (.fmovdfcc 4#5 3#2 0xD#4 6#5) ∧
    decode 0x89AA2060#32 = .ok (.fmovqicc 4#5 8#4 0#5) ∧
    decode 0xB5AA706B#32 = .ok (.fmovqxcc 0x1A#5 9#4 0xB#5) ∧
    decode 0x97A84879#32 = .ok (.fmovqfcc 0xB#5 1#2 1#4 0x19#5) ∧
    decode 0x85AA04A1#32 = .ok (.fmovrsz 2#5 8#5 1#5) ∧
    decode 0x91AEC8A6#32 = .ok (.fmovrslez 8#5 0x1B#5 6#5) ∧
    decode 0x8FA94CA7#32 = .ok (.fmovrslz 7#5 5#5 7#5) ∧
    decode 0x9BA854AB#32 = .ok (.fmovrsnz 0xD#5 1#5 0xB#5) ∧
    decode 0x91AA58BA#32 = .ok (.fmovrsgz 8#5 9#5 0x1A#5) ∧
    decode 0x8FAA1CA6#32 = .ok (.fmovrsgez 7#5 8#5 6#5) ∧
    decode 0xBBAA04C5#32 = .ok (.fmovrdz 0x1D#5 8#5 5#5) := by
  decide

theorem test_decode_fpop_4 :
    decode 0xB3A888D1#32 = .ok (.fmovrdlez 0x19#5 2#5 0x11#5) ∧
    decode 0x91AFCCDF#32 = .ok (.fmovrdlz 8#5 0x1F#5 0x1F#5) ∧
    decode 0xAFAD54C6#32 = .ok (.fmovrdnz 0x17#5 0x15#5 6#5) ∧
    decode 0xBBA918DF#32 = .ok (.fmovrdgz 0x1D#5 4#5 0x1F#5) ∧
    decode 0x85A85CC0#32 = .ok (.fmovrdgez 2#5 1#5 0#5) ∧
    decode 0xB9A844F5#32 = .ok (.fmovrqz 0x1C#5 1#5 0x15#5) ∧
    decode 0xB5AD08F2#32 = .ok (.fmovrqlez 0x1A#5 0x14#5 0x12#5) ∧
    decode 0xADAE0CF4#32 = .ok (.fmovrqlz 0x16#5 0x18#5 0x14#5) ∧
    decode 0x89A854E0#32 = .ok (.fmovrqnz 4#5 1#5 0#5) ∧
    decode 0x8FAF98F3#32 = .ok (.fmovrqgz 7#5 0x1E#5 0x13#5) ∧
    decode 0x81AD1CFE#32 = .ok (.fmovrqgez 0#5 0x14#5 0x1E#5) ∧
    decode 0x81A84A22#32 = .ok (.fcmps 0#2 1#5 2#5) ∧
    decode 0x83A80A42#32 = .ok (.fcmpd 1#2 0#5 2#5) ∧
    decode 0x81A80A64#32 = .ok (.fcmpq 0#2 0#5 4#5) ∧
    decode 0x87A84AA2#32 = .ok (.fcmpes 3#2 1#5 2#5) ∧
    decode 0x81A80AC2#32 = .ok (.fcmped 0#2 0#5 2#5) ∧
    decode 0x81A80AE4#32 = .ok (.fcmpeq 0#2 0#5 4#5) := by
  decide

theorem test_decode_integer_1 :
    decode 0x112AF344#32 = .ok (.sethi 8#5 0x2AF344#22) ∧
    decode 0x01000000#32 = .ok .nop ∧
    decode 0x86004002#32 = .ok (.add 3#5 1#5 (.reg 2#5)) ∧
    decode 0x860860FF#32 = .ok (.and 3#5 1#5 (.imm 0xFF#13)) ∧
    decode 0x90122234#32 = .ok (.or 8#5 8#5 (.imm 0x234#13)) ∧
    decode 0x86184002#32 = .ok (.xor 3#5 1#5 (.reg 2#5)) ∧
    decode 0x86204002#32 = .ok (.sub 3#5 1#5 (.reg 2#5)) ∧
    decode 0x86284002#32 = .ok (.andn 3#5 1#5 (.reg 2#5)) ∧
    decode 0x86304002#32 = .ok (.orn 3#5 1#5 (.reg 2#5)) ∧
    decode 0x86384002#32 = .ok (.xnor 3#5 1#5 (.reg 2#5)) ∧
    decode 0x86404002#32 = .ok (.addc 3#5 1#5 (.reg 2#5)) ∧
    decode 0x86484002#32 = .ok (.mulx 3#5 1#5 (.reg 2#5)) ∧
    decode 0x86504002#32 = .ok (.umul 3#5 1#5 (.reg 2#5)) ∧
    decode 0x86584002#32 = .ok (.smul 3#5 1#5 (.reg 2#5)) ∧
    decode 0x86604002#32 = .ok (.subc 3#5 1#5 (.reg 2#5)) ∧
    decode 0x86684002#32 = .ok (.udivx 3#5 1#5 (.reg 2#5)) ∧
    decode 0x86704002#32 = .ok (.udiv 3#5 1#5 (.reg 2#5)) ∧
    decode 0x86784002#32 = .ok (.sdiv 3#5 1#5 (.reg 2#5)) ∧
    decode 0x86807FFF#32 = .ok (.addcc 3#5 1#5 (.imm 0x1FFF#13)) ∧
    decode 0x80884002#32 = .ok (.andcc 0#5 1#5 (.reg 2#5)) ∧
    decode 0x86904002#32 = .ok (.orcc 3#5 1#5 (.reg 2#5)) := by
  decide

theorem test_decode_integer_2 :
    decode 0x86984002#32 = .ok (.xorcc 3#5 1#5 (.reg 2#5)) ∧
    decode 0x80A04002#32 = .ok (.subcc 0#5 1#5 (.reg 2#5)) ∧
    decode 0x86A84002#32 = .ok (.andncc 3#5 1#5 (.reg 2#5)) ∧
    decode 0x86B04002#32 = .ok (.orncc 3#5 1#5 (.reg 2#5)) ∧
    decode 0x86B84002#32 = .ok (.xnorcc 3#5 1#5 (.reg 2#5)) ∧
    decode 0x86C04002#32 = .ok (.addccc 3#5 1#5 (.reg 2#5)) ∧
    decode 0x86D04002#32 = .ok (.umulcc 3#5 1#5 (.reg 2#5)) ∧
    decode 0x86D84002#32 = .ok (.smulcc 3#5 1#5 (.reg 2#5)) ∧
    decode 0x86E04002#32 = .ok (.subccc 3#5 1#5 (.reg 2#5)) ∧
    decode 0x86F04002#32 = .ok (.udivcc 3#5 1#5 (.reg 2#5)) ∧
    decode 0x86F84002#32 = .ok (.sdivcc 3#5 1#5 (.reg 2#5)) ∧
    decode 0x87004002#32 = .ok (.taddcc 3#5 1#5 (.reg 2#5)) ∧
    decode 0x87084002#32 = .ok (.tsubcc 3#5 1#5 (.reg 2#5)) ∧
    decode 0x87104002#32 = .ok (.taddcctv 3#5 1#5 (.reg 2#5)) ∧
    decode 0x87184002#32 = .ok (.tsubcctv 3#5 1#5 (.reg 2#5)) ∧
    decode 0x83204002#32 = .ok (.mulscc 1#5 1#5 (.reg 2#5)) ∧
    decode 0x87687FFF#32 = .ok (.sdivx 3#5 1#5 (.imm 0x1FFF#13)) ∧
    decode 0x87700002#32 = .ok (.popc 3#5 (.reg 2#5)) ∧
    decode 0x87286005#32 = .ok (.sll 3#5 1#5 (.imm 5#5)) ∧
    decode 0x87306005#32 = .ok (.srl 3#5 1#5 (.imm 5#5)) ∧
    decode 0x87386005#32 = .ok (.sra 3#5 1#5 (.imm 5#5)) := by
  decide

theorem test_decode_integer_3 :
    decode 0x87285002#32 = .ok (.sllx 3#5 1#5 (.reg 2#5)) ∧
    decode 0x87307005#32 = .ok (.srlx 3#5 1#5 (.imm 5#6)) ∧
    decode 0x8738703F#32 = .ok (.srax 3#5 1#5 (.imm 0x3F#6)) ∧
    decode 0x85660001#32 = .ok (.mova 2#5 .icc (.reg 1#5)) ∧
    decode 0x85643005#32 = .ok (.movn 2#5 .xcc (.imm 5#11)) ∧
    decode 0x876667FF#32 = .ok (.movne 3#5 .icc (.imm 0x7FF#11)) ∧
    decode 0xBB647337#32 = .ok (.move 0x1D#5 .xcc (.imm 0x337#11)) ∧
    decode 0xAB66B159#32 = .ok (.movg 0x15#5 .xcc (.imm 0x159#11)) ∧
    decode 0xB764B000#32 = .ok (.movle 0x1B#5 .xcc (.imm 0#11)) ∧
    decode 0x8B66E75D#32 = .ok (.movge 5#5 .icc (.imm 0x75D#11)) ∧
    decode 0x9164F4BA#32 = .ok (.movl 8#5 .xcc (.imm 0x4BA#11)) ∧
    decode 0xA167348E#32 = .ok (.movgu 0x10#5 .xcc (.imm 0x48E#11)) ∧
    decode 0xAF65366D#32 = .ok (.movleu 0x17#5 .xcc (.imm 0x66D#11)) ∧
    decode 0x916777FF#32 = .ok (.movcc 8#5 .xcc (.imm 0x7FF#11)) ∧
    decode 0xB7657634#32 = .ok (.movcs 0x1B#5 .xcc (.imm 0x634#11)) ∧
    decode 0xB767A226#32 = .ok (.movpos 0x1B#5 .icc (.imm 0x226#11)) ∧
    decode 0xA565A132#32 = .ok (.movneg 0x12#5 .icc (.imm 0x132#11)) ∧
    decode 0x8567E01C#32 = .ok (.movvc 2#5 .icc (.imm 0x1C#11)) ∧
    decode 0x9D65F18A#32 = .ok (.movvs 0xE#5 .xcc (.imm 0x18A#11)) ∧
    decode 0x85620001#32 = .ok (.movfa 2#5 0#2 (.reg 1#5)) ∧
    decode 0x85601801#32 = .ok (.movfn 2#5 3#2 (.reg 1#5)) := by
  decide

theorem test_decode_integer_4 :
    decode 0xAB61F391#32 = .ok (.movfu 0x15#5 2#2 (.imm 0x391#11)) ∧
    decode 0xAB61B880#32 = .ok (.movfg 0x15#5 3#2 (.imm 0x80#11)) ∧
    decode 0x85616807#32 = .ok (.movfug 2#5 1#2 (.imm 7#11)) ∧
    decode 0xAF613B93#32 = .ok (.movfl 0x17#5 3#2 (.imm 0x393#11)) ∧
    decode 0xA560F864#32 = .ok (.movful 0x12#5 3#2 (.imm 0x64#11)) ∧
    decode 0x8360ADFC#32 = .ok (.movflg 1#5 1#2 (.imm 0x5FC#11)) ∧
    decode 0x91607F00#32 = .ok (.movfne 8#5 3#2 (.imm 0x700#11)) ∧
    decode 0x95626A69#32 = .ok (.movfe 0xA#5 1#2 (.imm 0x269#11)) ∧
    decode 0x8D62BEB3#32 = .ok (.movfue 6#5 3#2 (.imm 0x6B3#11)) ∧
    decode 0x9162E584#32 = .ok (.movfge 8#5 0#2 (.imm 0x584#11)) ∧
    decode 0x9B632AAF#32 = .ok (.movfuge 0xD#5 1#2 (.imm 0x2AF#11)) ∧
    decode 0x97637A8F#32 = .ok (.movfle 0xB#5 3#2 (.imm 0x28F#11)) ∧
    decode 0x8163B74D#32 = .ok (.movfule 0#5 2#2 (.imm 0x74D#11)) ∧
    decode 0x9963F396#32 = .ok (.movfo 0xC#5 2#2 (.imm 0x396#11)) ∧
    decode 0x87784402#32 = .ok (.movrz 3#5 1#5 (.reg 2#5)) ∧
    decode 0x87786BFF#32 = .ok (.movrlez 3#5 1#5 (.imm 0x3FF#10)) ∧
    decode 0x87784C02#32 = .ok (.movrlz 3#5 1#5 (.reg 2#5)) ∧
    decode 0xBD7E941C#32 = .ok (.movrnz 0x1E#5 0x1A#5 (.reg 0x1C#5)) ∧
    decode 0x87785802#32 = .ok (.movrgz 3#5 1#5 (.reg 2#5)) ∧
    decode 0x87785C02#32 = .ok (.movrgez 3#5 1#5 (.reg 2#5)) := by
  decide

theorem test_decode_memory_1 :
    decode 0x81DAE3BF#32 = .ok (.flush 0xB#5 (.imm 0x3BF#13)) ∧
    decode 0x8143E000#32 = .ok (.membar 0#3 0#4) ∧
    decode 0x8143C000#32 = .ok .stbar ∧
    decode 0xD4022008#32 = .ok (.lduw 0xA#5 8#5 (.imm 8#13)) ∧
    decode 0xD40A2007#32 = .ok (.ldub 0xA#5 8#5 (.imm 7#13)) ∧
    decode 0xD4122006#32 = .ok (.lduh 0xA#5 8#5 (.imm 6#13)) ∧
    decode 0xD41A2000#32 = .ok (.ldtw 0xA#5 8#5 (.imm 0#13)) ∧
    decode 0xD4222004#32 = .ok (.stw 0xA#5 8#5 (.imm 4#13)) ∧
    decode 0xD42A2001#32 = .ok (.stb 0xA#5 8#5 (.imm 1#13)) ∧
    decode 0xD4322002#32 = .ok (.sth 0xA#5 8#5 (.imm 2#13)) ∧
    decode 0xD03A6DC4#32 = .ok (.sttw 8#5 9#5 (.imm 0xDC4#13)) ∧
    decode 0xD4422008#32 = .ok (.ldsw 0xA#5 8#5 (.imm 8#13)) ∧
    decode 0xD44A0009#32 = .ok (.ldsb 0xA#5 8#5 (.reg 9#5)) ∧
    decode 0xD4522002#32 = .ok (.ldsh 0xA#5 8#5 (.imm 2#13)) ∧
    decode 0xD45A0000#32 = .ok (.ldx 0xA#5 8#5 (.reg 0#5)) ∧
    decode 0xD46A2000#32 = .ok (.ldstub 0xA#5 8#5 (.imm 0#13)) ∧
    decode 0xD4720009#32 = .ok (.stx 0xA#5 8#5 (.reg 9#5)) ∧
    decode 0xD47A2000#32 = .ok (.swap 0xA#5 8#5 (.imm 0#13)) ∧
    decode 0xD4821100#32 = .ok (.lduwa 0xA#5 8#5 (.reg 0x88#8 0#5)) := by
  decide

theorem test_decode_memory_2 :
    decode 0xD48A1000#32 = .ok (.lduba 0xA#5 8#5 (.reg 0x80#8 0#5)) ∧
    decode 0xD4921100#32 = .ok (.lduha 0xA#5 8#5 (.reg 0x88#8 0#5)) ∧
    decode 0xF099C8C6#32 = .ok (.ldtwa 0x18#5 7#5 (.reg 0x46#8 6#5)) ∧
    decode 0xD4A21100#32 = .ok (.stwa 0xA#5 8#5 (.reg 0x88#8 0#5)) ∧
    decode 0xD4AA1100#32 = .ok (.stba 0xA#5 8#5 (.reg 0x88#8 0#5)) ∧
    decode 0xD4B21100#32 = .ok (.stha 0xA#5 8#5 (.reg 0x88#8 0#5)) ∧
    decode 0xD4BA1100#32 = .ok (.sttwa 0xA#5 8#5 (.reg 0x88#8 0#5)) ∧
    decode 0xD4C22004#32 = .ok (.ldswa 0xA#5 8#5 (.imm 4#13)) ∧
    decode 0xD4CA1100#32 = .ok (.ldsba 0xA#5 8#5 (.reg 0x88#8 0#5)) ∧
    decode 0xD4D21109#32 = .ok (.ldsha 0xA#5 8#5 (.reg 0x88#8 9#5)) ∧
    decode 0xD4DA1100#32 = .ok (.ldxa 0xA#5 8#5 (.reg 0x88#8 0#5)) ∧
    decode 0xD4EA1000#32 = .ok (.ldstuba 0xA#5 8#5 (.reg 0x80#8 0#5)) ∧
    decode 0xD4F21100#32 = .ok (.stxa 0xA#5 8#5 (.reg 0x88#8 0#5)) ∧
    decode 0xD4FA1100#32 = .ok (.swapa 0xA#5 8#5 (.reg 0x88#8 0#5)) ∧
    decode 0xF49B0577#32 = .ok (.ldtxa 0x1A#5 0xC#5 0x2B#8 0x17#5) ∧
    decode 0xC36AF05A#32 = .ok (.prefetch 1#5 0xB#5 (.imm 0x105A#13)) ∧
    decode 0xC7EBBA32#32 = .ok (.prefetcha 3#5 0xE#5 (.imm 0x1A32#13)) ∧
    decode 0xE5E0A008#32 = .ok (.casa 0x12#5 2#5 .asiReg 8#5) ∧
    decode 0xD5F21009#32 = .ok (.casxa 0xA#5 8#5 (.immAsi 0x80#8) 9#5) := by
  decide

theorem test_decode_statereg_1 :
    decode 0x91400000#32 = .ok (.rdy 8#5) ∧
    decode 0x91408000#32 = .ok (.rdccr 8#5) ∧
    decode 0x9140C000#32 = .ok (.rdasi 8#5) ∧
    decode 0x91410000#32 = .ok (.rdtick 8#5) ∧
    decode 0x91414000#32 = .ok (.rdpc 8#5) ∧
    decode 0x91418000#32 = .ok (.rdfprs 8#5) ∧
    decode 0x91440000#32 = .ok (.rdpcr 8#5) ∧
    decode 0x91444000#32 = .ok (.rdpic 8#5) ∧
    decode 0x9144C000#32 = .ok (.rdgsr 8#5) ∧
    decode 0x91458000#32 = .ok (.rdsoftint 8#5) ∧
    decode 0x9145C000#32 = .ok (.rdtick_cmpr 8#5) ∧
    decode 0x91460000#32 = .ok (.rdstick 8#5) ∧
    decode 0x91464000#32 = .ok (.rdstick_cmpr 8#5) ∧
    decode 0x91480000#32 = .ok (.rdhpr 8#5 .hpstate) ∧
    decode 0x91500000#32 = .ok (.rdpr 8#5 .tpc) ∧
    decode 0x81800000#32 = .ok (.wry 0#5 (.reg 0#5)) ∧
    decode 0x85802044#32 = .ok (.wrccr 0#5 (.imm 0x44#13)) := by
  decide

theorem test_decode_statereg_2 :
    decode 0x87802080#32 = .ok (.wrasi 0#5 (.imm 0x80#13)) ∧
    decode 0x8D802004#32 = .ok (.wrfprs 0#5 (.imm 4#13)) ∧
    decode 0xA1820009#32 = .ok (.wrpcr 8#5 (.reg 9#5)) ∧
    decode 0xA3820009#32 = .ok (.wrpic 8#5 (.reg 9#5)) ∧
    decode 0xA7823FFF#32 = .ok (.wrgsr 8#5 (.imm 0x1FFF#13)) ∧
    decode 0xA9802001#32 = .ok (.wrsoftint_set 0#5 (.imm 1#13)) ∧
    decode 0xAB822000#32 = .ok (.wrsoftint_clr 8#5 (.imm 0#13)) ∧
    decode 0xAD820009#32 = .ok (.wrsoftint 8#5 (.reg 9#5)) ∧
    decode 0xAF820009#32 = .ok (.wrtick_cmpr 8#5 (.reg 9#5)) ∧
    decode 0xB1820009#32 = .ok (.wrstick 8#5 (.reg 9#5)) ∧
    decode 0xB3820009#32 = .ok (.wrstick_cmpr 8#5 (.reg 9#5)) ∧
    decode 0x9F802000#32 = .ok (.sir 0#13) ∧
    decode 0x81920000#32 = .ok (.wrpr .tpc 8#5 (.reg 0#5)) ∧
    decode 0x819A0000#32 = .ok (.wrhpr .hpstate 8#5 (.reg 0#5)) ∧
    decode 0x81B80000#32 = .ok (.impdep2a 0#5 0#12 0#5) ∧
    decode 0x81B80020#32 = .ok (.impdep2b 0#5 0#12 1#2 0#5) := by
  decide

theorem test_decode_vis_1 :
    decode 0x95B20009#32 = .ok (.edge8cc 0xA#5 8#5 9#5) ∧
    decode 0x95B20029#32 = .ok (.edge8n 0xA#5 8#5 9#5) ∧
    decode 0x95B20049#32 = .ok (.edge8lcc 0xA#5 8#5 9#5) ∧
    decode 0x95B20069#32 = .ok (.edge8ln 0xA#5 8#5 9#5) ∧
    decode 0x95B20089#32 = .ok (.edge16cc 0xA#5 8#5 9#5) ∧
    decode 0x95B200A9#32 = .ok (.edge16n 0xA#5 8#5 9#5) ∧
    decode 0x95B200C9#32 = .ok (.edge16lcc 0xA#5 8#5 9#5) ∧
    decode 0x95B200E9#32 = .ok (.edge16ln 0xA#5 8#5 9#5) ∧
    decode 0x95B20109#32 = .ok (.edge32cc 0xA#5 8#5 9#5) ∧
    decode 0x95B20129#32 = .ok (.edge32n 0xA#5 8#5 9#5) ∧
    decode 0x95B20149#32 = .ok (.edge32lcc 0xA#5 8#5 9#5) ∧
    decode 0x95B20169#32 = .ok (.edge32ln 0xA#5 8#5 9#5) ∧
    decode 0x93B20200#32 = .ok (.array8 9#5 8#5 0#5) ∧
    decode 0x93B20241#32 = .ok (.array16 9#5 8#5 1#5) ∧
    decode 0x93B20281#32 = .ok (.array32 9#5 8#5 1#5) ∧
    decode 0x95B20309#32 = .ok (.alignaddress 0xA#5 8#5 9#5) ∧
    decode 0x95B20329#32 = .ok (.bmask 0xA#5 8#5 9#5) ∧
    decode 0x95B20349#32 = .ok (.alignaddress_little 0xA#5 8#5 9#5) ∧
    decode 0xB9B00408#32 = .ok (.fcmple16 0x1C#5 0#5 8#5) ∧
    decode 0xB1B3045F#32 = .ok (.fcmpne16 0x18#5 0xC#5 0x1F#5) ∧
    decode 0x85B28487#32 = .ok (.fcmple32 2#5 0xA#5 7#5) := by
  decide

theorem test_decode_vis_2 :
    decode 0xB3B004CE#32 = .ok (.fcmpne32 0x19#5 0#5 0xE#5) ∧
    decode 0xBFB28501#32 = .ok (.fcmpgt16 0x1F#5 0xA#5 1#5) ∧
    decode 0x9BB68552#32 = .ok (.fcmpeq16 0xD#5 0x1A#5 0x12#5) ∧
    decode 0x99B2059A#32 = .ok (.fcmpgt32 0xC#5 8#5 0x1A#5) ∧
    decode 0xA7B7C5D9#32 = .ok (.fcmpeq32 0x13#5 0x1F#5 0x19#5) ∧
    decode 0x89B04622#32 = .ok (.fmul8x16 4#5 1#5 2#5) ∧
    decode 0x89B04662#32 = .ok (.fmul8x16au 4#5 1#5 2#5) ∧
    decode 0x89B046A2#32 = .ok (.fmul8x16al 4#5 1#5 2#5) ∧
    decode 0x89B006C2#32 = .ok (.fmul8sux16 4#5 0#5 2#5) ∧
    decode 0x89B006E2#32 = .ok (.fmul8ulx16 4#5 0#5 2#5) ∧
    decode 0x85B00701#32 = .ok (.fmuld8sux16 2#5 0#5 1#5) ∧
    decode 0x85B00721#32 = .ok (.fmuld8ulx16 2#5 0#5 1#5) ∧
    decode 0x89B00742#32 = .ok (.fpack32 4#5 0#5 2#5) ∧
    decode 0x83B00762#32 = .ok (.fpack16 1#5 0#5 2#5) ∧
    decode 0x83B007A2#32 = .ok (.fpackfix 1#5 0#5 2#5) ∧
    decode 0x89B007C2#32 = .ok (.pdist 4#5 0#5 2#5) ∧
    decode 0x89B00902#32 = .ok (.faligndata 4#5 0#5 2#5) ∧
    decode 0x89B00962#32 = .ok (.fpmerge 4#5 0#5 2#5) ∧
    decode 0x89B00982#32 = .ok (.bshuffle 4#5 0#5 2#5) ∧
    decode 0x85B009A1#32 = .ok (.fexpand 2#5 0#5 1#5) ∧
    decode 0x89B00A02#32 = .ok (.fpadd16 4#5 0#5 2#5) := by
  decide

theorem test_decode_vis_3 :
    decode 0x87B04A22#32 = .ok (.fpadd16s 3#5 1#5 2#5) ∧
    decode 0x89B00A42#32 = .ok (.fpadd32 4#5 0#5 2#5) ∧
    decode 0x87B04A62#32 = .ok (.fpadd32s 3#5 1#5 2#5) ∧
    decode 0x89B00A82#32 = .ok (.fpsub16 4#5 0#5 2#5) ∧
    decode 0x87B04AA2#32 = .ok (.fpsub16s 3#5 1#5 2#5) ∧
    decode 0x89B00AC2#32 = .ok (.fpsub32 4#5 0#5 2#5) ∧
    decode 0x87B04AE2#32 = .ok (.fpsub32s 3#5 1#5 2#5) ∧
    decode 0x85B00C00#32 = .ok (.fzero 2#5) ∧
    decode 0x87B00C20#32 = .ok (.fzeros 3#5) ∧
    decode 0x89B00C42#32 = .ok (.fnor 4#5 0#5 2#5) ∧
    decode 0x87B04C62#32 = .ok (.fnors 3#5 1#5 2#5) ∧
    decode 0x89B00C82#32 = .ok (.fandnot2 4#5 0#5 2#5) ∧
    decode 0x87B04CA2#32 = .ok (.fandnot2s 3#5 1#5 2#5) ∧
    decode 0x85B00CC0#32 = .ok (.fnot2 2#5 0#5) ∧
    decode 0x87B00CE1#32 = .ok (.fnot2s 3#5 1#5) ∧
    decode 0x89B00D02#32 = .ok (.fandnot1 4#5 0#5 2#5) ∧
    decode 0x87B04D22#32 = .ok (.fandnot1s 3#5 1#5 2#5) ∧
    decode 0x85B00D40#32 = .ok (.fnot1 2#5 0#5) ∧
    decode 0x87B04D60#32 = .ok (.fnot1s 3#5 1#5) ∧
    decode 0x89B00D82#32 = .ok (.fxor 4#5 0#5 2#5) ∧
    decode 0x87B04DA2#32 = .ok (.fxors 3#5 1#5 2#5) := by
  decide

theorem test_decode_vis_4 :
    decode 0x89B00DC2#32 = .ok (.fnand 4#5 0#5 2#5) ∧
    decode 0x87B04DE2#32 = .ok (.fnands 3#5 1#5 2#5) ∧
    decode 0x89B00E02#32 = .ok (.fand 4#5 0#5 2#5) ∧
    decode 0x87B04E22#32 = .ok (.fands 3#5 1#5 2#5) ∧
    decode 0x89B00E42#32 = .ok (.fxnor 4#5 0#5 2#5) ∧
    decode 0x87B04E62#32 = .ok (.fxnors 3#5 1#5 2#5) ∧
    decode 0x85B00E80#32 = .ok (.fsrc1 2#5 0#5) ∧
    decode 0x87B04EA0#32 = .ok (.fsrc1s 3#5 1#5) ∧
    decode 0x89B00EC2#32 = .ok (.fornot2 4#5 0#5 2#5) ∧
    decode 0x87B04EE2#32 = .ok (.fornot2s 3#5 1#5 2#5) ∧
    decode 0x85B00F00#32 = .ok (.fsrc2 2#5 0#5) ∧
    decode 0x87B00F21#32 = .ok (.fsrc2s 3#5 1#5) ∧
    decode 0x89B00F42#32 = .ok (.fornot1 4#5 0#5 2#5) ∧
    decode 0x87B04F62#32 = .ok (.fornot1s 3#5 1#5 2#5) ∧
    decode 0x89B00F82#32 = .ok (.for_ 4#5 0#5 2#5) ∧
    decode 0x87B04FA2#32 = .ok (.fors 3#5 1#5 2#5) ∧
    decode 0x85B00FC0#32 = .ok (.fone 2#5) ∧
    decode 0x87B00FE0#32 = .ok (.fones 3#5) ∧
    decode 0x81B01000#32 = .ok (.shutdown 0#5 0#5 0#5) ∧
    decode 0x81B01020#32 = .ok (.siam 0#3) := by
  decide

theorem test_decode_window :
    decode 0x9DE3BF50#32 = .ok (.save 0xE#5 0xE#5 (.imm 0x1F50#13)) ∧
    decode 0x81E80000#32 = .ok (.restore 0#5 0#5 (.reg 0#5)) ∧
    decode 0x81580000#32 = .ok (.flushw false) ∧
    decode 0x81880000#32 = .ok .saved ∧
    decode 0x83880000#32 = .ok .restored ∧
    decode 0x85880000#32 = .ok .allclean ∧
    decode 0x87880000#32 = .ok .otherw ∧
    decode 0x89880000#32 = .ok .normalw ∧
    decode 0x8B880000#32 = .ok .invalw := by
  decide

/-! ## One step of an instruction, against the vectors of 95_test_vectors.md -/

theorem test_bpne :
    holdsAfter (.bpne false .xcc false 0x7FFFC#19) { base with ccr := 4#8 }
      (fun t => t.pc.toNat = 4100 ∧ t.npc.toNat = 4080) = true := by
  decide

theorem test_ba :
    holdsAfter (.ba true 0x3FFFFE#22) { base with pc := 0x2008#64, npc := 0x200C#64, ccr := 4#8 }
      (fun t => t.pc.toNat = 8192 ∧ t.npc.toNat = 8196) = true := by
  decide

theorem test_bne :
    holdsAfter (.bne true 0x3FFFFF#22) { base with pc := 0x100C#64, npc := 0x1010#64, ccr := 4#8 }
      (fun t => t.pc.toNat = 4116 ∧ t.npc.toNat = 4120) = true := by
  decide

theorem test_sethi :
    holdsAfter (.sethi 0#5 0x3FFFFF#22) base
      (fun t => (t.readR 0#5).toNat = 0) = true := by
  decide

theorem test_fbl :
    holdsAfter (.fbl false 2#22) { base with fsr := { base.fsr with fcc0 := 3#2 }, npc := 0x2000#64 }
      (fun t => t.pc.toNat = 8192 ∧ t.npc.toNat = 8196) = true := by
  decide

theorem test_call :
    holdsAfter (.call 3#30) { base with pc := 0x2004#64, npc := 0x2008#64 }
      (fun t => (t.readR 15#5).toNat = 8196 ∧ t.pc.toNat = 8200 ∧ t.npc.toNat = 8208) = true := by
  decide

theorem test_or :
    holdsAfter (.or 8#5 8#5 (.imm 0x234#13)) (setR (base) 8#5 0xabcd1000#64)
      (fun t => (t.readR 8#5).toNat = 0xABCD1234) = true := by
  decide

theorem test_xor :
    holdsAfter (.xor 8#5 8#5 (.imm 0x1E34#13)) (setR (base) 8#5 0x5432ec00#64)
      (fun t => (t.readR 8#5).toNat = 0xFFFFFFFFABCD1234) = true := by
  decide

theorem test_addc :
    holdsAfter (.addc 1#5 0#5 (.imm 0#13)) { base with ccr := 0x10#8 }
      (fun t => (t.readR 1#5).toNat = 0) = true := by
  decide

theorem test_mulx :
    holdsAfter (.mulx 0xA#5 8#5 (.reg 9#5)) (setR (setR (base) 8#5 0xFFFFFFFFFFFFFFFE#64) 9#5 0x3#64)
      (fun t => (t.readR 10#5).toNat = 0xFFFFFFFFFFFFFFFA) = true := by
  decide

theorem test_udivx :
    holdsAfter (.udivx 0xA#5 8#5 (.reg 9#5)) (setR (base) 8#5 0x5#64)
      (fun t => t.trapEntry.tt.toNat = 40) = true := by
  decide

theorem test_udiv :
    holdsAfter (.udiv 0xA#5 8#5 (.reg 9#5)) { setR (setR (base) 8#5 0x0#64) 9#5 0x1#64 with y := 0x1#32 }
      (fun t => (t.readR 10#5).toNat = 0xFFFFFFFF) = true := by
  decide

theorem test_sdiv :
    holdsAfter (.sdiv 0xA#5 8#5 (.reg 9#5)) { setR (setR (base) 8#5 0x80000000#64) 9#5 0xffffffff#64 with y := 0xffffffff#32 }
      (fun t => (t.readR 10#5).toNat = 0x7FFFFFFF) = true := by
  decide

theorem test_addcc :
    holdsAfter (.addcc 0xA#5 8#5 (.reg 9#5)) { setR (setR (base) 8#5 0x0#64) 9#5 0x0#64 with ccr := 0#8 }
      (fun t => (t.readR 10#5).toNat = 0 ∧ t.ccr.toNat = 68) = true := by
  decide

theorem test_andcc :
    holdsAfter (.andcc 0xA#5 8#5 (.reg 9#5)) { setR (setR (base) 8#5 0x100000000#64) 9#5 0xFFFFFFFFFFFFFFFF#64 with ccr := 0#8 }
      (fun t => (t.readR 10#5).toNat = 0x100000000 ∧ t.ccr.toNat = 4) = true := by
  decide

theorem test_orcc :
    holdsAfter (.orcc 0xA#5 8#5 (.reg 9#5)) { setR (setR (base) 8#5 0x100000000#64) 9#5 0x0#64 with ccr := 0#8 }
      (fun t => (t.readR 10#5).toNat = 0x100000000 ∧ t.ccr.toNat = 4) = true := by
  decide

theorem test_xorcc :
    holdsAfter (.xorcc 0xA#5 8#5 (.reg 9#5)) { setR (setR (base) 8#5 0x100000000#64) 9#5 0x0#64 with ccr := 0#8 }
      (fun t => (t.readR 10#5).toNat = 0x100000000 ∧ t.ccr.toNat = 4) = true := by
  decide

theorem test_subcc :
    holdsAfter (.subcc 0#5 0x18#5 (.reg 0x1A#5)) (setR (setR (base) 24#5 0xFFFFFFFFFFFFFFFF#64) 26#5 0x1#64)
      (fun t => t.ccr.toNat = 136 ∧ t.pc.toNat = 4100 ∧ t.npc.toNat = 4104) = true := by
  decide

theorem test_addccc :
    holdsAfter (.addccc 0xA#5 8#5 (.reg 9#5)) { setR (setR (base) 8#5 0x7FFFFFFFFFFFFFFF#64) 9#5 0x0#64 with ccr := 1#8 }
      (fun t => (t.readR 10#5).toNat = 0x8000000000000000 ∧ t.ccr.toNat = 165) = true := by
  decide

theorem test_umulcc :
    holdsAfter (.umulcc 0xA#5 8#5 (.reg 9#5)) (setR (setR (base) 8#5 0x80000000#64) 9#5 0x2#64)
      (fun t => (t.readR 10#5).toNat = 0x100000000 ∧ t.y.toNat = 1 ∧ t.ccr.toNat = 4) = true := by
  decide

theorem test_smulcc :
    holdsAfter (.smulcc 0xA#5 8#5 (.reg 9#5)) (setR (setR (base) 8#5 0x80000000#64) 9#5 0x1#64)
      (fun t => (t.readR 10#5).toNat = 0xFFFFFFFF80000000 ∧ t.y.toNat = 0xFFFFFFFF ∧ t.ccr.toNat = 136) = true := by
  decide

theorem test_subccc :
    holdsAfter (.subccc 0xA#5 8#5 (.reg 9#5)) { setR (setR (base) 8#5 0x5#64) 9#5 0x4#64 with ccr := 1#8 }
      (fun t => (t.readR 10#5).toNat = 0 ∧ t.ccr.toNat = 68) = true := by
  decide

theorem test_udivcc :
    holdsAfter (.udivcc 0xA#5 8#5 (.reg 9#5)) { setR (setR (base) 8#5 0x0#64) 9#5 0x1#64 with y := 0x1#32 }
      (fun t => (t.readR 10#5).toNat = 0xFFFFFFFF ∧ t.ccr.toNat = 10) = true := by
  decide

theorem test_sdivcc :
    holdsAfter (.sdivcc 0xA#5 8#5 (.reg 9#5)) { setR (setR (base) 8#5 0x80000000#64) 9#5 0x1#64 with y := 0x0#32 }
      (fun t => (t.readR 10#5).toNat = 0x7FFFFFFF ∧ t.ccr.toNat = 2) = true := by
  decide

theorem test_taddcc :
    holdsAfter (.taddcc 0xA#5 8#5 (.reg 9#5)) { setR (setR (base) 8#5 0xfffffffc#64) 9#5 0x4#64 with ccr := 0#8 }
      (fun t => (t.readR 10#5).toNat = 0x100000000 ∧ t.ccr.toNat = 5) = true := by
  decide

theorem test_tsubcc :
    holdsAfter (.tsubcc 0xA#5 8#5 (.reg 9#5)) { setR (setR (base) 8#5 0x0#64) 9#5 0x4#64 with ccr := 0#8 }
      (fun t => (t.readR 10#5).toNat = 0xFFFFFFFFFFFFFFFC ∧ t.ccr.toNat = 153) = true := by
  decide

theorem test_taddcctv :
    holdsAfter (.taddcctv 0xA#5 8#5 (.reg 9#5)) (setR (setR (setR (base) 8#5 0x7ffffffc#64) 9#5 0x4#64) 10#5 0x1#64)
      (fun t => t.trapEntry.tt.toNat = 35 ∧ (t.readR 10#5).toNat = 1 ∧ t.ccr.toNat = 0) = true := by
  decide

theorem test_tsubcctv :
    holdsAfter (.tsubcctv 0xA#5 8#5 (.reg 9#5)) { setR (setR (base) 8#5 0x0#64) 9#5 0x4#64 with ccr := 0#8 }
      (fun t => (t.readR 10#5).toNat = 0xFFFFFFFFFFFFFFFC ∧ t.ccr.toNat = 153) = true := by
  decide

theorem test_mulscc :
    holdsAfter (.mulscc 0xA#5 8#5 (.reg 9#5)) { setR (setR (base) 8#5 0x80000003#64) 9#5 0x7fffffff#64 with y := 1#32, ccr := 8#8 }
      (fun t => t.y.toNat = 0x80000000) = true := by
  decide

theorem test_sdivx :
    holdsAfter (.sdivx 0xA#5 8#5 (.reg 9#5)) (setR (base) 8#5 0x5#64)
      (fun t => t.trapEntry.tt.toNat = 40) = true := by
  decide

theorem test_jmpl :
    holdsAfter (.jmpl 0#5 0x1F#5 (.imm 8#13)) (setR { base with pc := 0x2018#64, npc := 0x201C#64 } 31#5 0x2004#64)
      (fun t => t.pc.toNat = 8220 ∧ t.npc.toNat = 8204) = true := by
  decide

theorem test_save :
    holdsAfter (.save 0xE#5 0xE#5 (.imm 0x1F50#13)) (setR base 14#5 0x7FFF0000#64)
      (fun t => t.win.cwp.toNat = 3 ∧ t.win.cansave.toNat = 2 ∧ t.win.canrestore.toNat = 4 ∧ (t.readR 14#5).toNat = 0x7FFEFF50) = true := by
  decide

theorem test_restore :
    holdsAfter (.restore 8#5 0x18#5 (.imm 1#13)) (setR ({ base with win := { base.win with cwp := 3#3 } }) 24#5 41#64)
      (fun t => t.win.cwp.toNat = 2 ∧ (t.readR 8#5).toNat = 42) = true := by
  decide

theorem test_return :
    holdsAfter (.return_ 0#5 0x1F#5 (.imm 8#13)) (setR ({ base with pc := 0x5000#64, npc := 0x5004#64, win := { base.win with cwp := 3#3, cansave := 2#3, canrestore := 4#3 } }) 31#5 0x2004#64)
      (fun t => t.win.cwp.toNat = 2 ∧ t.win.cansave.toNat = 3 ∧ t.win.canrestore.toNat = 3 ∧ t.pc.toNat = 20484) = true := by
  decide

theorem test_sll :
    holdsAfter (.sll 0xA#5 8#5 (.reg 9#5)) (setR (setR (base) 8#5 0xFEDCBA9876543210#64) 9#5 0x24#64)
      (fun t => (t.readR 10#5).toNat = 0xEDCBA98765432100) = true := by
  decide

theorem test_srl :
    holdsAfter (.srl 0xA#5 8#5 (.imm 4#5)) (setR (base) 8#5 0xFEDCBA9876543210#64)
      (fun t => (t.readR 10#5).toNat = 0x7654321) = true := by
  decide

theorem test_sra :
    holdsAfter (.sra 0xA#5 8#5 (.imm 4#5)) (setR (base) 8#5 0xf6543210#64)
      (fun t => (t.readR 10#5).toNat = 0xFFFFFFFFFF654321) = true := by
  decide

theorem test_srax :
    holdsAfter (.srax 0xA#5 8#5 (.imm 0x3F#6)) (setR (base) 8#5 0xFEDCBA9876543210#64)
      (fun t => (t.readR 10#5).toNat = 0xFFFFFFFFFFFFFFFF) = true := by
  decide

theorem test_rdpr :
    holdsAfter (.rdpr 1#5 .tt) user
      (fun t => t.trapEntry.tt.toNat = 17) = true := by
  decide

theorem test_movle :
    holdsAfter (.movle 0x1B#5 .xcc (.imm 0#11)) { setR (base) 27#5 0x1#64 with ccr := 136#8 }
      (fun t => (t.readR 27#5).toNat = 0) = true := by
  decide

theorem test_movrnz :
    holdsAfter (.movrnz 0x1E#5 0x1A#5 (.reg 0x1C#5)) (setR (setR (setR (base) 26#5 0x0#64) 28#5 0xaa#64) 30#5 0x7#64)
      (fun t => (t.readR 30#5).toNat = 7) = true := by
  decide

theorem test_wrccr :
    holdsAfter (.wrccr 8#5 (.imm 0xFF#13)) (setR (base) 8#5 0xf#64)
      (fun t => t.ccr.toNat = 240) = true := by
  decide

theorem test_wrasi :
    holdsAfter (.wrasi 0#5 (.imm 0x88#13)) base
      (fun t => t.asi.toNat = 136) = true := by
  decide

theorem test_saved :
    holdsAfter .saved { base with win := { base.win with cansave := 0#3, canrestore := 4#3, otherwin := 2#3 } }
      (fun t => t.win.cansave.toNat = 1 ∧ t.win.canrestore.toNat = 4 ∧ t.win.otherwin.toNat = 1) = true := by
  decide

theorem test_restored :
    holdsAfter .restored { base with win := { base.win with cansave := 6#3, canrestore := 0#3, cleanwin := 3#3 } }
      (fun t => t.win.cansave.toNat = 5 ∧ t.win.canrestore.toNat = 1 ∧ t.win.otherwin.toNat = 0 ∧ t.win.cleanwin.toNat = 4) = true := by
  decide

theorem test_allclean :
    holdsAfter .allclean base
      (fun t => t.trapEntry.tt.toNat = 16) = true := by
  decide

theorem test_wrpr :
    holdsAfter (.wrpr .cansave 0#5 (.imm 0#13)) base
      (fun t => t.win.cansave.toNat = 0) = true := by
  decide

theorem test_wrhpr :
    holdsAfter (.wrhpr .hpstate 0#5 (.imm 4#13)) priv
      (fun t => t.trapEntry.tt.toNat = 16) = true := by
  decide

theorem test_fadds :
    holdsAfter (.fadds 2#5 0#5 1#5) (setFS (setFS (setFS ({ base with fsr := { base.fsr with rd := 0#2, tem := 1#5 } }) 0#5 0x7f7fffff#32) 1#5 0x7f7fffff#32) 2#5 0x12345678#32)
      (fun t => t.trapEntry.tt.toNat = 33 ∧ t.fsr.cexc.toNat = 1 ∧ (t.readFS 2#5).toNat = 0x12345678 ∧ t.fsr.ftt.toNat = 1) = true := by
  decide

theorem test_faddd :
    holdsAfter (.faddd 4#5 0#5 2#5) (setFD (setFD ({ base with fsr := { base.fsr with rd := 0#2 } }) 0#5 0x3FF0000000000000#64) 2#5 0x3CB0000000000000#64)
      (fun t => (t.readFD 4#5).toNat = 0x3FF0000000000001 ∧ t.fsr.cexc.toNat = 0) = true := by
  decide

theorem test_fsubs :
    holdsAfter (.fsubs 2#5 0#5 1#5) (setFS (setFS (setFS ({ base with fsr := { base.fsr with rd := 0#2, tem := 16#5 } }) 0#5 0x7f800000#32) 1#5 0x7f800000#32) 2#5 0x12345678#32)
      (fun t => t.trapEntry.tt.toNat = 33 ∧ t.fsr.cexc.toNat = 16 ∧ (t.readFS 2#5).toNat = 0x12345678 ∧ t.fsr.ftt.toNat = 1) = true := by
  decide

theorem test_fmuls :
    holdsAfter (.fmuls 2#5 0#5 1#5) (setFS (setFS (setFS ({ base with fsr := { base.fsr with rd := 0#2, tem := 4#5 } }) 0#5 0x800001#32) 1#5 0x3f000000#32) 2#5 0x12345678#32)
      (fun t => t.trapEntry.tt.toNat = 33 ∧ t.fsr.cexc.toNat = 4 ∧ (t.readFS 2#5).toNat = 0x12345678 ∧ t.fsr.ftt.toNat = 1) = true := by
  decide

theorem test_fdivs :
    holdsAfter (.fdivs 2#5 0#5 1#5) (setFS (setFS (setFS ({ base with fsr := { base.fsr with rd := 0#2, tem := 2#5 } }) 0#5 0x3f800000#32) 1#5 0x0#32) 2#5 0x12345678#32)
      (fun t => t.trapEntry.tt.toNat = 33 ∧ t.fsr.cexc.toNat = 2 ∧ (t.readFS 2#5).toNat = 0x12345678 ∧ t.fsr.ftt.toNat = 1) = true := by
  decide

theorem test_fdivd :
    holdsAfter (.fdivd 4#5 0#5 2#5) (setFD (setFD ({ base with fsr := { base.fsr with rd := 2#2 } }) 0#5 0x3FF0000000000000#64) 2#5 0x4008000000000000#64)
      (fun t => (t.readFD 4#5).toNat = 0x3FD5555555555556 ∧ t.fsr.cexc.toNat = 1) = true := by
  decide

theorem test_fmovdfcc :
    holdsAfter (.fmovdfcc 4#5 3#2 0xD#4 6#5) (setFD ({ base with fsr := { base.fsr with fcc3 := 3#2 } }) 4#5 0x3FF07AE147AE147B#64)
      (fun t => (t.readFD 4#5).toNat = 0x3FF07AE147AE147B) = true := by
  decide

theorem test_fcmps :
    holdsAfter (.fcmps 0#2 0#5 1#5) (setFS (setFS (base) 0#5 0xff800000#32) 1#5 0xff800000#32)
      (fun t => t.fsr.fcc0.toNat = 0 ∧ t.fsr.cexc.toNat = 0) = true := by
  decide

theorem test_fcmpd :
    holdsAfter (.fcmpd 3#2 0#5 2#5) (setFD (setFD (base) 0#5 0x7FF8000000000000#64) 2#5 0x4000000000000000#64)
      (fun t => t.fsr.fcc3.toNat = 3 ∧ t.fsr.fcc0.toNat = 0) = true := by
  decide

theorem test_edge8cc :
    holdsAfter (.edge8cc 0xA#5 8#5 9#5) { { setR (setR (base) 8#5 0x1007#64) 9#5 0x1000#64 with pstate := { base.pstate with am := false } } with fprs := { base.fprs with fef := true } }
      (fun t => (t.readR 10#5).toNat = 0) = true := by
  decide

theorem test_edge8n :
    holdsAfter (.edge8n 0xA#5 8#5 9#5) { setR (setR (base) 8#5 0x1007#64) 9#5 0x1000#64 with pstate := { base.pstate with am := false } }
      (fun t => (t.readR 10#5).toNat = 0 ∧ t.ccr.toNat = 0) = true := by
  decide

theorem test_alignaddress :
    holdsAfter (.alignaddress 8#5 8#5 9#5) (setR (base) 8#5 0x1003#64)
      (fun t => (t.readR 8#5).toNat = 4096 ∧ t.gsr.align.toNat = 3) = true := by
  decide

theorem test_fmul8sux16 :
    holdsAfter (.fmul8sux16 4#5 0#5 2#5) { base with fprs := { base.fprs with fef := false } }
      (fun t => t.trapEntry.tt.toNat = 16) = true := by
  decide

/-- The results that 46_vis.md R906 to R915 and R920 print for their examples. -/
theorem test_packed_results :
    multiplyBytes 0x80FF0102#32 (fun k => ((0x0100FFFF7FFF8000#64).extractLsb' (16 * k) 16).toInt) = 0x0080FFFF0080FF00#64 ∧
    multiplyBytes 0x80FF0102#32 (fun _ => 256) = 0x008000FF00010002#64 ∧
    multiplyBytes 0x80FF0102#32 (fun _ => -256) = 0xFF80FF01FFFFFFFE#64 ∧
    multiplyUpper 0x1234FF80800000FF#64 0x010040007FFFFFFF#64 = 0x0012FFC0C0010000#64 ∧
    multiplyLower 0x1234FF80800000FF#64 0x010040007FFFFFFF#64 = 0x0000002000000000#64 ∧
    multiplyUpperWide 0x1234FF80#32 0x01004000#32 = 0x00120000FFC00000#64 ∧
    multiplyLowerWide 0x1234FF80#32 0x01004000#32 = 0x0000340000200000#64 ∧
    pack16 3#5 0x0100FFFF7FFF0010#64 = 0x1000FF01#32 ∧ pack16 23#5 0x0100FFFF7FFF0010#64 = 0xFF00FF10#32 ∧
    pack32 8#5 0x00000011000000AA#64 0x00400000FF000000#64 = 0x000011800000AA00#64 ∧
    packFix 4#5 0x0001800080000000#64 = 0x00188000#32 ∧ packFix 16#5 0x0001800080000000#64 = 0x7FFF8000#32 ∧
    mergeBytes 0x11223344#32 0xAABBCCDD#32 = 0x11AA22BB33CC44DD#64 := by
  decide

theorem test_faligndata :
    holdsAfter (.faligndata 4#5 0#5 2#5) (setFD (setFD ({ base with gsr := { base.gsr with align := 0#3 } }) 0#5 0x11223344556677#64) 2#5 0x8899AABBCCDDEEFF#64)
      (fun t => (t.readFD 4#5).toNat = 0x11223344556677) = true := by
  decide

theorem test_fpadd16 :
    holdsAfter (.fpadd16 8#5 4#5 6#5) (setFD (setFD (base) 4#5 0x12FFC0C0010000#64) 6#5 0x2000000000#64)
      (fun t => (t.readFD 8#5).toNat = 0x12FFE0C0010000) = true := by
  decide

theorem test_fpadd32 :
    holdsAfter (.fpadd32 6#5 2#5 4#5) (setFD (setFD (base) 2#5 0x120000FFC00000#64) 4#5 0x340000200000#64)
      (fun t => (t.readFD 6#5).toNat = 0x123400FFE00000) = true := by
  decide

theorem test_ta :
    holdsAfter (.ta .icc 0#5 (.imm 0xFF#8)) priv
      (fun t => t.trapEntry.tt.toNat = 511 ∧ t.hpstate.hpriv.toNat = 1 ∧ t.pc.toNat = 0x83FE0) = true := by
  decide

theorem test_done :
    holdsAfter .done priv
      (fun t => t.trapEntry.tt.toNat = 16) = true := by
  decide

theorem test_ldub :
    holdsAfter (.ldub 0xA#5 8#5 (.imm 3#13)) (setR bytes 8#5 0x1000#64)
      (fun t => (t.readR 10#5).toNat = 51) = true := by
  decide

theorem test_lduh :
    holdsAfter (.lduh 0xD#5 8#5 (.imm 1#13)) (setR bytes 8#5 0x1000#64)
      (fun t => t.trapEntry.tt.toNat = 52) = true := by
  decide

theorem test_ldtw :
    holdsAfter (.ldtw 0xA#5 8#5 (.imm 0#13)) (setR bytes 8#5 0x1000#64)
      (fun t => (t.readR 11#5).toNat = 0x44556677) = true := by
  decide

theorem test_stw :
    holdsAfter (.stw 9#5 8#5 (.imm 0#13)) { setR (setR bytes 8#5 0x1000#64) 9#5 0xAABBCCDD11223344#64 with pstate := { bytes.pstate with cle := true } }
      (fun t => (Memory.read t.mem 4096).toNat = 68 ∧ (Memory.read t.mem 4097).toNat = 51 ∧ (Memory.read t.mem 4098).toNat = 34 ∧ (Memory.read t.mem 4099).toNat = 17) = true := by
  decide

theorem test_ldsb :
    holdsAfter (.ldsb 0xD#5 8#5 (.imm 0xF#13)) (setR bytes 8#5 0x1000#64)
      (fun t => (t.readR 13#5).toNat = 0xFFFFFFFFFFFFFFFF) = true := by
  decide

theorem test_ldsh :
    holdsAfter (.ldsh 0xC#5 8#5 (.imm 0xA#13)) (setR bytes 8#5 0x1000#64)
      (fun t => (t.readR 12#5).toNat = 0xFFFFFFFFFFFFAABB) = true := by
  decide

theorem test_ldx :
    holdsAfter (.ldx 9#5 8#5 (.imm 0#13)) { setR bytes 8#5 0x1000#64 with pstate := { bytes.pstate with cle := true } }
      (fun t => (t.readR 9#5).toNat = 0x7766554433221100) = true := by
  decide

theorem test_ldstub :
    holdsAfter (.ldstub 0xA#5 8#5 (.imm 0#13)) (setR bytes 8#5 0x1000#64)
      (fun t => (t.readR 10#5).toNat = 0 ∧ (Memory.read t.mem 4096).toNat = 255) = true := by
  decide

theorem test_stx :
    holdsAfter (.stx 0xA#5 8#5 (.imm 8#13)) (setR (setR bytes 8#5 0x1000#64) 10#5 0x0102030405060708#64)
      (fun t => (Memory.read t.mem 4104).toNat = 1 ∧ (Memory.read t.mem 4105).toNat = 2 ∧ (Memory.read t.mem 4106).toNat = 3 ∧ (Memory.read t.mem 4107).toNat = 4) = true := by
  decide

theorem test_ldf :
    holdsAfter (.ldf 0#5 8#5 (.imm 0#13)) { setR bytes 8#5 0x1000#64 with fprs := { bytes.fprs with fef := false } }
      (fun t => t.trapEntry.tt.toNat = 32 ∧ (t.readFS 0#5).toNat = 0 ∧ t.fprs.dl.toNat = 1) = true := by
  decide

theorem test_lddf :
    holdsAfter (.lddf 2#5 8#5 (.imm 2#13)) (setR bytes 8#5 0x1000#64)
      (fun t => t.trapEntry.tt.toNat = 52) = true := by
  decide

theorem test_stf :
    holdsAfter (.stf 4#5 8#5 (.imm 8#13)) (setFS (setR bytes 8#5 0x1000#64) 4#5 0xE#32)
      (fun t => (Memory.read t.mem 4104).toNat = 0 ∧ (Memory.read t.mem 4107).toNat = 14 ∧ (Memory.read t.mem 4108).toNat = 204) = true := by
  decide

theorem test_lduwa :
    holdsAfter (.lduwa 0xB#5 8#5 (.reg 4#8 1#5)) (setR (setR user 8#5 0x1000#64) 1#5 2#64)
      (fun t => t.trapEntry.tt.toNat = 52) = true := by
  decide

/-- An equal and an unequal word at the mapped page (42_loadstore.md, CASA and CASXA). -/
theorem test_casa :
    holdsAfter (.casa 11#5 9#5 (.immAsi 0x80#8) 10#5)
      (setR (setR { mapped with mem := [(0x42003, 7#8)] } 10#5 0xFF00000007#64) 11#5 0x500000055#64)
      (fun t => t.readR 11#5 = 7#64 ∧ t.mem = [(0x42003, 0x55#8)]) = true := by
  decide

theorem test_casxa :
    holdsAfter (.casxa 11#5 9#5 (.immAsi 0x80#8) 10#5)
      (setR (setR { mapped with mem := [(0x42003, 7#8)] } 10#5 0xFF00000007#64) 11#5 0x55#64)
      (fun t => t.readR 11#5 = 0x700000000#64 ∧ t.mem = [(0x42003, 7#8)]) = true := by
  decide

/-- The step fetches, decodes and runs the word at pc; at reset that is at RSTVADDR + 0x20. -/
theorem test_step_add :
    (match step (base.withFetchWord 32 0x86004002) with
      | .next t => decide (t.pc = 0x1004#64 ∧ t.tl = 0)
      | _ => false) = true := by
  decide

/-! ## One witness for each statement that has hypotheses (Certificates/Slice0/Obligations.lean)

Each theorem gives a concrete state and operands that meet all hypotheses of a clause together, at a boundary where the
clause has a range. -/

theorem witness_DecodeOfEncode :
    (Instr.ldtxa 2#5 3#5 0x22#8 4#5).wellFormed = true ∧ (Instr.sethi 0#5 1#22).wellFormed = true ∧
    (Instr.ldtw 30#5 1#5 (.imm 0x1FFF#13)).wellFormed = true ∧ (Instr.prefetch 4#5 0#5 (.reg 31#5)).wellFormed = true := by
  decide

theorem witness_EncodeOfDecode : decode 0xD6C41A1F#32 = .ok (.ldswa 11#5 16#5 (.reg 0xD0#8 31#5)) := by decide

theorem witness_StepRunsTheDecodedInstruction :
    let s := base.withFetchWord 32 0x86004002
    beforeFetch s.count = none ∧ fetchAddress s.count = .word 0x1000 ∧
      decode (fetchWord s.mem 0x1000) = .ok (.add 3#5 1#5 (.reg 2#5)) := by
  decide

theorem witness_UndecodableWordTraps :
    let s := base.withFetchWord 32 0x86004022
    let u := base.withFetchWord 32 0x81A00000
    let v := fpOff.withFetchWord 32 0x81A00000
    (beforeFetch s.count = none ∧ fetchAddress s.count = .word 0x1000 ∧
      decode (fetchWord s.mem 0x1000) = .error .illegalInstruction) ∧
    (beforeFetch u.count = none ∧ fetchAddress u.count = .word 0x1000 ∧
      decode (fetchWord u.mem 0x1000) = .error .unimplementedFPop ∧ u.fpEnabled = true) ∧
    (beforeFetch v.count = none ∧ fetchAddress v.count = .word 0x1000 ∧
      decode (fetchWord v.mem 0x1000) = .error .unimplementedFPop ∧ v.fpEnabled = false) ∧
    (∀ s ∈ [base, fpOff],
      let w := s.withFetchWord 32 0x87AA3842
      beforeFetch w.count = none ∧ fetchAddress w.count = .word 0x1000 ∧
        decode (fetchWord w.mem 0x1000) = .error (.unimplementedFMove true 3#5) ∧ w.fpEnabled = s.fprs.fef) := by
  decide

theorem witness_EveryStepCompletes :
    tlbDisjoint mapped.mmu.itlb ∧ tlbDisjoint mapped.mmu.dtlb ∧ mapped.mmu.dtlb ≠ [] ∧
    (mapped.tlbInsert .dtlb { page with vpn := 0x4000#64 }).isSome = true ∧ (mapped.tlbInsert .itlb page).isSome = true := by
  decide

theorem witness_PowerOnResetValues :
    { base with requests := { base.requests with por := true } }.requests.por = true ∧
    ({ base.requests with por := true, xir := true } : HostRequests).por = true := ⟨rfl, rfl⟩

/-- PCR reads back all but its unused bits (93_implementation_defined.md U34). -/
theorem test_pcr_bits : (Pcr.ofBits 0xFFFFFFFFFFFFFFFF#64).bits = 0x0000FFFF07FFFBFF#64 := by decide

/-- With PSTATE.am = 1 JMPL leaves npc whole (11_state_privileged.md R185). -/
theorem test_jmpl_npc_whole :
    holdsAfter (.jmpl 0#5 1#5 (.imm 4#13))
      { base.writeR 1#5 0x300001000#64 with pstate := { base.pstate with am := true } }
      (fun t => t.npc = 0x300001004#64) = true := by
  decide

/-- A WMR asked for beside a pending XIR leaves both pending (70_reset_and_hazards.md R1250, log 3). -/
theorem test_request_joins :
    let s := { base with requests := { base.requests with xir := true } }
    (s.hostRequest { base.requests with wmr := true }).requests = { base.requests with wmr := true, xir := true } := by
  decide

/-- With one strand a store to XIR_STEERING is ignored, and the register reads 1 (61_interrupts_cmt.md R1240). -/
theorem test_xir_steering_fixed :
    holdsAfter (.stxa 0#5 1#5 (.reg 0x41#8 0#5)) (base.writeR 1#5 0x30#64)
      (fun t => t.xirSteering = 1#64 ∧ t.pc = base.npc) = true := by
  decide

/-- An internal_processor_error ranked among the exceptions of an instruction: taken when nothing came before it, pending again when
an exception did (62_exception_list.md R1126). -/
theorem test_late_ipe :
    let s := { base with requests := { base.requests with internalProcessorError := true } }
    s.settleIpe (.next s.advance) = .next s.takeIpe ∧
    s.settleIpe (.next (takeTrap .instructionAccessException base)) = .next (takeTrap .instructionAccessException s) :=
  ⟨rfl, rfl⟩

/-- FD[2] is F[2] :: F[3]; the field 00001 names FD[32], F[32] :: F[33] (10_state.md R71, R72). -/
theorem test_double_storage :
    let s := { base with fregs := ((base.fregs.set 2 1#32).set 3 2#32).set 33 3#32 }
    s.readFD 2#5 = 0x100000002#64 ∧ s.readFD 1#5 = 3#64 ∧ s.readFS 3#5 = 2#32 := by
  decide

theorem witness_StepKeepsGood :
    base.Good ∧ ∃ t, step (base.withFetchWord 32 0x86004002) = .next t :=
  ⟨⟨by decide, by decide, by decide, by decide, by decide⟩, _, rfl⟩

theorem witness_LowerModesAreConfined :
    (user.isUser = true ∧ holdsAfter (.wry 0#5 (.imm 1#13)) user (fun t => t.isUser) = true) ∧
    (priv.mode = .privileged ∧ holdsAfter (.wrpr .tl 0#5 (.imm 1#13)) priv (fun t => !t.hpstate.hpriv) = true) ∧
    (let s := { priv with traps := priv.traps.set 0 { priv.trapEntry with htstate := 1#11 } };
      s.mode = .privileged ∧
        holdsAfter (.ta .icc 0#5 (.imm 0#8)) s
          (fun t => !t.hpstate.hpriv && decide ((t.traps.get 0).htstate ≠ (s.traps.get 0).htstate)) = true ∧
        holdsAfter .done { s with tl := 1 } (fun t => !t.hpstate.hpriv && decide (t.hpstate ≠ s.hpstate)) = true) := by
  decide

theorem witness_MemoryFrame :
    ((Instr.add 3#5 1#5 (.reg 2#5)).storeAccess base = none ∧ holdsAfter (.add 3#5 1#5 (.reg 2#5)) base (fun _ => true)) ∧
    (dataAccess at1000 (plainAccess at1000 .store 8#5 (.imm 0#13) 8) = .memory 0x1000 false ∧
      holdsAfter (.stx 9#5 8#5 (.imm 0#13)) at1000 (fun _ => true)) ∧
    (dataAccess at1000 (plainAccess at1000 .store 8#5 (.imm 1#13) 8) = .trap .memAddressNotAligned ∧
      holdsAfter (.stx 9#5 8#5 (.imm 1#13)) at1000 (fun _ => true)) := by
  decide

theorem witness_GeneralRegisterFrame :
    holdsAfter (.add 7#5 0#5 (.imm 1#13)) base (fun t => t.globals.get 6 ≠ base.globals.get 6) ∧
    holdsAfter (.add 8#5 0#5 (.imm 1#13)) base (fun t => t.windows.get 48 ≠ base.windows.get 48) := by
  decide

theorem witness_SpecialRegisterFrame :
    ((Instr.add 3#5 1#5 (.reg 2#5)).writesCcr = false ∧ holdsAfter (.add 3#5 1#5 (.reg 2#5)) base (fun _ => true)) ∧
    holdsAfter (.wrasi 0#5 (.imm 1#13)) base (fun t => t.asi ≠ base.asi) ∧
    holdsAfter (.wrpr .tba 0#5 (.imm 0x1000#13)) base (fun t => t.tba ≠ base.tba) ∧
    holdsAfter (.wrhpr .hintp 0#5 (.imm 1#13)) base (fun t => t.hsp ≠ base.hsp) ∧
    holdsAfter (.fone 1#5) base (fun t => t.fregs.get 32 ≠ base.fregs.get 32 ∧ t.fprs.du ≠ base.fprs.du) ∧
    holdsAfter (.wrfprs 0#5 (.imm 1#13)) base (fun t => t.fprs.fef ≠ base.fprs.fef ∧ t.fprs.dl ≠ base.fprs.dl) ∧
    holdsAfter (.save 1#5 0#5 (.imm 0#13)) base (fun t => t.win.cwp ≠ base.win.cwp ∧ t.win.cansave ≠ base.win.cansave ∧
      t.win.canrestore ≠ base.win.canrestore) ∧
    holdsAfter (.wrpr .otherwin 0#5 (.imm 1#13)) base (fun t => t.win.otherwin ≠ base.win.otherwin) ∧
    holdsAfter (.wrpr .cleanwin 0#5 (.imm 1#13)) base (fun t => t.win.cleanwin ≠ base.win.cleanwin) ∧
    holdsAfter (.wrpr .wstate 0#5 (.imm 8#13)) base (fun t => t.win.wstateOther ≠ base.win.wstateOther) ∧
    holdsAfter (.illtrap 0#5 0#22) user (fun t => t.traps ≠ user.traps ∧ t.gl ≠ user.gl ∧ t.hpstate ≠ user.hpstate) ∧
    holdsAfter (.wrpr .tl 0#5 (.imm 0#13)) { base with tl := 1 } (fun t => t.tl < 1) ∧
    holdsAfter (.wrpr .pstate 0#5 (.imm 0#13)) base (fun t => t.pstate ≠ base.pstate) ∧
    holdsAfter (.illtrap 0#5 0#22) { base with tl := 6 } (fun t => t.errorState ≠ none) ∧
    holdsAfter (.stxa 0#5 0#5 (.reg 0x63#8 0#5)) { base with strandIntrId := 1#16 } (fun t => t.strandIntrId ≠ 1#16) ∧
    holdsAfter (.illtrap 0#5 0#22) { base with tl := 5, mmu := { base.mmu with dmmuEnable := true } }
      (fun t => t.mmu.dmmuEnable = false) ∧
    holdsAfter (.ldx 1#5 8#5 (.imm 4#13)) at1000 (fun t => t.mmu.dsfar = 0x1004#64 ∧ t.mmu.dtagAccess = 0#64) ∧
    holdsAfter (.stb 1#5 9#5 (.imm 0#13)) (mapped.writeR 9#5 0x4000#64) (fun t => t.mmu.dtagAccess = 0x4005#64) ∧
    holdsAfter (.stxa 9#5 8#5 (.reg 0x58#8 0#5)) (setR (setR base 8#5 0x30#64) 9#5 0x6000#64)
      (fun t => t.mmu.dtagAccess = 0x6000#64 ∧ t.mmu.dsfar = base.mmu.dsfar) := by
  decide

theorem witness_WindowsOverlap : (3#3 ≠ base.win.cwp) ∧ (1#5).toNat < 8 ∧ (3 : Fin 4) ≠ base.gl := by decide

theorem witness_StoreThenLoad : Memory.wf [(4, 1#8)] ∧ Memory.wf [] ∧ 0 ≤ 8 ∧ 8 ≤ 8 := by decide

theorem witness_TrapToPrivilegedMode :
    ∀ s ∈ [user, { user with tl := 1 }],
      s.hpstate.red = false ∧ s.hpstate.hpriv = false ∧ s.tl.val < 2 ∧ Exc.privilegedRow .tagOverflow = true := by
  decide

theorem witness_TrapToHyperprivilegedMode :
    (user.hpstate.red = false ∧ user.tl.val < 5 ∧ Exc.privilegedRow .illegalInstruction = false) ∧
    (base.hpstate.red = false ∧ ({ base with tl := 4 } : State).tl.val < 5 ∧ base.hpstate.hpriv = true) ∧
    (({ user with tl := 2 } : State).tl.val < 5 ∧ 2 ≤ ({ user with tl := 2 } : State).tl.val) ∧
    trapTable.any (fun r => r.privileged) = true ∧ trapTable.any (fun r => !r.privileged) = true := by
  decide

theorem witness_EntriesIntoRedState :
    (({ base with tl := 5 } : State).tl.val < 6 ∧ ({ base with tl := 5 } : State).tl.val = 5) ∧
    (red.tl.val < 6 ∧ red.hpstate.red = true) ∧ user.hpstate.hpriv = false ∧
    (base.hpstate.hpriv = true ∧ base.tl ≠ 6) ∧ ({ base with tl := 6 } : State).tl = 6 ∧
    (∀ r ∈ [{ base.requests with wmr := true, xir := true }, { base.requests with xir := true }],
      ({ base with requests := r } : State).requests.por = false ∧
        (r.wmr = true ∨ ({ base with requests := r } : State).requests.xir = true)) := by
  decide

theorem witness_ErrorStateThenWatchdogReset :
    ({ base with tl := 6 } : State).tl = 6 ∧
    ({ base with errorState := some 0x010#9 } : State).errorState = some 0x010#9 ∧ base.requests.por = false ∧
    base.requests.wmr = false ∧ base.requests.xir = false := by
  decide

theorem witness_WindowTrapsMoveCwp : base.tl.val < 6 ∧ ({ base with tl := 5 } : State).tl.val < 6 := by decide

theorem witness_RetryUndoesTheTrap :
    ∀ s ∈ [user, { priv with tl := 1, gl := 2 }, { base with tl := 4, gl := 2 }],
      s.tl.val < 5 ∧ s.hpstate.red = false ∧ s.pstate.am = false ∧ s.gl.val ≤ 2 := by
  decide

theorem witness_DoneAndRetry :
    user.isUser = true ∧ (priv.isUser = false ∧ priv.tl = 0) ∧
    (({ priv with tl := 1 } : State).isUser = false ∧ ({ priv with tl := 1 } : State).tl ≠ 0) := by
  decide

/-- A level just above PIL; level 14 through TM; nothing pending; closed by ie. -/
theorem witness_TimersInterruptsAndFetch :
    let open1 := { user with pstate := { user.pstate with ie := true }, softint := 0x0002#17 }
    let tm := { user with tickCmpr := { intDis := false, value := 1#63 }, pil := 13#4 }
    (user.requests = base.requests ∧ base.requests.por = false ∧ base.requests.wmr = false ∧ base.requests.xir = false ∧
      base.errorState = none ∧ base.requests.storeError = false ∧ base.requests.internalProcessorError = false) ∧
    (tm.count.softint.getLsbD 0 = true ∧ tm.pil.toNat < 14 ∧ levelPending tm.count.softint 14 ∧
      ¬levelPending tm.count.softint 15) ∧
    (open1.pil.toNat < 1 ∧ levelPending open1.count.softint 1 ∧
      ∀ k ≤ 15, open1.pil.toNat < k → levelPending open1.count.softint k → k ≤ 1) ∧
    (user.hpstate.hpriv = false ∧ user.tl = 0 ∧ open1.pstate.ie = true ∧ user.queues.cpuMondoHead = user.queues.cpuMondoTail) ∧
    (beforeFetch base.count = none ∧ base.hpstate.hpriv = true) ∧
    (let s := { mapped with mmu := { mapped.mmu with immuEnable := true } };
      beforeFetch s.count = none ∧ tlbLookup s.mmu.itlb s.mmu (.virtualIn .primary) s.pc = .miss ∧
        ∀ e ∈ [page, { page with data := page.data ||| 0x80#64 }],
          let u := { s with mmu := { s.mmu with itlb := [e] }, pc := 0x2000#64 };
          beforeFetch u.count = none ∧ tlbLookup u.mmu.itlb u.mmu (.virtualIn .primary) u.pc = .hit e ∧
            TlbEntry.size e = 0#4) ∧
    page.data.getLsbD 7 = false := by
  decide

/-- A step takes an injected error before trap_level_zero, and a mondo before a level. -/
theorem test_step_order :
    let s := { user with hpstate := { user.hpstate with tlz := true } }
    let u := { user with
      pstate := { user.pstate with ie := true }, softint := 2#17, queues := { user.queues with devMondoTail := 64#64 } }
    beforeFetch { s with requests := { s.requests with internalProcessorError := true } } =
      some (takeTrap .internalProcessorError s) ∧
    beforeFetch s = some (takeTrap .trapLevelZero s) ∧ beforeFetch u = some (takeTrap .devMondo u) := by
  decide

/-- A tag overflow by a tag, by the sum and by the difference; none at the last value that fits. -/
theorem witness_AdditionAndSubtraction :
    tagOverflows 1#64 4#64 5 = true ∧ tagOverflows 0x7FFFFFFC#64 4#64 (0x7FFFFFFC + 4) = true ∧
    tagOverflows 0x80000000#64 4#64 (-(2 ^ 31) - 4) = true ∧ tagOverflows 0x7FFFFFF8#64 4#64 (0x7FFFFFF8 + 4) = false := by
  decide

/-- A divisor whose low word alone is zero divides in 64 bits and traps in 32. -/
theorem witness_Division :
    (0x100000000#64 ≠ 0#64 ∧ (0x100000000#64).toNat % 2 ^ 32 = 0) ∧ (1#64).toNat % 2 ^ 32 ≠ 0 ∧
    op2Value base (.imm 0#13) = 0#64 := by
  decide

theorem witness_SethiAndHints :
    ∀ f ∈ [0#5, 4#5, 16#5, 31#5], f.toNat ≤ 4 ∨ 16 ≤ f.toNat := by decide

theorem witness_ConditionalMoves :
    (integerConditions.any fun r => r.holds base .icc) = true ∧ (integerConditions.any fun r => !r.holds base .xcc) = true ∧
    (base.fpEnabled = true ∧ fpConditions.any (fun r => fccValue base 0#2 ∈ r.accepts) = true ∧
      fpConditions.any (fun r => fccValue base 0#2 ∉ r.accepts) = true) ∧ fpOff.fpEnabled = false ∧
    registerConditions.any (fun r => r.test 0) = true ∧ registerConditions.any (fun r => !r.test 0) = true := by
  decide

theorem witness_Branches : base.fpEnabled = true ∧ fpOff.fpEnabled = false ∧ fpConditions ≠ [] := by
  refine ⟨by decide, by decide, List.cons_ne_nil _ _⟩

theorem witness_CallsJumpsAndReturns :
    (at1000.readR 8#5 + op2Value at1000 (.imm 4#13)).toNat % 4 = 0 ∧
    (at1000.readR 8#5 + op2Value at1000 (.imm 3#13)).toNat % 4 ≠ 0 ∧ at1000.win.canrestore ≠ 0#3 ∧
    ({ at1000 with win := { at1000.win with canrestore := 0#3 } } : State).win.canrestore = 0#3 := by
  decide

/-- In privileged mode the greatest number of a trap_instruction and the least of an htrap_instruction. -/
theorem witness_TrapOnCondition :
    user.mode = .nonprivileged ∧ priv.mode = .privileged ∧ base.mode = .hyperprivileged ∧
    (0 + (127#8).toNat) % 256 < 128 ∧ 128 ≤ (0 + (128#8).toNat) % 256 ∧
    (integerConditions.any fun r => r.holds base .icc) = true := by
  decide

theorem witness_SaveAndRestore :
    (base.win.cansave ≠ 0#3 ∧ base.win.cleanwin ≠ base.win.canrestore) ∧ base.win.canrestore ≠ 0#3 ∧
    noWindows.win.cansave = 0#3 ∧ noWindows.win.canrestore = 0#3 ∧
    (let s := { base with win := { base.win with cleanwin := 3#3 } };
      s.win.cansave ≠ 0#3 ∧ s.win.cleanwin = s.win.canrestore) ∧
    ({ base with win := { base.win with cansave := 6#3 } } : State).win.cansave = 6#3 ∧ base.win.cansave ≠ 6#3 ∧
    user.isUser = true ∧ base.isUser = false ∧ base.win.otherwin = 0#3 ∧ noWindows.win.otherwin ≠ 0#3 := by
  decide

theorem witness_AncillaryReads :
    base.isUser = false ∧ ({ user with tick := { npt := false, counter := 0#63 } } : State).tick.npt = false ∧
    user.pcr.priv = false ∧ base.fpEnabled = true := by
  decide

theorem witness_AncillaryWrites :
    base.isUser = false ∧ user.pcr.priv = false ∧ base.fpEnabled = true ∧ base.hpstate.hpriv = true := by decide

theorem witness_PrivilegedRegisterWriteRead :
    (priv.isUser = false ∧ (priv.tl = 0 → PrivReg.gl ∉ [PrivReg.tpc, .tnpc, .tstate, .tt])) ∧
    (let s := { base with tl := 1 };
      s.isUser = false ∧ (s.tl = 0 → PrivReg.tpc ∉ [PrivReg.tpc, .tnpc, .tstate, .tt]) ∧ s.hpstate.hpriv = true ∧
      (HyperReg.htstate = .htstate → s.tl ≠ 0) ∧ (0 : Fin 6).val + 1 = s.tl.val) ∧
    (5 : Fin 6).val + 1 = ({ base with tl := 6 } : State).tl.val ∧ priv.hpstate.hpriv = false := by
  decide

theorem witness_ForbiddenStateRegisterAccesses :
    (user.isUser = true ∧ user.tick.npt = true ∧ user.stick.npt = true ∧
      ({ user with pcr := { user.pcr with priv := true } } : State).pcr.priv = true) ∧ user.hpstate.hpriv = false ∧
    (priv.isUser = false ∧ priv.tl = 0 ∧ priv.mode = .privileged) ∧ fpOff.fpEnabled = false ∧
    (base.hpstate.hpriv = true ∧ base.tl = 0) := by
  decide

/-- An entry that matches by each kind of address and context, and no match; a physical access at the top of the address
space, a translated one, each exception. -/
theorem witness_ImplicitAccess :
    (let m := { mapped.mmu with secondaryContext := 6#16 };
      (∀ k ∈ [(AddrKind.virtualIn .primary, page), (.virtualIn .secondary, { page with ctx := 6#16 }),
          (.virtualIn .nucleus, { page with ctx := 0#16 }), (.real, { page with real := true })],
        tlbLookup [k.2] m k.1 0x3FFF#64 = .hit k.2 ∧ tlbLookup [k.2] m k.1 0x4000#64 = .miss) ∧
      tlbLookup [page] m (.virtualIn .secondary) 0x2000#64 = .miss ∧
      tlbLookup [{ page with pid := 1#8 }] m (.virtualIn .primary) 0x2000#64 = .miss) ∧
    (base.hpstate.hpriv = true ∧ (0xFFFFFFFFFFFFFFF8#64).toNat % 8 = 0 ∧ base.requests.dataAccessError = false) ∧
    (mapped.hpstate.hpriv = false ∧ mapped.hpstate.red = false ∧ mapped.mmu.dmmuEnable = true ∧
      mapped.pstate.am = false ∧ tlbLookup mapped.mmu.dtlb mapped.mmu (.virtualIn .primary) 0x2008#64 = .hit page ∧
      page.privilegedPage = false ∧ page.nfo = false ∧ page.cacheable = true ∧ page.writable = true ∧
      TlbEntry.size page = 0#4) ∧
    (0x2004#64).toNat % 8 = 4 ∧ (0x2001#64).toNat % 4 ≠ 0 ∧
    tlbLookup mapped.mmu.dtlb mapped.mmu (.virtualIn .primary) 0x4000#64 = .miss ∧
    (let system := { page with data := page.data ||| 0x100#64 };
      tlbLookup [system] mapped.mmu (.virtualIn .primary) 0x3FF8#64 = .hit system ∧ system.data.getLsbD 8 = true ∧
        mapped.pstate.priv = false) ∧
    (let fixed := { page with data := 0x8000000000042000#64 };
      tlbLookup [fixed] mapped.mmu (.virtualIn .primary) 0x2000#64 = .hit fixed ∧ fixed.data.getLsbD 8 = false ∧
        fixed.data.getLsbD 62 = false ∧ fixed.data.getLsbD 6 = false ∧ fixed.data.getLsbD 10 = false) := by
  decide

/-- A refused access of each kind of instruction, an ASI of each kind, and an entry for every TTE check. -/
theorem witness_AddressSpacesAndRefusedAccesses :
    (8 ∈ accessSizes .loadX ∧ (0x2000#64).toNat % 8 = 0 ∧ mapped.requests.dataAccessError = false ∧
      tlbLookup mapped.mmu.dtlb mapped.mmu (.virtualIn .primary) (mapped.amMask 0x2000#64) = .hit page ∧
      TlbEntry.size page = 0#4 ∧ tlbLookup mapped.mmu.dtlb mapped.mmu .real 0#64 = .miss) ∧
    (asiRows.any (fun r => decide (asiPermitted mapped.mode r.asi)) = true ∧
      asiRows.any (fun r => !decide (asiPermitted mapped.mode r.asi)) = true ∧
      (∀ r ∈ asiRows, r.asi ≠ 0x63#8 ∧ r.asi ≠ 0xC0#8) ∧ 0x63#8 ∈ registerAsis ∧ asiPermitted base.mode 0x63#8) ∧
    ((Instr.ldx 1#5 8#5 (.imm 4#13)).loadAccess at1000 = some (plainAccess at1000 .load 8#5 (.imm 4#13) 8) ∧
      dataAccess at1000 (plainAccess at1000 .load 8#5 (.imm 4#13) 8) = .trap .memAddressNotAligned ∧ at1000.tl ≠ 6) ∧
    (let s := { at1000 with tl := 6 };
      dataAccess s (plainAccess s .store 8#5 (.imm 1#13) 2) = .trap .memAddressNotAligned ∧ s.tl = 6) ∧
    dataAccess mapped (plainAccess mapped .load 0#5 (.imm 0#13) 1) = .trap .fastDataAccessMMUMiss ∧
    (dataAccess at1000 (altAccess at1000 .loadD 8#5 (.reg 0x14#8 0#5) 8) = .trap .dataRealTranslationMiss ∧
      at1000.fpEnabled = true) := by
  decide

theorem witness_IntegerLoads :
    dataAccess at1000 (plainAccess at1000 .load 8#5 (.imm 1#13) 1) = .memory 0x1001 false ∧
    dataAccess at1000 (altAccess at1000 .loadX 8#5 (.reg 0x1C#8 0#5) 8) = .trap .dataRealTranslationMiss ∧
    dataAccess mapped (altAccess mapped .loadX 0#5 (.imm 0#13) 8) = .trap .privilegedAction ∧
    dataAccess mapped (altAccess mapped .loadX 9#5 (.reg 0x88#8 0#5) 8) = .memory 0x42000 true := by
  decide

theorem witness_IntegerStores :
    Memory.wf at1000.mem ∧ dataAccess at1000 (plainAccess at1000 .store 8#5 (.imm 8#13) 8) = .memory 0x1008 false ∧
    Memory.wf mapped.mem ∧ dataAccess mapped (altAccess mapped .storeX 9#5 (.reg 0x88#8 0#5) 8) = .memory 0x42000 true := by
  decide

theorem witness_Atomics :
    Memory.wf mapped.mem ∧ dataAccess mapped (plainAccess mapped .atomic 9#5 (.imm 1#13) 1) = .memory 0x42001 false ∧
    dataAccess mapped (altAccess mapped .atomic 9#5 (.reg 0x80#8 0#5) 4) = .memory 0x42000 false ∧
    dataAccess mapped (casAccess mapped 9#5 (.immAsi 0x80#8) 8) = .memory 0x42000 false := by
  decide

theorem witness_TwinTransfers :
    (0#5).toNat % 2 = 0 ∧ (30#5).toNat % 2 = 0 ∧ Memory.wf mapped.mem ∧
    dataAccess mapped (plainAccess mapped .load 9#5 (.imm 8#13) 8) = .memory 0x42008 false ∧
    isTwinAsi (asiOf mapped (.reg 0xE2#8 0#5)) = true ∧
    dataAccess mapped (altAccess mapped .loadTwinX 9#5 (.reg 0xE2#8 0#5) 16) = .memory 0x42000 false ∧
    isTwinAsi (asiOf mapped (.reg 0x80#8 0#5)) = false ∧
    dataAccess mapped (altAccess mapped .load 9#5 (.reg 0x80#8 0#5) 8) = .memory 0x42000 false ∧
    dataAccess mapped (altAccess mapped .store 9#5 (.reg 0x80#8 0#5) 8) = .memory 0x42000 false ∧
    dataAccess mapped (plainAccess mapped .store 9#5 (.imm 0#13) 8) = .memory 0x42000 false ∧ (31#5).toNat % 2 = 1 := by
  decide

theorem witness_ScratchpadWriteRead :
    (base.writeR 8#5 0x38#64).readR 8#5 = BitVec.ofNat 64 (8 * (7 : Fin 8).val) ∧ priv.isUser = false ∧
    base.hpstate.hpriv = true ∧ user.isUser = true ∧
    (∀ row ∈ asiRegisters, row.asi ∈ registerAsis ∧ row.va % 8 = 0 ∧
      asiOf base (.reg row.asi 8#5) = row.asi ∧ asiPermitted base.mode row.asi ∧ ¬asiPermitted user.mode row.asi ∧
      (let s := base.writeR 8#5 (BitVec.ofNat 64 row.va); (s.amMask (effAddrA s 0#5 (.reg row.asi 8#5))).toNat = row.va)) ∧
    (∀ row ∈ asiRegisters, row.asi = 0x58#8 → row.va ≠ 0x38) := by
  decide

/-- D-SFAR is read-only and STRAND_INTR_ID holds 16 bits; a queue's tail is hyperprivileged to write (22_mmu.md R1481,
61_interrupts_cmt.md R1180, R1206). -/
theorem test_asi_registers :
    holdsAfter (.stxa 1#5 0#5 (.reg 0x63#8 0#5)) (setR base 1#5 0x12345#64) (fun t => t.strandIntrId = 0x2345#16) ∧
    holdsAfter (.stxa 1#5 8#5 (.reg 0x25#8 0#5)) (setR priv 8#5 0x3C0#64) (fun t => t.pc = priv.npc) ∧
    holdsAfter (.stxa 1#5 8#5 (.reg 0x25#8 0#5)) (setR priv 8#5 0x3C8#64) (fun t => t.trapEntry.tt = 0x030#9) ∧
    holdsAfter (.stxa 1#5 8#5 (.reg 0x58#8 0#5)) (setR base 8#5 0x20#64) (fun t => t.trapEntry.tt = 0x030#9) := by
  decide

/-- An interrupt for another ID is dropped; a side-effecting cacheable page is refused; a boot image is canonical memory. -/
theorem test_host_operations :
    ({ base with strandIntrId := 2#16 }.hostSetSoftint 2#16 4#17).softint = 4#17 ∧
    ({ base with strandIntrId := 2#16 }.hostSetSoftint 3#16 4#17).softint = 0#17 ∧
    (base.tlbInsert .dtlb { page with data := page.data ||| 0xE00#64 }) = none ∧
    (State.boot [(8, 1#8), (4, 2#8), (6, 0#8)]).mem = [(4, 2#8), (8, 1#8)] := by
  decide

theorem witness_FloatingPointLoadsAndStores :
    mapped.fpEnabled = true ∧ Memory.wf mapped.mem ∧
    dataAccess mapped (plainAccess mapped .load 9#5 (.imm 4#13) 4) = .memory 0x42004 false ∧
    dataAccess mapped (plainAccess mapped .loadD 9#5 (.imm 8#13) 8) = .memory 0x42008 false ∧
    isBlockAsi (asiOf mapped (.reg 0x88#8 0#5)) = false ∧
    dataAccess mapped (altAccess mapped .loadD 9#5 (.reg 0x88#8 0#5) 8) = .memory 0x42000 true ∧
    dataAccess mapped (altAccess mapped .load 9#5 (.reg 0x80#8 0#5) 4) = .memory 0x42000 false ∧
    dataAccess mapped (plainAccess mapped .store 9#5 (.imm 4#13) 4) = .memory 0x42004 false ∧
    dataAccess mapped (plainAccess mapped .storeD 9#5 (.imm 8#13) 8) = .memory 0x42008 false ∧
    partialByRegister mapped (.reg 0x80#8 0#5) = false ∧
    dataAccess mapped (altAccess mapped .storeD 9#5 (.reg 0x80#8 0#5) 8) = .memory 0x42000 false ∧
    dataAccess mapped (altAccess mapped .store 9#5 (.reg 0x80#8 0#5) 4) = .memory 0x42000 false := by
  decide

theorem witness_BlockShortAndPartialTransfers :
    mapped.fpEnabled = true ∧ (17#5).toNat / 2 % 8 = 0 ∧ isBlockAsi 0xF0#8 = true ∧ Memory.wf mapped.mem ∧
    dataAccess mapped (altAccess mapped .loadBlock 9#5 (.reg 0xF0#8 0#5) 64) = .memory 0x42000 false ∧
    dataAccess mapped (altAccess mapped .storeBlock 9#5 (.reg 0xF8#8 0#5) 64) = .memory 0x42000 true ∧
    isShortAsi 0xD0#8 = true ∧ isPartialAsi 0xC0#8 = true ∧ (2#5).toNat / 2 % 8 ≠ 0 ∧
    (let s := { mapped with asi := 0xF0#8 };
      isBlockAsi s.asi = true ∧ dataAccess s (altAccess s .loadBlock 9#5 (.imm 0#13) 64) = .memory 0x42000 false ∧
        dataAccess s (altAccess s .storeBlock 9#5 (.imm 0x1FC0#13) 64) = .trap .fastDataAccessMMUMiss ∧
        dataAccess s (altAccess s .storeBlock 9#5 (.imm 0x40#13) 64) = .memory 0x42040 false) := by
  decide

theorem witness_FloatingPointMoves :
    base.fpEnabled = true ∧ (integerConditions.any fun r => r.holds base .icc) = true ∧
    (integerConditions.any fun r => !r.holds base .icc) = true ∧
    fpConditions.any (fun r => fccValue base 0#2 ∈ r.accepts) = true ∧
    fpConditions.any (fun r => fccValue base 0#2 ∉ r.accepts) = true ∧
    registerConditions.any (fun r => r.test (base.readR 0#5).toInt) = true ∧
    registerConditions.any (fun r => !r.test (base.readR 0#5).toInt) = true := by
  decide

/-- The direction by GSR.irnd and by FSR.rd; inexact with its trap off and on. -/
theorem witness_FloatingPointArithmetic :
    base.fpEnabled = true ∧
    (let s := { base with gsr := { base.gsr with irnd := 2#2 }, fsr := { base.fsr with rd := 1#2 } };
      s.gsr.im = false ∧ s.roundMode = .towardZero ∧
        ({ s with gsr := { s.gsr with im := true } } : State).roundMode = .towardPosInf) ∧
    (let c := Float.Format.div Float.single .nearestEven 0x3F800000 0x40400000;
      detected 0#5 c &&& 0#5 = 0#5 ∧ detected 1#5 c &&& 1#5 ≠ 0#5) := by
  decide

theorem witness_FloatingPointRounding :
    Float.Format.number Float.single 1 = some ((2 : ℚ) ^ (-149 : Int)) ∧
    Float.Format.number Float.double 0x8000000000000000 = some 0 ∧ Float.single ∈ [Float.single, Float.double] := by
  refine ⟨?_, ?_, List.mem_cons_self ..⟩
  · norm_num [Float.Format.number, Float.Format.negative, Float.Format.signBit, Float.Format.bias, Float.single]
  · norm_num [Float.Format.number, Float.Format.negative, Float.Format.signBit, Float.Format.bias, Float.double]

theorem witness_NansAndInfinities :
    Float.Format.isSNaN Float.single 0x7F800001 = true ∧ Float.Format.isSNaN Float.single 0xFFFFFFFF = false ∧
    Float.Format.isNaN Float.single 0xFFFFFFFF = true ∧ Float.Format.isInf Float.double 0xFFF0000000000000 = true ∧
    Float.Format.isNaN Float.double 0 = false ∧ Float.Format.isInf Float.double 0 = false := by
  decide

theorem witness_FloatingPointConversions :
    Float.Format.number Float.single 0x7F800000 = none ∧ Float.Format.number Float.single 0x80000000 = some 0 ∧
    Float.Format.number Float.double 0x3FF0000000000000 = some 1 ∧
    (Float.Format.isSNaN Float.single 0x7F800001 = true ∧ Float.Format.isSNaN Float.single 0x7FC00001 = false ∧
      Float.Format.isNaN Float.single 0x7FC00001 = true ∧ Float.Format.isInf Float.single 0xFF800000 = true ∧
      Float.Format.isNaN Float.double 0x7FF0000000000001 = true ∧
      Float.Format.isInf Float.double 0xFFF0000000000000 = true) := by
  refine ⟨?_, ?_, ?_, by decide⟩
  · norm_num [Float.Format.number, Float.single]
  · norm_num [Float.Format.number, Float.Format.negative, Float.Format.signBit, Float.Format.bias, Float.single]
  · norm_num [Float.Format.number, Float.Format.negative, Float.Format.signBit, Float.Format.bias, Float.double]

theorem witness_FloatingPointCompares : base.fpEnabled = true := by decide

theorem witness_UnimplementedFloatingPoint : base.fpEnabled = true := by decide

theorem witness_DisabledFloatingPoint :
    fpOff.fpEnabled = false ∧ (Instr.faddd 1#5 0#5 2#5).fpuUse = .double 1#5 ∧ (Instr.fzeros 31#5).fpuUse = .single ∧
    (Instr.siam 7#3).fpuUse = .noDestination ∧ (Instr.lddf 1#5 0#5 (.imm 0#13)).fpuUse = .double 1#5 ∧
    (Instr.stxfsr 0#5 (.imm 0#13)).fpuUse = .noDestination ∧ (2#5).toNat / 2 % 8 ≠ 0 ∧ (17#5).toNat / 2 % 8 = 0 ∧
    isBlockAsi (asiOf fpOff (.reg 0xF0#8 0#5)) = true ∧ isBlockAsi (asiOf fpOff (.reg 0x80#8 0#5)) = false ∧
    partialByRegister { fpOff with asi := 0xC0#8 } (.imm 0#13) = true := by
  decide

theorem witness_EdgesAndArrays : (5#64).toNat ≤ 5 ∧ 5 < (6#64).toNat := by decide

theorem witness_AlignAndShuffle : base.fpEnabled = true := by decide

theorem witness_PartitionedArithmetic : base.fpEnabled = true := by decide

theorem witness_LogicalOperationsOnF : base.fpEnabled = true := by decide

end Sys2Proof.Tests
end

section
/-!
PROOFS. Where the R registers are kept (10_state.md R22, R23): `WindowsOverlap`.
-/

namespace Sys2Proof.Machine

/-! ## The places of windowed registers -/

theorem windowIndex_in (w : BitVec 3) (k : BitVec 3) : windowIndex w (3#2 ++ k) = w ++ 0#1 ++ k := by
  revert w k; decide

/-- The outs of a window have the places of the ins of the next (10_state.md R22). -/
theorem windowIndex_out (w : BitVec 3) (k : BitVec 3) : windowIndex w (1#2 ++ k) = (w + 1#3) ++ 0#1 ++ k := by
  revert w k; decide

theorem windowIndex_local (w : BitVec 3) (k : BitVec 3) : windowIndex w (2#2 ++ k) = w ++ 1#1 ++ k := by
  revert w k; decide

/-- Bit 3 of the place of a register marks a local, and then bits 6:4 are its window. -/
theorem window_of_windowIndex_local : ∀ (w : BitVec 3) (r : RegField),
    (windowIndex w r).extractLsb' 3 1 = 1#1 → (windowIndex w r).extractLsb' 4 3 = w := by
  decide

theorem windowIndex_ne_local {w w' : BitVec 3} (h : w ≠ w') (r : RegField) (k : BitVec 3) :
    windowIndex w r ≠ windowIndex w' (2#2 ++ k) := by
  intro he
  have hbit : ∀ (w' k : BitVec 3), (w' ++ 1#1 ++ k).extractLsb' 3 1 = 1#1 ∧ (w' ++ 1#1 ++ k).extractLsb' 4 3 = w' := by
    decide
  have hw := window_of_windowIndex_local w r
  rw [he, windowIndex_local] at hw
  exact h ((hw (hbit w' k).1).symm.trans (hbit w' k).2)

theorem windowed_local (k : BitVec 3) : 8 ≤ (2#2 ++ k : RegField).toNat := by
  revert k; decide

/-! ## The places of globals -/

theorem globalIndex_ne {g g' : Fin 4} (h : g ≠ g') (q r : RegField) : globalIndex g q ≠ globalIndex g' r := by
  simp only [globalIndex, ne_eq, Fin.mk.injEq]
  omega

/-! ## Reads -/

theorem State.readR_windowed (s : State) {r : RegField} (h : 8 ≤ r.toNat) :
    s.readR r = s.windows.get (windowIndex s.win.cwp r).toFin := by
  unfold State.readR
  rw [if_neg (by rintro rfl; simp at h), if_neg (by omega)]

theorem State.readR_global (s : State) {r : RegField} (h0 : r ≠ 0#5) (h : r.toNat < 8) :
    s.readR r = s.globals.get (globalIndex s.gl r) := by
  unfold State.readR
  rw [if_neg h0, if_pos h]

/-- An out is read in the next window as an in. -/
theorem State.readR_in_next (s : State) (k : BitVec 3) :
    { s with win := { s.win with cwp := s.win.cwp + 1#3 } }.readR (3#2 ++ k) = s.readR (1#2 ++ k) := by
  have hin : ∀ k : BitVec 3, 8 ≤ (3#2 ++ k : RegField).toNat := by decide
  have hout : ∀ k : BitVec 3, 8 ≤ (1#2 ++ k : RegField).toNat := by decide
  rw [State.readR_windowed _ (hin k), State.readR_windowed _ (hout k), windowIndex_in, windowIndex_out]

/-- Writing a local leaves every register of another window. -/
theorem State.readR_otherWindow (s : State) (k : BitVec 3) (v : Word) {w : BitVec 3} (h : w ≠ s.win.cwp)
    (r : RegField) :
    { s.writeR (2#2 ++ k) v with win := { s.win with cwp := w } }.readR r =
      { s with win := { s.win with cwp := w } }.readR r := by
  have hw := writesR_writeR s (2#2 ++ k) v
  by_cases h0 : r = 0#5
  · rw [h0, State.readR_zero, State.readR_zero]
  by_cases h8 : r.toNat < 8
  · rw [State.readR_global _ h0 h8, State.readR_global _ h0 h8]
    simpa using hw.globals _ (.inr (.inl (windowed_local k)))
  · rw [State.readR_windowed _ (by omega), State.readR_windowed _ (by omega)]
    exact hw.windows _ (.inr fun he => windowIndex_ne_local h r k (BitVec.toFin_inj.1 he))

/-- Writing a global leaves every register seen at another level. -/
theorem State.readR_otherLevel (s : State) {r : RegField} (hr : r.toNat < 8) (v : Word) {g : Fin 4} (h : g ≠ s.gl)
    (q : RegField) : { s.writeR r v with gl := g }.readR q = { s with gl := g }.readR q := by
  have hw := writesR_writeR s r v
  by_cases h0 : q = 0#5
  · rw [h0, State.readR_zero, State.readR_zero]
  by_cases h8 : q.toNat < 8
  · rw [State.readR_global _ h0 h8, State.readR_global _ h0 h8]
    exact hw.globals _ (.inr (.inr (globalIndex_ne h q r)))
  · rw [State.readR_windowed _ (by omega), State.readR_windowed _ (by omega)]
    simpa using hw.windows _ (.inl hr)

/-- Settles O14: its three parts are where an out, a local and a global are kept. -/
theorem windowsOverlap : Obligations.WindowsOverlap :=
  ⟨State.readR_in_next, fun s k v _ r h => s.readR_otherWindow k v h r,
    fun s _ q v _ hr h => s.readR_otherLevel hr v h q⟩

end Sys2Proof.Machine
end

section
/-!
PROOFS. What an instruction can do, said once: `Effect` lists every form the next state of an instruction has. It is built
from `Updates`, the register and memory writes an ordinary instruction makes, `Moves`, how the program counters then move,
and `Traps`, how an exception is taken. `exec_effect`, in the part after this one, says that there is no other form.
-/

namespace Sys2Proof.Machine

/-! ## Memory changed in one place -/

/-- `m'` is `m` but for bytes from `pa` up to `pa + n`; a canonical memory stays canonical (20_memory.md R1300). -/
structure Memory.ChangesWithin (m m' : List Host.Cell) (pa n : Nat) : Prop where
  wf : Memory.wf m → Memory.wf m'
  outside : ∀ a, a < pa ∨ pa + n ≤ a → Memory.read m' a = Memory.read m a

theorem Memory.changesWithin_writeInt (m : List Host.Cell) (pa n : Nat) (little : Bool) (v : Word) :
    Memory.ChangesWithin m (Memory.writeInt m pa n little v) pa n where
  wf h := Memory.wf_writeInt h pa n little v
  outside _ h := Memory.read_writeInt_other h

theorem Memory.changesWithin_writeParts (m : List Host.Cell) (pa part : Nat) (little : Bool) (vs : List Word) {n : Nat}
    (hn : n = part * vs.length) : Memory.ChangesWithin m (writeParts m pa part little vs) pa n where
  wf h := wf_writeParts h pa part little vs
  outside _ h := read_writeParts_other (hn ▸ h)

/-! ## The writes of an ordinary instruction -/

/-- `Updates i s u`: `u` is `s` after writes that instruction `i` may make before the program counters move: its own R and F
registers and their dirty bits, CCR, Y, GSR and FSR if it writes them, memory at the address of its store in `s`. -/
inductive Updates (i : Instr) (s : State) : State → Prop where
  | refl : Updates i s s
  | writeR {u : State} {rd : RegField} (h : Updates i s u) (hd : rd ∈ i.destinations) (v : Word) :
    Updates i s (u.writeR rd v)
  | setCcr {u : State} (h : Updates i s u) (hw : i.writesCcr = true) (c : BitVec 8) : Updates i s (u.setCcr c)
  | setY {u : State} (h : Updates i s u) (hw : i.writesY = true) (y : BitVec 32) : Updates i s (u.setY y)
  | setGsr {u : State} (h : Updates i s u) (hw : i.writesGsr = true) (g : Gsr) : Updates i s (u.setGsr g)
  | setFsr {u : State} (h : Updates i s u) (hw : i.writesFsr = true) (f : Fsr) : Updates i s (u.setFsr f)
  | drawn {u : State} (h : Updates i s u) : Updates i s u.drawn
  | writeFS {u : State} {f : RegField} (h : Updates i s u) (hd : singleIndex f ∈ i.fDestinations) (v : HWord) :
    Updates i s (u.writeFS f v)
  | writeFD {u : State} {f : RegField} (h : Updates i s u) (hu : upperIndex f ∈ i.fDestinations)
    (hl : lowerIndex f ∈ i.fDestinations) (v : Word) : Updates i s (u.writeFD f v)
  | store {u : State} {a : Access} {pa : Nat} {little : Bool} {m : List Host.Cell} (h : Updates i s u)
    (ha : i.storeAccess s = some a) (hd : dataAccess s a = .memory pa little)
    (hm : Memory.ChangesWithin u.mem m pa a.size) : Updates i s { u with mem := m }

/-- The part of a state that no such write changes: the fields an ordinary instruction can write are blanked. -/
def State.kept (s : State) : State :=
  { s with
    globals := State.reset.globals, windows := State.reset.windows, fregs := State.reset.fregs, y := State.reset.y
    ccr := State.reset.ccr, fsr := State.reset.fsr, fprs := State.reset.fprs, gsr := State.reset.gsr
    mem := State.reset.mem, freeCount := State.reset.freeCount }

@[simp] theorem State.kept_writeR (s : State) (r : RegField) (v : Word) : (s.writeR r v).kept = s.kept := by
  unfold State.writeR; split <;> [rfl; split <;> rfl]
@[simp] theorem State.kept_setCcr (s : State) (c : BitVec 8) : (s.setCcr c).kept = s.kept := rfl
@[simp] theorem State.kept_setY (s : State) (y : BitVec 32) : (s.setY y).kept = s.kept := rfl
@[simp] theorem State.kept_setGsr (s : State) (g : Gsr) : (s.setGsr g).kept = s.kept := rfl
@[simp] theorem State.kept_setFsr (s : State) (f : Fsr) : (s.setFsr f).kept = s.kept := rfl
@[simp] theorem State.kept_drawn (s : State) : s.drawn.kept = s.kept := rfl
@[simp] theorem State.kept_markDouble (s : State) (f : RegField) : (s.markDouble f).kept = s.kept := by
  unfold State.markDouble; split <;> rfl
@[simp] theorem State.kept_writeFS (s : State) (f : RegField) (v : HWord) : (s.writeFS f v).kept = s.kept := rfl
@[simp] theorem State.kept_writeFD (s : State) (f : RegField) (v : Word) : (s.writeFD f v).kept = s.kept := by
  unfold State.writeFD; exact State.kept_markDouble _ f
@[simp] theorem State.kept_setMem (s : State) (m : List Host.Cell) : ({ s with mem := m } : State).kept = s.kept := rfl

theorem Updates.kept {i : Instr} {s u : State} (h : Updates i s u) : u.kept = s.kept := by
  induction h with
  | refl => rfl
  | _ => simpa

/-! ## How the program counters move -/

/-- The ways the program counters move when an instruction completes (41_control.md R500); a target is word aligned if
pc is. -/
inductive State.Moves (s : State) : State → Prop where
  | advance : State.Moves s s.advance
  | delayedTransfer (ea : Word) (ha : wordAligned s.pc → wordAligned ea) : State.Moves s (s.delayedTransfer ea)
  | annulDelay : State.Moves s s.annulDelay
  | transferAnnul (ea : Word) (ha : wordAligned s.pc → wordAligned ea) : State.Moves s (s.transferAnnul ea)

theorem State.Moves.rest {s t : State} (h : s.Moves t) : t = { s with pc := t.pc, npc := t.npc } := by
  cases h <;> rfl

/-! ## How an exception is taken -/

/-- What an instruction may have done when it raises an exception of its own: marked its F destination dirty (45_fp.md R800)
or written FSR (45_fp.md R803, R805). -/
inductive Prepares (i : Instr) (s : State) : State → Prop where
  | unchanged : Prepares i s s
  | markLower {f : RegField} (hd : singleIndex f ∈ i.fDestinations) : Prepares i s s.markLower
  | markDouble {f : RegField} (hd : upperIndex f ∈ i.fDestinations) : Prepares i s (s.markDouble f)
  | setFsr (hw : i.writesFsr = true) (f : Fsr) : Prepares i s (s.setFsr f)

/-- The ways instruction `i` ends in a trap or a reset: an exception of its own, one of the data access it makes, SIR. -/
inductive Traps (i : Instr) (s : State) : State → Prop where
  | raised {u : State} (h : Prepares i s u) (e : Exc) : Traps i s (takeTrap e u)
  | dataFault {a : Access} (ha : i.loadAccess s = some a ∨ i.storeAccess s = some a) (e : Exc) :
    Traps i s (raiseData s a e)
  | reset (simm13 : BitVec 13) (hi : i = .sir simm13) (hp : s.hpstate.hpriv = true) : Traps i s s.softwareReset

/-! ## Everything an instruction can do -/

/-- `Effect s i t`: instruction `i` in state `s` may leave the state `t`. -/
inductive Effect (s : State) : Instr → State → Prop where
  | completes {i : Instr} {u t : State} (h : Updates i s u) (hm : u.Moves t) : Effect s i t
  | traps {i : Instr} {t : State} (h : Traps i s t) : Effect s i t
  | movesWindow {i : Instr} {w : WindowRegs} {u t : State} (hi : i.movesWindow = true)
    (hw : w = { s.win with cwp := w.cwp, cansave := w.cansave, canrestore := w.canrestore })
    (h : Updates i (s.setWin w) u) (hm : u.Moves t) : Effect s i t
  | saved (hp : s.isUser = false) : Effect s .saved (s.setWin s.win.spilled).advance
  | restored (hp : s.isUser = false) : Effect s .restored (s.setWin s.win.filled).advance
  | done (hp : s.isUser = false) (hl : s.tl.val ≠ 0) : Effect s .done s.returnDone
  | retry (hp : s.isUser = false) (hl : s.tl.val ≠ 0) : Effect s .retry s.returnRetry
  | stxaRegister (rd rs1 : RegField) (o : AsiOp2) {asi : BitVec 8} {va v : Word} {u : State}
    (hd : dataAccess s (altAccess s .storeX rs1 o 8) = .register asi va) (hw : writeAsiReg s asi va v = some u) :
    Effect s (.stxa rd rs1 o) u.advance
  | wrasi (rs1 : RegField) (o : Op2) (v : BitVec 8) : Effect s (.wrasi rs1 o) { s with asi := v }.advance
  | wrfprs (rs1 : RegField) (o : Op2) (v : Fprs) : Effect s (.wrfprs rs1 o) { s with fprs := v }.advance
  | wrpcr (rs1 : RegField) (o : Op2) (v : Pcr) (hp : s.isUser = false) :
    Effect s (.wrpcr rs1 o) { s with pcr := v }.advance
  | wrpic (rs1 : RegField) (o : Op2) (v : Pic) : Effect s (.wrpic rs1 o) { s with pic := v }.advance
  | wrsoftint_set (rs1 : RegField) (o : Op2) (v : BitVec 17) (hp : s.isUser = false) :
    Effect s (.wrsoftint_set rs1 o) { s with softint := v }.advance
  | wrsoftint_clr (rs1 : RegField) (o : Op2) (v : BitVec 17) (hp : s.isUser = false) :
    Effect s (.wrsoftint_clr rs1 o) { s with softint := v }.advance
  | wrsoftint (rs1 : RegField) (o : Op2) (v : BitVec 17) (hp : s.isUser = false) :
    Effect s (.wrsoftint rs1 o) { s with softint := v }.advance
  | wrtick_cmpr (rs1 : RegField) (o : Op2) (v : CompareReg) (hp : s.isUser = false) :
    Effect s (.wrtick_cmpr rs1 o) { s with tickCmpr := v }.advance
  | wrstick (rs1 : RegField) (o : Op2) (v : CounterReg) (hp : s.hpstate.hpriv = true) :
    Effect s (.wrstick rs1 o) { s with stick := v }.advance
  | wrstick_cmpr (rs1 : RegField) (o : Op2) (v : CompareReg) (hp : s.isUser = false) :
    Effect s (.wrstick_cmpr rs1 o) { s with stickCmpr := v }.advance
  | wrpr (pr : PrivReg) (rs1 : RegField) (o : Op2) (v : Word) (hp : s.isUser = false)
    (ht : pr = .tick → s.hpstate.hpriv = true) (hl : privPerTrapLevel pr = true → s.tl.val ≠ 0) :
    Effect s (.wrpr pr rs1 o) (prWrite s v pr).advance
  | wrhpr (hpr : HyperReg) (rs1 : RegField) (o : Op2) (v : Word) (hp : s.hpstate.hpriv = true)
    (hl : hyperPerTrapLevel hpr = true → s.tl.val ≠ 0) : Effect s (.wrhpr hpr rs1 o) (hprWrite s v hpr).advance

end Sys2Proof.Machine
end

section
/-!
PROOFS. `exec_effect`: what an instruction answers is one of the forms of `Effect`. First one rule for each way a meaning is
put together (write back, check the FPU, access memory, …), then one line of `exec_effect` for each of them.
-/

namespace Sys2Proof.Machine

open Sys2Proof.Float

/-- Every next state that `r` answers is an effect of `i` in `s`. -/
def Effects (i : Instr) (s : State) (r : Result) : Prop := ∀ t, r = .next t → Effect s i t

section Rules

variable {i : Instr} {s u : State} {rd : RegField}

/-! ## Completing and trapping -/

theorem effects_next {t : State} (h : Effect s i t) : Effects i s (.next t) := fun _ e => by cases e; exact h

theorem effects_complete (h : Updates i s u) : Effects i s (complete u) := effects_next (.completes h .advance)

theorem effects_moves {t : State} (hm : s.Moves t) : Effects i s (.next t) := effects_next (.completes .refl hm)

theorem effects_raise (h : Prepares i s u) (e : Exc) : Effects i s (raise e u) := effects_next (.traps (.raised h e))

theorem effects_ite {c : Prop} [Decidable c] {a b : Result} (ha : c → Effects i s a) (hb : ¬c → Effects i s b) :
    Effects i s (if c then a else b) := by
  split
  · exact ha ‹_›
  · exact hb ‹_›

/-! ## Checks before the work -/

theorem effects_withFp {k : Result} (hk : Effects i s k) : Effects i s (withFp s k) :=
  effects_ite (fun _ => hk) fun _ => effects_raise .unchanged _

theorem effects_withFpDest {mark : State → State} {k : Result} (hm : Prepares i s (mark s)) (hk : Effects i s k) :
    Effects i s (withFpDest s mark k) :=
  effects_ite (fun _ => hk) fun _ => effects_raise hm _

theorem effects_privilegedOnly {k : Result} (hk : s.isUser = false → Effects i s k) : Effects i s (privilegedOnly s k) :=
  effects_ite (fun _ => effects_raise .unchanged _) fun h => hk (by simpa using h)

theorem effects_hyperOnly {k : Result} (hk : s.hpstate.hpriv = true → Effects i s k) : Effects i s (hyperOnly s k) :=
  effects_ite hk fun _ => effects_raise .unchanged _

theorem effects_unlessLocked {b : Bool} {k : Result} (hk : Effects i s k) : Effects i s (unlessLocked s b k) :=
  effects_ite (fun _ => effects_raise .unchanged _) fun _ => hk

theorem effects_classC3 {b : Bool} {k : Result} (hk : b = true → Effects i s k) : Effects i s (classC3 b s k) :=
  effects_ite hk fun _ => effects_raise .unchanged _

/-! ## Results in R registers -/

theorem effects_writeBack (h : Updates i s u) (hd : i.destinations = [rd]) (v : Word) :
    Effects i s (writeBack u rd v) := effects_complete (h.writeR (by simp [hd]) v)

theorem effects_writeBackCC (h : Updates i s u) (hd : i.destinations = [rd]) (hc : i.writesCcr = true) (v : Word)
    (c : BitVec 8) : Effects i s (writeBackCC u rd v c) := effects_complete ((h.writeR (by simp [hd]) v).setCcr hc c)

theorem effects_divBack (hd : i.destinations = [rd]) (hy : i.writesY = true) (b : HWord) (q : Word × Bool) :
    Effects i s (divBack s rd b q) :=
  effects_ite (fun _ => effects_raise .unchanged _) fun _ => effects_writeBack (Updates.refl.drawn.setY hy _) hd _

theorem effects_divBackCC (hd : i.destinations = [rd]) (hy : i.writesY = true) (hc : i.writesCcr = true) (b : HWord)
    (q : Word × Bool) : Effects i s (divBackCC s rd b q) :=
  effects_ite (fun _ => effects_raise .unchanged _) fun _ => effects_writeBackCC (Updates.refl.drawn.setY hy _) hd hc _ _

theorem effects_moveIf (hd : i.destinations = [rd]) (c : Bool) (v : Word) : Effects i s (moveIf s c rd v) :=
  effects_ite (fun _ => effects_writeBack .refl hd v) fun _ => effects_complete .refl

theorem effects_visArray (hd : i.destinations = [rd]) (n : Nat) (rs1 rs2 : RegField) :
    Effects i s (visArray s n rd rs1 rs2) :=
  effects_classC3 fun _ =>
    effects_ite (fun _ => effects_writeBack .refl hd _) fun _ => effects_writeBack Updates.refl.drawn hd _

/-! ## Branches and returns -/

theorem wordAligned_iff (a : Word) : wordAligned a ↔ a.toNat % 4 = 0 := by
  rw [wordAligned, ← BitVec.toNat_inj]
  simp [BitVec.extractLsb'_toNat]

/-- pc + 4 * displacement is word aligned if pc is (41_control.md R504). -/
theorem wordAligned_branchTarget {n : Nat} (disp : BitVec n) (h : wordAligned s.pc) :
    wordAligned (branchTarget s disp) := by
  rw [wordAligned_iff] at *
  simp only [branchTarget, BitVec.toNat_add, BitVec.toNat_shiftLeft, Nat.shiftLeft_eq]
  omega

theorem effects_branchIf {n : Nat} (taken a : Bool) (disp : BitVec n) :
    Effects i s (branchIf s taken a (branchTarget s disp)) :=
  effects_ite (fun _ => effects_moves (.delayedTransfer _ (wordAligned_branchTarget disp))) fun _ =>
    effects_ite (fun _ => effects_moves .annulDelay) fun _ => effects_moves .advance

theorem effects_branchAlways {n : Nat} (a : Bool) (disp : BitVec n) :
    Effects i s (branchAlways s a (branchTarget s disp)) :=
  effects_ite (fun _ => effects_moves (.transferAnnul _ (wordAligned_branchTarget disp))) fun _ =>
    effects_moves (.delayedTransfer _ (wordAligned_branchTarget disp))

theorem effects_branchNever (a : Bool) : Effects i s (branchNever s a) :=
  effects_ite (fun _ => effects_moves .annulDelay) fun _ => effects_moves .advance

theorem effects_trapIcc (c : BitVec 4) (cc : IntCC) (rs1 : RegField) (o : Op2x8) : Effects i s (trapIcc s c cc rs1 o) :=
  effects_ite (fun _ => effects_raise .unchanged _) fun _ => effects_complete .refl

theorem effects_trapReturn {t : State} (h : s.isUser = false → s.tl.val ≠ 0 → Effect s i t) :
    Effects i s (trapReturn s t) :=
  effects_ite (fun _ => effects_raise .unchanged _) fun hu =>
    effects_ite (fun _ => effects_raise .unchanged _) fun hl => effects_next (h (by simpa using hu) hl)

/-! ## Results in F registers -/

theorem effects_visSingle (hd : i.fDestinations = [singleIndex rd]) (v : HWord) : Effects i s (visSingle s rd v) :=
  effects_withFpDest (Prepares.markLower (f := rd) (by simp [hd]))
    (effects_complete (Updates.refl.writeFS (by simp [hd]) v))

theorem effects_visDouble (hd : i.fDestinations = [upperIndex rd, lowerIndex rd]) (v : Word) :
    Effects i s (visDouble s rd v) :=
  effects_withFpDest (Prepares.markDouble (by simp [hd]))
    (effects_complete (Updates.refl.writeFD (by simp [hd]) (by simp [hd]) v))

theorem effects_fpMoveSingle (hd : i.fDestinations = [singleIndex rd]) (hf : i.writesFsr = true) (v : HWord) :
    Effects i s (fpMoveSingle s rd v) :=
  effects_withFpDest (Prepares.markLower (f := rd) (by simp [hd]))
    (effects_complete ((Updates.refl.writeFS (by simp [hd]) v).setFsr hf _))

theorem effects_fpMoveDouble (hd : i.fDestinations = [upperIndex rd, lowerIndex rd]) (hf : i.writesFsr = true)
    (v : Word) : Effects i s (fpMoveDouble s rd v) :=
  effects_withFpDest (Prepares.markDouble (by simp [hd]))
    (effects_complete ((Updates.refl.writeFD (by simp [hd]) (by simp [hd]) v).setFsr hf _))

theorem effects_fpMoveSingleIf (hd : i.fDestinations = [singleIndex rd]) (hf : i.writesFsr = true) (c : Bool)
    (rs2 : RegField) : Effects i s (fpMoveSingleIf s c rd rs2) := by
  refine effects_withFpDest (Prepares.markLower (f := rd) (by simp [hd])) (effects_complete (Updates.setFsr ?_ hf _))
  split
  · exact Updates.refl.writeFS (by simp [hd]) _
  · exact .refl

theorem effects_fpMoveDoubleIf (hd : i.fDestinations = [upperIndex rd, lowerIndex rd]) (hf : i.writesFsr = true)
    (c : Bool) (rs2 : RegField) : Effects i s (fpMoveDoubleIf s c rd rs2) := by
  refine effects_withFpDest (Prepares.markDouble (f := rd) (by simp [hd]))
    (effects_complete (Updates.setFsr ?_ hf _))
  split
  · exact Updates.refl.writeFD (by simp [hd]) (by simp [hd]) _
  · exact .refl

theorem effects_unimplementedFPop (hf : i.writesFsr = true) : Effects i s (unimplementedFPop s) :=
  effects_raise (.setFsr hf _) _

theorem effects_fpFinish (hf : i.writesFsr = true) {k : Result} (hk : Effects i s k) (opf : BitVec 9) (a b : Word) :
    Effects i s (fpFinish s opf a b k) :=
  effects_ite (fun _ => effects_raise (.setFsr hf _) _) fun _ => hk

theorem effects_fpDeliver (hf : i.writesFsr = true) {w : State → State} (hw : Updates i s (w s)) (c : Computed) :
    Effects i s (fpDeliver s c w) :=
  effects_ite (fun _ => effects_raise (.setFsr hf _) _) fun _ => effects_complete (hw.setFsr hf _)

theorem effects_singleFPop (hd : i.fDestinations = [singleIndex rd]) {k : Result} (hk : Effects i s k) :
    Effects i s (withFpDest s State.markLower k) :=
  effects_withFpDest (Prepares.markLower (f := rd) (by simp [hd])) hk

theorem effects_fpSingle (hd : i.fDestinations = [singleIndex rd]) (hf : i.writesFsr = true) (c : Computed) :
    Effects i s (fpSingle s rd c) := effects_fpDeliver hf (Updates.refl.writeFS (by simp [hd]) _) c

theorem effects_doubleFPop (hd : i.fDestinations = [upperIndex rd, lowerIndex rd]) {k : Result} (hk : Effects i s k) :
    Effects i s (withFpDest s (fun t => t.markDouble rd) k) :=
  effects_withFpDest (Prepares.markDouble (by simp [hd])) hk

theorem effects_fpDouble (hd : i.fDestinations = [upperIndex rd, lowerIndex rd]) (hf : i.writesFsr = true)
    (c : Computed) : Effects i s (fpDouble s rd c) :=
  effects_fpDeliver hf (Updates.refl.writeFD (by simp [hd]) (by simp [hd]) _) c

theorem effects_fpCompare (hf : i.writesFsr = true) (fcc : FccSel) (c : BitVec 2) (nv : Bool) :
    Effects i s (fpCompare s fcc c nv) := by
  have hset : Updates i s (setFcc s fcc c) := by
    unfold setFcc
    split
    · exact Updates.refl.setFsr hf _
    · split
      · exact Updates.refl.setFsr hf _
      · split <;> exact Updates.refl.setFsr hf _
  exact effects_withFp (effects_fpDeliver hf hset _)

/-! ## Data accesses -/

theorem effects_loadValue {a : Access} {k : Word → Result} (ha : i.loadAccess s = some a) (hk : ∀ v, Effects i s (k v)) :
    Effects i s (loadValue s a k) := fun t h => by
  obtain ⟨e, rfl⟩ | ⟨_, _, _, h'⟩ | ⟨_, _, v, _, _, h'⟩ := loadValue_next h
  · exact .traps (.dataFault (.inl ha) e)
  · exact hk _ t h'
  · exact hk v t h'

theorem effects_loadParts {a : Access} {part : Nat} {k : (Nat → Word) → Result} (ha : i.loadAccess s = some a)
    (hk : ∀ p, Effects i s (k p)) : Effects i s (loadParts s a part k) := fun t h => by
  obtain ⟨e, rfl⟩ | ⟨_, _, _, h'⟩ := loadParts_next h
  · exact .traps (.dataFault (.inl ha) e)
  · exact hk _ t h'

/-- The ASIs that reach a register are for LDXA and STXA alone (21_asi.md R1403, R1417). -/
theorem asiTable_register {asi : BitVec 8} {c : AsiClass} (h : asiTable asi = some (.register, c)) : c = .xOnly := by
  unfold asiTable at h
  split at h <;> simp_all

theorem dataAddrKind_register {asi : Option (BitVec 8)} (h : dataAddrKind s asi = .register) :
    ∃ n, asi = some n ∧ asiTable n = some (.register, .xOnly) := by
  unfold dataAddrKind at h
  split at h
  · split at h <;> [cases h; split at h <;> cases h]
  · rename_i n
    split at h
    · rename_i hn
      exact ⟨n, rfl, asiTable_register hn ▸ hn⟩
    · split at h <;> cases h
    · split at h <;> [cases h; split at h <;> cases h]
    · cases h

theorem asiLegalFor_xOnly {c : InstrClass} {n : BitVec 8} (hn : asiTable n = some (.register, .xOnly))
    (h : asiLegalFor c n = true) : c = .loadX ∨ c = .storeX := by
  unfold asiLegalFor at h
  rw [hn] at h
  cases c <;> simp_all

theorem Access.finish_ne_register (a : Access) (pa : Nat) (little : Bool) (n : BitVec 8) (va : Word) :
    a.finish s pa little ≠ .register n va := by
  unfold Access.finish
  split
  · nofun
  · split
    · nofun
    · simp

theorem Access.translate_ne_register (a : Access) (k : AddrKind) (n : BitVec 8) (va : Word) :
    a.translate s k ≠ .register n va := by
  unfold Access.translate
  split
  · nofun
  · nofun
  · split
    · nofun
    · exact Access.finish_ne_register _ _ _ _ _

/-- DataAccess answers a register only for an ASI that reaches one, and only where it is legal. -/
theorem dataAccess_register_kind {a : Access} {asi : BitVec 8} {va : Word} (h : dataAccess s a = .register asi va) :
    dataAddrKind s a.asi = .register ∧ a.legal = true := by
  unfold dataAccess at h
  split at h
  · cases h
  split at h
  · cases h
  split at h
  · cases h
  split at h
  · split at h <;> [cases h; split at h <;> [cases h; exact absurd h (Access.translate_ne_register _ _ _ _)]]
  · split at h <;> [cases h; exact absurd h (Access.translate_ne_register _ _ _ _)]
  · split at h
    · cases h
    · rw [Access.bypass_eq] at h
      exact absurd h (Access.finish_ne_register _ _ _ _ _)
  · split at h
    · cases h
    · rename_i hk hl
      exact ⟨hk, by simpa using hl⟩

/-- So it answers one only to LDXA and STXA. -/
theorem dataAccess_register {a : Access} {asi : BitVec 8} {va : Word} (h : dataAccess s a = .register asi va) :
    a.cls = .loadX ∨ a.cls = .storeX := by
  obtain ⟨hk, hl⟩ := dataAccess_register_kind h
  obtain ⟨n, hn, ht⟩ := dataAddrKind_register hk
  simp only [Access.legal, hn] at hl
  exact asiLegalFor_xOnly ht hl

theorem effects_storeValue {a : Access} {v : Word} {k : State → Result} (ha : i.storeAccess s = some a)
    (hc : a.cls = .store ∨ a.cls = .storeD) (hk : ∀ {u}, Updates i s u → Effects i s (k u)) :
    Effects i s (storeValue s a v k) := fun t h => by
  obtain ⟨e, rfl⟩ | ⟨pa, little, hd, h'⟩ | ⟨asi, va, _, hd, _, _⟩ := storeValue_next h
  · exact .traps (.dataFault (.inr ha) e)
  · exact hk (Updates.refl.store ha hd (Memory.changesWithin_writeInt ..)) t h'
  · obtain hx | hx := dataAccess_register hd <;> simp [hx] at hc

theorem effects_storeParts {a : Access} {part : Nat} {vs : List Word} {k : State → Result}
    (ha : i.storeAccess s = some a) (hn : a.size = part * vs.length) (hk : ∀ {u}, Updates i s u → Effects i s (k u)) :
    Effects i s (storeParts s a part vs k) := fun t h => by
  obtain ⟨e, rfl⟩ | ⟨pa, little, hd, h'⟩ := storeParts_next h
  · exact .traps (.dataFault (.inr ha) e)
  · exact hk (Updates.refl.store ha hd (Memory.changesWithin_writeParts _ _ _ _ _ hn)) t h'

theorem effects_loadUnsigned {a : Access} (ha : i.loadAccess s = some a) (hd : i.destinations = [rd]) :
    Effects i s (loadUnsigned s a rd) := effects_loadValue ha fun v => effects_writeBack .refl hd v

theorem effects_loadSigned {a : Access} (ha : i.loadAccess s = some a) (hd : i.destinations = [rd]) :
    Effects i s (loadSigned s a rd) := effects_loadValue ha fun _ => effects_writeBack .refl hd _

theorem effects_storeReg {a : Access} (ha : i.storeAccess s = some a) (hc : a.cls = .store ∨ a.cls = .storeD) :
    Effects i s (storeReg s a rd) := effects_storeValue ha hc effects_complete

theorem effects_stxa (rs1 : RegField) (o : AsiOp2) :
    Effects (.stxa rd rs1 o) s (storeReg s (altAccess s .storeX rs1 o 8) rd) := fun t h => by
  obtain ⟨e, rfl⟩ | ⟨pa, little, hd, h'⟩ | ⟨asi, va, u, hd, hw, h'⟩ := storeValue_next h
  · exact .traps (.dataFault (.inr rfl) e)
  · exact effects_complete (Updates.refl.store rfl hd (Memory.changesWithin_writeInt ..)) t h'
  · exact effects_next (.stxaRegister rd rs1 o hd hw) t h'

theorem effects_atomicReg {a : Access} {f : Word → Word} (ha : i.storeAccess s = some a) (hd : i.destinations = [rd]) :
    Effects i s (atomicReg s a f rd) := fun t h => by
  obtain ⟨e, rfl⟩ | ⟨pa, little, hm, h'⟩ := atomicValue_next h
  · exact .traps (.dataFault (.inr ha) e)
  · exact effects_writeBack (Updates.refl.store ha hm (Memory.changesWithin_writeInt ..)) hd _ t h'

theorem effects_loadPair {a : Access} {part : Nat} (ha : i.loadAccess s = some a)
    (hd : i.destinations = [rd, pairOdd rd]) : Effects i s (loadPair s a part rd) :=
  effects_ite (fun _ => effects_raise .unchanged _) fun _ =>
    effects_loadParts ha fun _ => effects_complete ((Updates.refl.writeR (by simp [hd]) _).writeR (by simp [hd]) _)

theorem effects_storePair {a : Access} (ha : i.storeAccess s = some a) (hn : a.size = 8) :
    Effects i s (storePair s a rd) :=
  effects_ite (fun _ => effects_raise .unchanged _) fun _ => effects_storeParts ha (by simp [hn]) effects_complete

theorem effects_loadSingle {a : Access} (ha : i.loadAccess s = some a) (hd : i.fDestinations = [singleIndex rd]) :
    Effects i s (loadSingle s a rd) :=
  effects_singleFPop hd (effects_loadValue ha fun _ => effects_complete (Updates.refl.writeFS (by simp [hd]) _))

theorem effects_loadDouble {a : Access} (ha : i.loadAccess s = some a) (hu : upperIndex rd ∈ i.fDestinations)
    (hl : lowerIndex rd ∈ i.fDestinations) : Effects i s (loadDouble s a rd) :=
  effects_withFpDest (Prepares.markDouble hu)
    (effects_loadValue ha fun _ => effects_complete (Updates.refl.writeFD hu hl _))

theorem effects_storeSingle {a : Access} (ha : i.storeAccess s = some a) (hc : a.cls = .store ∨ a.cls = .storeD) :
    Effects i s (storeSingle s a rd) := effects_withFp (effects_storeValue ha hc effects_complete)

theorem effects_storeDouble {a : Access} (ha : i.storeAccess s = some a) (hc : a.cls = .store ∨ a.cls = .storeD) :
    Effects i s (storeDouble s a rd) := effects_withFp (effects_storeValue ha hc effects_complete)

/-! ## Block transfers (43_fp_loadstore.md R690) -/

/-- The bank of sixteen F registers that holds the double register of a field: what a block load may write. -/
def bankOf (rd : RegField) : List (Fin 64) :=
  (List.finRange 64).filter fun n => n.val / 16 = 2 * (rd.toNat % 2) + rd.toNat / 16

theorem mem_bankOf {n : Fin 64} {rd : RegField} : n ∈ bankOf rd ↔ n.val / 16 = 2 * (rd.toNat % 2) + rd.toNat / 16 := by
  simp [bankOf]

theorem upperIndex_mem_bankOf (rd : RegField) : upperIndex rd ∈ bankOf rd := by
  rw [mem_bankOf]; simp only [upperIndex]; omega

theorem lowerIndex_mem_bankOf (rd : RegField) : lowerIndex rd ∈ bankOf rd := by
  rw [mem_bankOf]; simp only [lowerIndex]; omega

/-- The eight double registers of a block lie in one bank. -/
theorem bankOf_blockReg (rd : RegField) (k : BitVec 3) : bankOf (blockReg rd k) = bankOf rd := by
  have h : ∀ (rd : RegField) (k : BitVec 3), 2 * ((blockReg rd k).toNat % 2) + (blockReg rd k).toNat / 16 =
      2 * (rd.toNat % 2) + rd.toNat / 16 := by decide
  simp only [bankOf, h]

theorem updates_writeBlock (hd : i.fDestinations = bankOf rd) (p : Nat → Word) (h : Updates i s u) :
    Updates i s (u.writeBlock rd p) := by
  unfold State.writeBlock
  induction List.range 8 generalizing u with
  | nil => exact h
  | cons k ks ih =>
    have hk : bankOf (blockReg rd (BitVec.ofNat 3 k)) = i.fDestinations := by rw [bankOf_blockReg, hd]
    exact ih (h.writeFD (hk ▸ upperIndex_mem_bankOf _) (hk ▸ lowerIndex_mem_bankOf _) _)

theorem effects_loadBlock {a : Access} (ha : i.loadAccess s = some a) (hd : i.fDestinations = bankOf rd) :
    Effects i s (loadBlock s a rd) :=
  effects_ite (fun _ => effects_raise .unchanged _) fun _ =>
    effects_withFpDest (Prepares.markDouble (hd ▸ upperIndex_mem_bankOf rd))
      (effects_loadParts ha fun _ => effects_complete (updates_writeBlock hd _ .refl))

theorem effects_storeBlock {a : Access} (ha : i.storeAccess s = some a) (hn : a.size = 64) :
    Effects i s (storeBlock s a rd) :=
  effects_ite (fun _ => effects_raise .unchanged _) fun _ =>
    effects_withFp (effects_storeParts ha (by simp [hn, State.readBlock]) effects_complete)

/-! ## State registers -/

theorem effects_setWin {w : WindowRegs} {t : State} (hi : i.movesWindow = true)
    (hw : w = { s.win with cwp := w.cwp, cansave := w.cansave, canrestore := w.canrestore })
    (h : Updates i (s.setWin w) u) (hm : u.Moves t) : Effects i s (.next t) := effects_next (.movesWindow hi hw h hm)

end Rules

/-! ## The instructions whose meaning is no shared operation -/

section Meanings

variable {s : State} (rd rs1 rs2 : RegField) (o : Op2)

theorem effects_execJmpl : Effects (.jmpl rd rs1 o) s (execJmpl rd rs1 o s) :=
  effects_ite (fun _ => effects_raise .unchanged _) fun h =>
    effects_next (.completes (Updates.refl.writeR (List.mem_singleton_self rd) _)
      (.delayedTransfer _ fun _ => by simpa using h))

theorem effects_execReturn : Effects (.return_ rd rs1 o) s (execReturn rd rs1 o s) :=
  effects_ite (fun _ => effects_raise .unchanged _) fun _ =>
    effects_ite (fun _ => effects_raise .unchanged _) fun h =>
      effects_setWin rfl rfl .refl (.delayedTransfer _ fun _ => by simpa using h)

theorem effects_execSave : Effects (.save rd rs1 o) s (execSave rd rs1 o s) :=
  effects_ite (fun _ => effects_raise .unchanged _) fun _ =>
    effects_ite (fun _ => effects_raise .unchanged _) fun _ =>
      effects_setWin rfl rfl (Updates.refl.writeR (List.mem_singleton_self rd) _) .advance

theorem effects_execRestore : Effects (.restore rd rs1 o) s (execRestore rd rs1 o s) :=
  effects_ite (fun _ => effects_raise .unchanged _) fun _ =>
    effects_setWin rfl rfl (Updates.refl.writeR (List.mem_singleton_self rd) _) .advance

theorem effects_execWrpr (pr : PrivReg) : Effects (.wrpr pr rs1 o) s (execWrpr pr rs1 o s) :=
  effects_privilegedOnly fun hp =>
    effects_ite (fun _ => effects_raise .unchanged _) fun ht =>
      effects_ite (fun _ => effects_raise .unchanged _) fun hl =>
        effects_next (.wrpr pr rs1 o _ hp (fun e => by simpa [e] using ht) fun e => by simpa [e] using hl)

theorem effects_execWrhpr (hpr : HyperReg) : Effects (.wrhpr hpr rs1 o) s (execWrhpr hpr rs1 o s) :=
  effects_hyperOnly fun hp =>
    effects_ite (fun _ => effects_raise .unchanged _) fun _ =>
      effects_ite (fun _ => effects_raise .unchanged _) fun hl =>
        effects_next (.wrhpr hpr rs1 o _ hp fun e => by simpa [e] using hl)

theorem effects_execLdtwa (o : AsiOp2) : Effects (.ldtwa rd rs1 o) s (execLdtwa rd rs1 o s) :=
  effects_ite (fun h => effects_loadPair (congrArg some (if_pos h)) rfl) fun h =>
    effects_loadPair (congrArg some (if_neg h)) rfl

theorem effects_execLddfa (o : AsiOp2) : Effects (.lddfa rd rs1 o) s (execLddfa rd rs1 o s) :=
  effects_ite (fun h => effects_loadBlock (congrArg some (if_pos h)) rfl) fun h =>
    effects_loadDouble (congrArg some (if_neg h)) (upperIndex_mem_bankOf rd) (lowerIndex_mem_bankOf rd)

theorem effects_execStdfa (o : AsiOp2) : Effects (.stdfa rd rs1 o) s (execStdfa rd rs1 o s) :=
  effects_ite (fun _ => effects_raise .unchanged _) fun _ =>
    effects_ite (fun h => effects_storeBlock (congrArg some (if_pos h)) rfl) fun h =>
      effects_storeDouble (congrArg some (if_neg h)) (.inr rfl)

end Meanings

end Sys2Proof.Machine
end

section
/-!
PROOFS. Every instruction's meaning is put together by those rules.
-/

namespace Sys2Proof.Machine

/-- What an instruction answers is one of the forms of `Effect`: one line for each way a meaning is put together. -/
theorem exec_effects (i : Instr) (s : State) : Effects i s (exec i s) := by
  cases i with
  | illtrap | popc | allclean | otherw | normalw | invalw | impdep2a | impdep2b | ldqf | stqf | ldqfa | stqfa |
    pdist | fexpand | shutdown => exact effects_raise .unchanged _
  | nop | flush | membar | stbar => exact effects_complete .refl
  | prefetch | prefetcha => exact effects_ite (fun _ => effects_complete .refl) fun _ => effects_raise .unchanged _
  | flushw => exact effects_ite (fun _ => effects_complete .refl) fun _ => effects_raise .unchanged _
  | bpne | bpe | bpg | bple | bpge | bpl | bpgu | bpleu | bpcc | bpcs | bppos | bpneg | bpvc | bpvs | bne | be |
    bg | ble | bge | bl | bgu | bleu | bcc | bcs | bpos | bneg | bvc | bvs | brz | brlez | brlz | brnz | brgz |
    brgez => exact effects_branchIf _ _ _
  | bpa | ba => exact effects_branchAlways _ _
  | bpn | bn => exact effects_branchNever _
  | fbpu | fbpg | fbpug | fbpl | fbpul | fbplg | fbpne | fbpe | fbpue | fbpge | fbpuge | fbple | fbpule | fbpo |
    fbu | fbg | fbug | fbl | fbul | fblg | fbne | fbe | fbue | fbge | fbuge | fble | fbule | fbo =>
    exact effects_withFp (effects_branchIf _ _ _)
  | fbpa | fba => exact effects_withFp (effects_branchAlways _ _)
  | fbpn | fbn => exact effects_withFp (effects_branchNever _)
  | ta => exact effects_raise .unchanged _
  | tn => exact effects_complete .refl
  | tne | te | tg | tle | tge | tl | tgu | tleu | tcc | tcs | tpos | tneg | tvc | tvs => exact effects_trapIcc _ _ _ _
  | call =>
    exact effects_next (.completes (Updates.refl.writeR (.head _) _)
      (.delayedTransfer _ (by simpa using wordAligned_branchTarget _)))
  | jmpl => exact effects_execJmpl _ _ _
  | return_ => exact effects_execReturn _ _ _
  | done => exact effects_trapReturn .done
  | retry => exact effects_trapReturn .retry
  | save => exact effects_execSave _ _ _
  | restore => exact effects_execRestore _ _ _
  | saved =>
    exact effects_ite (fun _ => effects_raise .unchanged _) fun hp => effects_next (.saved (by simpa using hp))
  | restored =>
    exact effects_ite (fun _ => effects_raise .unchanged _) fun hp => effects_next (.restored (by simpa using hp))
  | sethi | add | and | or | xor | sub | andn | orn | xnor | addc | mulx | subc | sll | srl | sra | sllx | srlx |
    srax | rdy | rdccr | rdasi | rdpc | rdfprs => exact effects_writeBack .refl rfl _
  | andcc | orcc | xorcc | andncc | orncc | xnorcc | addcc | addccc | subcc | subccc | taddcc | tsubcc =>
    exact effects_writeBackCC .refl rfl rfl _ _
  | taddcctv | tsubcctv =>
    exact effects_ite (fun _ => effects_raise .unchanged _) fun _ => effects_writeBackCC .refl rfl rfl _ _
  | umul | smul => exact effects_writeBack (Updates.refl.setY rfl _) rfl _
  | umulcc | smulcc => exact effects_writeBackCC (Updates.refl.setY rfl _) rfl rfl _ _
  | mulscc => exact effects_writeBackCC (Updates.refl.drawn.setY rfl _) rfl rfl _ _
  | sdivx | udivx => exact effects_ite (fun _ => effects_raise .unchanged _) fun _ => effects_writeBack .refl rfl _
  | udiv | sdiv => exact effects_divBack rfl rfl _ _
  | udivcc | sdivcc => exact effects_divBackCC rfl rfl rfl _ _
  | mova => exact effects_writeBack .refl rfl _
  | movn => exact effects_complete .refl
  | movfa => exact effects_withFp (effects_writeBack .refl rfl _)
  | movfn => exact effects_withFp (effects_complete .refl)
  | movne | move | movg | movle | movge | movl | movgu | movleu | movcc | movcs | movpos | movneg | movvc | movvs
    | movrz | movrlez | movrlz | movrnz | movrgz | movrgez => exact effects_moveIf rfl _ _
  | movfu | movfg | movfug | movfl | movful | movflg | movfne | movfe | movfue | movfge | movfuge | movfle |
    movfule | movfo => exact effects_withFp (effects_moveIf rfl _ _)
  | rdtick | rdpic | rdstick => exact effects_unlessLocked (effects_writeBack .refl rfl _)
  | rdpcr | rdsoftint | rdtick_cmpr | rdstick_cmpr =>
    exact effects_privilegedOnly fun _ => effects_writeBack .refl rfl _
  | rdgsr => exact effects_withFp (effects_writeBack .refl rfl _)
  | rdpr =>
    exact effects_privilegedOnly fun _ =>
      effects_ite (fun _ => effects_raise .unchanged _) fun _ => effects_writeBack .refl rfl _
  | rdhpr =>
    exact effects_hyperOnly fun _ =>
      effects_ite (fun _ => effects_raise .unchanged _) fun _ => effects_writeBack .refl rfl _
  | wry => exact effects_complete (Updates.refl.setY rfl _)
  | wrccr => exact effects_complete (Updates.refl.setCcr rfl _)
  | wrgsr | siam => exact effects_withFp (effects_complete (Updates.refl.setGsr rfl _))
  | wrasi => exact effects_next (.wrasi _ _ _)
  | wrfprs => exact effects_next (.wrfprs _ _ _)
  | wrpcr => exact effects_privilegedOnly fun hp => effects_next (.wrpcr _ _ _ hp)
  | wrsoftint_set => exact effects_privilegedOnly fun hp => effects_next (.wrsoftint_set _ _ _ hp)
  | wrsoftint_clr => exact effects_privilegedOnly fun hp => effects_next (.wrsoftint_clr _ _ _ hp)
  | wrsoftint => exact effects_privilegedOnly fun hp => effects_next (.wrsoftint _ _ _ hp)
  | wrtick_cmpr => exact effects_privilegedOnly fun hp => effects_next (.wrtick_cmpr _ _ _ hp)
  | wrstick_cmpr => exact effects_privilegedOnly fun hp => effects_next (.wrstick_cmpr _ _ _ hp)
  | wrpic => exact effects_unlessLocked (effects_next (.wrpic _ _ _))
  | wrstick => exact effects_hyperOnly fun hp => effects_next (.wrstick _ _ _ hp)
  | sir => exact effects_hyperOnly fun hp => effects_next (.traps (.reset _ rfl hp))
  | wrpr => exact effects_execWrpr _ _ _
  | wrhpr => exact effects_execWrhpr _ _ _
  | fpadd16s | fpadd32s | fpsub16s | fpsub32s | fzeros | fnors | fandnot2s | fnot2s | fandnot1s | fnot1s | fxors |
    fnands | fands | fxnors | fsrc1s | fornot2s | fsrc2s | fornot1s | fors | fones => exact effects_visSingle rfl _
  | faligndata | fpadd16 | fpadd32 | fpsub16 | fpsub32 | fzero | fnor | fandnot2 | fnot2 | fandnot1 | fnot1 | fxor
    | fnand | fand | fxnor | fsrc1 | fornot2 | fsrc2 | fornot1 | for_ | fone => exact effects_visDouble rfl _
  | bshuffle => exact effects_visDouble rfl _
  | fcmple16 | fcmpne16 | fcmple32 | fcmpne32 | fcmpgt16 | fcmpeq16 | fcmpgt32 | fcmpeq32 =>
    exact effects_withFp (effects_writeBack .refl rfl _)
  | edge8n | edge8ln | edge16n | edge16ln | edge32n | edge32ln => exact effects_writeBack .refl rfl _
  | edge8cc | edge8lcc | edge16cc | edge16lcc | edge32cc | edge32lcc => exact effects_writeBackCC .refl rfl rfl _ _
  | array8 | array16 | array32 => exact effects_visArray rfl _ _ _
  | alignaddress | alignaddress_little => exact effects_withFp (effects_writeBack (Updates.refl.setGsr rfl _) rfl _)
  | bmask => exact effects_withFp (effects_writeBack (Updates.refl.setGsr rfl _) rfl _)
  | fmul8x16 | fmul8x16au | fmul8x16al | fmul8sux16 | fmul8ulx16 | fmuld8sux16 | fmuld8ulx16 | fpack32 | fpack16 |
    fpackfix | fpmerge => exact effects_raise .unchanged _
  | fmovs | fnegs | fabss => exact effects_fpMoveSingle rfl rfl _
  | fmovd | fnegd | fabsd => exact effects_fpMoveDouble rfl rfl _
  | fmovsicc | fmovsxcc | fmovsfcc | fmovrsz | fmovrslez | fmovrslz | fmovrsnz | fmovrsgz | fmovrsgez =>
    exact effects_fpMoveSingleIf rfl rfl _ _
  | fmovdicc | fmovdxcc | fmovdfcc | fmovrdz | fmovrdlez | fmovrdlz | fmovrdnz | fmovrdgz | fmovrdgez =>
    exact effects_fpMoveDoubleIf rfl rfl _ _
  | fsqrts | fqtos | fqtoi => exact effects_singleFPop rfl (effects_unimplementedFPop rfl)
  | fmovq | fnegq | fabsq | fsqrtd | fsqrtq | faddq | fsubq | fmulq | fdivq | fdmulq | fqtox | fxtoq | fqtod |
    fitoq | fstoq | fdtoq | fmovqicc | fmovqxcc | fmovqfcc | fmovrqz | fmovrqlez | fmovrqlz | fmovrqnz | fmovrqgz |
    fmovrqgez => exact effects_doubleFPop rfl (effects_unimplementedFPop rfl)
  | fcmpq | fcmpeq => exact effects_withFp (effects_unimplementedFPop rfl)
  | fcmps | fcmpd | fcmpes | fcmped => exact effects_fpCompare rfl _ _ _
  | fadds | fsubs | fmuls | fdivs | fdtos =>
    exact effects_singleFPop rfl (effects_fpFinish rfl (effects_fpSingle rfl rfl _) _ _ _)
  | faddd | fsubd | fmuld | fdivd | fsmuld | fstod =>
    exact effects_doubleFPop rfl (effects_fpFinish rfl (effects_fpDouble rfl rfl _) _ _ _)
  | fstoi | fdtoi | fxtos | fitos => exact effects_singleFPop rfl (effects_fpSingle rfl rfl _)
  | fstox | fdtox | fxtod | fitod => exact effects_doubleFPop rfl (effects_fpDouble rfl rfl _)
  | lduw | ldub | lduh | ldx | lduwa | lduba | lduha | ldxa => exact effects_loadUnsigned rfl rfl
  | ldsw | ldsb | ldsh | ldswa | ldsba | ldsha => exact effects_loadSigned rfl rfl
  | stw | stb | sth | stx | stwa | stba | stha => exact effects_storeReg rfl (.inl rfl)
  | stxa => exact effects_stxa _ _
  | ldstub | ldstuba => exact effects_atomicReg (f := fun _ => 0xFF#64) rfl rfl
  | swap rd | swapa rd => exact effects_atomicReg (f := fun _ => s.readR rd) rfl rfl
  | casa | casxa => exact effects_atomicReg rfl rfl
  | ldtw | ldtxa => exact effects_loadPair rfl rfl
  | ldtwa => exact effects_execLdtwa _ _ _
  | sttw | sttwa => exact effects_storePair rfl rfl
  | ldf | ldfa => exact effects_loadSingle rfl rfl
  | lddf | ldshortf => exact effects_loadDouble rfl (.head _) (.tail _ (.head _))
  | lddfa => exact effects_execLddfa _ _ _
  | ldblockf => exact effects_loadBlock rfl rfl
  | stf | stfa => exact effects_storeSingle rfl (.inl rfl)
  | stdf | stpartialf | stshortf => exact effects_storeDouble rfl (.inr rfl)
  | stdfa => exact effects_execStdfa _ _ _
  | stblockf => exact effects_storeBlock rfl rfl
  | ldfsr | ldxfsr =>
    exact effects_withFp (effects_loadValue rfl fun _ => effects_complete (Updates.refl.setFsr rfl _))
  | stfsr | stxfsr =>
    exact effects_withFp (effects_storeValue rfl (.inl rfl) fun h => effects_complete (h.setFsr rfl _))

theorem exec_effect {i : Instr} {s t : State} (h : exec i s = .next t) : Effect s i t := exec_effects i s t h

end Sys2Proof.Machine
end

section
/-!
PROOFS. What each part of an effect leaves unchanged: the writes of an ordinary instruction, the moves of the program
counters, a trap, a store to a register behind an ASI, WRPR and WRHPR.
-/

namespace Sys2Proof.Machine

/-! ## The writes of an ordinary instruction -/

/-- The fields that `State.kept` keeps. -/
theorem State.fields_of_kept {s t : State} (h : t.kept = s.kept) :
    t.pc = s.pc ∧ t.npc = s.npc ∧ t.win = s.win ∧ t.asi = s.asi ∧ t.pcr = s.pcr ∧ t.pic = s.pic ∧ t.tick = s.tick ∧
    t.stick = s.stick ∧ t.tickCmpr = s.tickCmpr ∧ t.stickCmpr = s.stickCmpr ∧ t.hstickCmpr = s.hstickCmpr ∧
    t.softint = s.softint ∧ t.pil = s.pil ∧ t.pstate = s.pstate ∧ t.hpstate = s.hpstate ∧ t.tl = s.tl ∧ t.gl = s.gl ∧
    t.traps = s.traps ∧ t.tba = s.tba ∧ t.htba = s.htba ∧ t.hsp = s.hsp ∧ t.scratchpad = s.scratchpad ∧
    t.hyperScratchpad = s.hyperScratchpad ∧ t.queues = s.queues ∧ t.mmu = s.mmu ∧ t.strandIntrId = s.strandIntrId ∧
    t.cmt = s.cmt ∧ t.errorState = s.errorState ∧ t.requests = s.requests := by
  simpa [State.kept] using h

namespace Updates

variable {i : Instr} {s u : State} (h : Updates i s u)
include h

theorem gl : u.gl = s.gl := show u.kept.gl = s.gl from h.kept ▸ rfl

theorem win : u.win = s.win := show u.kept.win = s.win from h.kept ▸ rfl

theorem ccr (hw : i.writesCcr = false) : u.ccr = s.ccr := by
  induction h with
  | setCcr _ hc => exact absurd hc (by simp [hw])
  | _ => simp_all

theorem y (hw : i.writesY = false) : u.y = s.y := by
  induction h with
  | setY _ hc => exact absurd hc (by simp [hw])
  | _ => simp_all

theorem gsr (hw : i.writesGsr = false) : u.gsr = s.gsr := by
  induction h with
  | setGsr _ hc => exact absurd hc (by simp [hw])
  | _ => simp_all

theorem fsr (hw : i.writesFsr = false) : u.fsr = s.fsr := by
  induction h with
  | setFsr _ hc => exact absurd hc (by simp [hw])
  | _ => simp_all

theorem wf_mem (hm : Memory.wf s.mem) : Memory.wf u.mem := by
  induction h with
  | store _ _ _ hw ih => exact hw.wf ih
  | _ => simpa

/-- Only globals of the current level that the instruction names change. -/
theorem globals (n : Fin 28) (hn : u.globals.get n ≠ s.globals.get n) :
    ∃ r ∈ i.destinations, r ≠ 0#5 ∧ r.toNat < 8 ∧ n = globalIndex s.gl r := by
  induction h with
  | refl => exact absurd rfl hn
  | @writeR u rd hu hd v ih =>
    by_cases hk : rd = 0#5 ∨ 8 ≤ rd.toNat ∨ n ≠ globalIndex u.gl rd
    · exact ih ((writesR_writeR u rd v).globals n hk ▸ hn)
    · simp only [not_or, not_not] at hk
      exact ⟨rd, hd, hk.1, by omega, hu.gl ▸ hk.2.2⟩
  | _ => simp_all

/-- Only windowed registers of the current window that the instruction names change. -/
theorem windows (n : Fin 128) (hn : u.windows.get n ≠ s.windows.get n) :
    ∃ r ∈ i.destinations, 8 ≤ r.toNat ∧ n = (windowIndex s.win.cwp r).toFin := by
  induction h with
  | refl => exact absurd rfl hn
  | @writeR u rd hu hd v ih =>
    by_cases hk : rd.toNat < 8 ∨ n ≠ (windowIndex u.win.cwp rd).toFin
    · exact ih ((writesR_writeR u rd v).windows n hk ▸ hn)
    · simp only [not_or, not_not] at hk
      exact ⟨rd, hd, by omega, hu.win ▸ hk.2⟩
  | _ => simp_all

theorem fregs (n : Fin 64) (hn : u.fregs.get n ≠ s.fregs.get n) : n ∈ i.fDestinations := by
  induction h with
  | refl => exact absurd rfl hn
  | @writeFS u f hu hd v ih =>
    by_cases hk : n = singleIndex f
    · exact hk ▸ hd
    · exact ih ((writesFS_writeFS u f v).others n hk ▸ hn)
  | @writeFD u f hu hhi hlo v ih =>
    by_cases hk : n = upperIndex f
    · exact hk ▸ hhi
    · by_cases hk' : n = lowerIndex f
      · exact hk' ▸ hlo
      · exact ih ((writesFD_writeFD u f v).others n hk hk' ▸ hn)
  | _ => simp_all

end Updates

theorem State.writeFD_fprs (s : State) (f : RegField) (v : Word) :
    (s.writeFD f v).fprs = if f.toNat % 2 = 1 then { s.fprs with du := true } else { s.fprs with dl := true } :=
  congrArg State.fprs (writesFD_writeFD s f v).rest

theorem getLsbD_zero_eq_odd : ∀ f : RegField, f.getLsbD 0 = decide (f.toNat % 2 = 1) := by decide

theorem singleIndex_lt (f : RegField) : (singleIndex f).val < 32 := f.isLt

/-- An odd field names a double register of the upper half, an even one of the lower (10_state.md R72). -/
theorem upperIndex_half (f : RegField) : 32 ≤ (upperIndex f).val ↔ f.toNat % 2 = 1 := by
  simp only [upperIndex]; omega

/-- What the dirty bits of FPRS may do: those of the halves that hold an F destination of the instruction may be set. -/
structure DirtyFrame (i : Instr) (s u : State) : Prop where
  fef : u.fprs.fef = s.fprs.fef
  dl : u.fprs.dl ≠ s.fprs.dl → ∃ n ∈ i.fDestinations, n.val < 32
  du : u.fprs.du ≠ s.fprs.du → ∃ n ∈ i.fDestinations, 32 ≤ n.val

theorem DirtyFrame.of_eq {i : Instr} {s u v : State} (h : DirtyFrame i s u) (e : v.fprs = u.fprs) :
    DirtyFrame i s v where
  fef := e ▸ h.fef
  dl := e ▸ h.dl
  du := e ▸ h.du

theorem DirtyFrame.refl (i : Instr) (s : State) : DirtyFrame i s s := ⟨rfl, absurd rfl, absurd rfl⟩

theorem DirtyFrame.single {i : Instr} {s u v : State} {f : RegField} (h : DirtyFrame i s u)
    (hd : singleIndex f ∈ i.fDestinations) (e : v.fprs = { u.fprs with dl := true }) : DirtyFrame i s v where
  fef := by rw [e]; exact h.fef
  dl _ := ⟨_, hd, singleIndex_lt f⟩
  du := by rw [e]; exact h.du

theorem DirtyFrame.double {i : Instr} {s u v : State} {f : RegField} (h : DirtyFrame i s u)
    (hd : upperIndex f ∈ i.fDestinations)
    (e : v.fprs = if f.toNat % 2 = 1 then { u.fprs with du := true } else { u.fprs with dl := true }) :
    DirtyFrame i s v := by
  have hh := upperIndex_half f
  split at e
  · exact ⟨by rw [e]; exact h.fef, by rw [e]; exact h.dl, fun _ => ⟨_, hd, hh.2 ‹_›⟩⟩
  · exact ⟨by rw [e]; exact h.fef, fun _ => ⟨_, hd, by omega⟩, by rw [e]; exact h.du⟩

theorem Updates.dirty {i : Instr} {s u : State} (h : Updates i s u) : DirtyFrame i s u := by
  induction h with
  | refl => exact .refl i s
  | writeFS _ hd v ih => exact ih.single hd rfl
  | writeFD _ hu _ v ih => exact ih.double hu (State.writeFD_fprs _ _ v)
  | _ _ => exact DirtyFrame.of_eq ‹_› (by simp)

/-! ## Before an exception -/

namespace Prepares

variable {i : Instr} {s u : State} (h : Prepares i s u)
include h

theorem rest : u = { s with fprs := u.fprs, fsr := u.fsr } := by
  cases h with
  | markDouble => unfold State.markDouble; split <;> rfl
  | _ => rfl

theorem fsr (hw : i.writesFsr = false) : u.fsr = s.fsr := by
  cases h with
  | setFsr hc => exact absurd hc (by simp [hw])
  | _ => simp

theorem dirty : DirtyFrame i s u := by
  cases h with
  | unchanged => exact .refl i s
  | markLower hd => exact (DirtyFrame.refl i s).single hd rfl
  | @markDouble f hd =>
    refine (DirtyFrame.refl i s).double hd ?_
    unfold State.markDouble
    rw [getLsbD_zero_eq_odd]
    split <;> simp_all [State.markLower]
  | setFsr => exact (DirtyFrame.refl i s).of_eq rfl

end Prepares

/-! ## A trap -/

/-- The part of a state that no trap changes: the fields that taking a trap, or what the MMU records of it, can write are
blanked. -/
def State.trapKept (s : State) : State :=
  { s with
    pc := State.reset.pc, npc := State.reset.npc, tl := State.reset.tl, gl := State.reset.gl, traps := State.reset.traps
    pstate := State.reset.pstate, hpstate := State.reset.hpstate, errorState := State.reset.errorState
    win := { s.win with cwp := State.reset.win.cwp }
    mmu :=
      { s.mmu with
        immuEnable := false, dmmuEnable := false, dsfar := State.reset.mmu.dsfar, dsfsr := State.reset.mmu.dsfsr
        dtagAccess := State.reset.mmu.dtagAccess }
    requests := State.reset.requests, freeCount := State.reset.freeCount }

/-- The fields that `State.trapKept` keeps. -/
theorem State.fields_of_trapKept {s t : State} (h : t.trapKept = s.trapKept) :
    t.globals = s.globals ∧ t.windows = s.windows ∧ t.fregs = s.fregs ∧
    (t.win.cansave = s.win.cansave ∧ t.win.canrestore = s.win.canrestore ∧ t.win.cleanwin = s.win.cleanwin ∧
      t.win.otherwin = s.win.otherwin ∧ t.win.wstateOther = s.win.wstateOther ∧
      t.win.wstateNormal = s.win.wstateNormal) ∧
    t.y = s.y ∧ t.ccr = s.ccr ∧ t.asi = s.asi ∧ t.fsr = s.fsr ∧ t.fprs = s.fprs ∧ t.gsr = s.gsr ∧ t.pcr = s.pcr ∧
    t.pic = s.pic ∧ t.tick = s.tick ∧ t.stick = s.stick ∧ t.tickCmpr = s.tickCmpr ∧ t.stickCmpr = s.stickCmpr ∧
    t.hstickCmpr = s.hstickCmpr ∧ t.softint = s.softint ∧ t.pil = s.pil ∧ t.tba = s.tba ∧ t.htba = s.htba ∧
    t.hsp = s.hsp ∧ t.scratchpad = s.scratchpad ∧ t.hyperScratchpad = s.hyperScratchpad ∧ t.queues = s.queues ∧
    (t.mmu.itlb = s.mmu.itlb ∧ t.mmu.dtlb = s.mmu.dtlb ∧ t.mmu.primaryContext = s.mmu.primaryContext ∧
      t.mmu.secondaryContext = s.mmu.secondaryContext ∧ t.mmu.partitionId = s.mmu.partitionId ∧
      t.mmu.itagAccess = s.mmu.itagAccess ∧ t.mmu.isfsr = s.mmu.isfsr) ∧
    t.strandIntrId = s.strandIntrId ∧ t.cmt = s.cmt ∧ t.mem = s.mem := by
  simpa [State.trapKept] using h

@[simp] theorem State.trapKept_enterRed (s : State) (l : Fin 7) (tt : TrapType) (c : BitVec 3) (z : Bool)
    (o : BitVec 8) : (s.enterRed l tt c z o).trapKept = s.trapKept := rfl

@[simp] theorem State.trapKept_normalTrap (s : State) (e : Exc) : (s.normalTrap e).trapKept = s.trapKept := rfl

@[simp] theorem trapKept_takeTrap (e : Exc) (s : State) : (takeTrap e s).trapKept = s.trapKept := by
  obtain ⟨_, ht⟩ | ⟨_, _, ht⟩ | ⟨_, _, ht⟩ := takeTrap_cases e s
  · rw [ht]; rfl
  · simp [ht]
  · simp [ht]

@[simp] theorem trapKept_raiseData (s : State) (a : Access) (e : Exc) : (raiseData s a e).trapKept = s.trapKept := by
  by_cases h6 : s.tl = 6
  · rw [raiseData_maxTL h6]; rfl
  · obtain ⟨_, _, _, _, ht⟩ := raiseData_below h6 a e
    rw [ht]
    exact trapKept_takeTrap e s

@[simp] theorem trapKept_softwareReset (s : State) : s.softwareReset.trapKept = s.trapKept := by
  unfold State.softwareReset; split <;> rfl

/-- A trap raises TL, or, at TL = MAXTL, leaves everything but error_state and the host's requests (60_exceptions.md R1040,
R1047). -/
def State.RisesTo (s t : State) : Prop :=
  (s.tl < t.tl ∧ t.errorState = s.errorState) ∨
  (s.tl = 6 ∧ t = { s with errorState := t.errorState, requests := t.requests })

theorem nextLevel_gt {l : Fin 7} (h : l ≠ 6) : l < nextLevel l := by
  revert l; decide

theorem takeTrap_rises (e : Exc) (s : State) : s.RisesTo (takeTrap e s) := by
  obtain ⟨h6, ht⟩ | ⟨h6, _, ht⟩ | ⟨h5, _, ht⟩ := takeTrap_cases e s
  · exact .inr ⟨h6, by rw [ht]⟩
  · exact .inl (by rw [ht]; exact ⟨nextLevel_gt h6, rfl⟩)
  · exact .inl (by rw [ht]; exact ⟨nextLevel_gt (by rintro h; simp [h] at h5), rfl⟩)

theorem raiseData_rises (s : State) (a : Access) (e : Exc) : s.RisesTo (raiseData s a e) := by
  by_cases h6 : s.tl = 6
  · exact .inr ⟨h6, by rw [raiseData_maxTL h6]⟩
  · obtain ⟨_, _, _, _, ht⟩ := raiseData_below h6 a e
    rw [ht]
    exact (takeTrap_rises e s).imp id fun h => absurd h.1 h6

theorem softwareReset_rises (s : State) : s.RisesTo s.softwareReset := by
  unfold State.softwareReset
  split
  next h6 => exact .inr ⟨Fin.ext h6, rfl⟩
  next h6 => exact .inl ⟨nextLevel_gt fun h => h6 (congrArg Fin.val h), rfl⟩

namespace Traps

variable {i : Instr} {s t : State} (h : Traps i s t)
include h

/-- A trap keeps what `State.trapKept` says of the state it is taken in, and raises TL or enters error_state. -/
theorem cases : ∃ u, Prepares i s u ∧ t.trapKept = u.trapKept ∧ u.RisesTo t := by
  cases h with
  | @raised u hu e => exact ⟨u, hu, trapKept_takeTrap e u, takeTrap_rises e u⟩
  | @dataFault a ha e => exact ⟨s, .unchanged, trapKept_raiseData s a e, raiseData_rises s a e⟩
  | reset => exact ⟨s, .unchanged, trapKept_softwareReset s, softwareReset_rises s⟩

end Traps

/-! ## The registers behind ASIs, WRPR and WRHPR -/

/-- A store to a register behind an ASI changes one of these registers alone, never D-SFAR (22_mmu.md R1481). -/
theorem writeAsiReg_rest {s t : State} {asi : BitVec 8} {va v : Word} (h : writeAsiReg s asi va v = some t) :
    t = { s with
      scratchpad := t.scratchpad, hyperScratchpad := t.hyperScratchpad, queues := t.queues
      strandIntrId := t.strandIntrId
      mmu :=
        { s.mmu with
          primaryContext := t.mmu.primaryContext, secondaryContext := t.mmu.secondaryContext
          partitionId := t.mmu.partitionId, itagAccess := t.mmu.itagAccess, dtagAccess := t.mmu.dtagAccess
          isfsr := t.mmu.isfsr, dsfsr := t.mmu.dsfsr } } := by
  have hmap : ∀ {α : Type} {o : Option α} {f : α → State}, o.map f = some t → ∃ x, t = f x := fun hm => by
    obtain ⟨x, _, hx⟩ := Option.map_eq_some_iff.1 hm
    exact ⟨x, hx.symm⟩
  unfold writeAsiReg at h
  split at h
  case h_1 | h_3 => obtain ⟨_, rfl⟩ := hmap h; rfl
  case h_4 => rw [writeCmtShared_some h]
  case h_5 => obtain ⟨_, rfl⟩ := hmap h; rfl
  case h_9 => cases h
  all_goals split at h <;> cases h <;> rfl

/-- WRPR writes the trap stack, TICK, TBA, PSTATE, TL, PIL, the window registers and GL alone (44_window_state.md R781). -/
theorem prWrite_rest (s : State) (v : Word) (pr : PrivReg) :
    prWrite s v pr =
      { s with
        traps := (prWrite s v pr).traps, tick := (prWrite s v pr).tick, tba := (prWrite s v pr).tba
        pstate := (prWrite s v pr).pstate, tl := (prWrite s v pr).tl, pil := (prWrite s v pr).pil
        win := (prWrite s v pr).win, gl := (prWrite s v pr).gl } := by
  cases pr <;> rfl

/-- WRHPR writes HPSTATE, the trap stack, HINTP, HTBA and HSTICK_CMPR alone (44_window_state.md R791). -/
theorem hprWrite_rest (s : State) (v : Word) (hpr : HyperReg) :
    hprWrite s v hpr =
      { s with
        hpstate := (hprWrite s v hpr).hpstate, traps := (hprWrite s v hpr).traps, hsp := (hprWrite s v hpr).hsp
        htba := (hprWrite s v hpr).htba, hstickCmpr := (hprWrite s v hpr).hstickCmpr } := by
  cases hpr <;> rfl

end Sys2Proof.Machine
end

section
/-!
PROOFS. Which R registers an instruction changes (10_state.md R22): `GeneralRegisterFrame`.
-/

namespace Sys2Proof.Machine

/-- The R registers after an instruction are those after its writes in some window, which is then the current one, or they
are unchanged. -/
theorem Effect.rRegisters {i : Instr} {s t : State} (h : Effect s i t) :
    (∃ w u, Updates i (s.setWin w) u ∧ t.globals = u.globals ∧ t.windows = u.windows ∧ t.win.cwp = w.cwp) ∨
    (t.globals = s.globals ∧ t.windows = s.windows) := by
  cases h with
  | completes hu hm => exact .inl ⟨s.win, _, hu, by rw [hm.rest], by rw [hm.rest], by rw [hm.rest]; exact congrArg _ hu.win⟩
  | movesWindow _ _ hu hm =>
    exact .inl ⟨_, _, hu, by rw [hm.rest], by rw [hm.rest], by rw [hm.rest]; exact congrArg _ hu.win⟩
  | traps ht =>
    obtain ⟨u, hp, hk, -⟩ := ht.cases
    obtain ⟨hg, hw, -⟩ := State.fields_of_trapKept hk
    exact .inr ⟨hg.trans (by rw [hp.rest]), hw.trans (by rw [hp.rest])⟩
  | stxaRegister _ _ _ _ hw => exact .inr ⟨by rw [writeAsiReg_rest hw]; rfl, by rw [writeAsiReg_rest hw]; rfl⟩
  | wrpr => exact .inr ⟨by rw [prWrite_rest]; rfl, by rw [prWrite_rest]; rfl⟩
  | wrhpr => exact .inr ⟨by rw [hprWrite_rest]; rfl, by rw [hprWrite_rest]; rfl⟩
  | _ => exact .inr ⟨rfl, rfl⟩

/-- Settles O12: an instruction writes its destinations alone, in the window it moves to. -/
theorem generalRegisterFrame : Obligations.GeneralRegisterFrame := by
  intro i s t hx
  obtain ⟨w, u, hu, hg, hw, hc⟩ | ⟨hg, hw⟩ := (exec_effect hx).rRegisters
  · rw [hg, hw, hc]
    exact ⟨hu.globals, hu.windows⟩
  · exact ⟨fun n hn => absurd (by rw [hg]) hn, fun n hn => absurd (by rw [hw]) hn⟩

end Sys2Proof.Machine
end

section
/-!
PROOFS. Which of the other registers an instruction changes, one lemma for each group of them: `SpecialRegisterFrame`.
-/

namespace Sys2Proof.Machine

variable {i : Instr} {s u t : State}

/-- What an ordinary instruction keeps when it completes. -/
theorem Updates.kept_of_moves (hu : Updates i s u) (hm : u.Moves t) :
    t.kept = ({ s with pc := t.pc, npc := t.npc } : State).kept := by
  calc t.kept = ({ u with pc := t.pc, npc := t.npc } : State).kept := congrArg State.kept hm.rest
    _ = { u.kept with pc := t.pc, npc := t.npc } := rfl
    _ = { s.kept with pc := t.pc, npc := t.npc } := by rw [hu.kept]

/-- What an instruction keeps when it traps: its F destination may be marked dirty and FSR written before. -/
theorem Traps.kept (h : Traps i s t) :
    t.trapKept = ({ s with fprs := t.fprs, fsr := t.fsr } : State).trapKept := by
  obtain ⟨u, hp, hk, -⟩ := h.cases
  have hf : t.fprs = u.fprs := (congrArg State.fprs hk :)
  have hs : t.fsr = u.fsr := (congrArg State.fsr hk :)
  rw [hf, hs, hk]
  exact congrArg State.trapKept hp.rest

/-- A trap raises TL, or leaves everything it could change but error_state as it was. -/
theorem Traps.rises (h : Traps i s t) :
    (s.tl < t.tl ∧ t.errorState = s.errorState) ∨
    (s.tl = 6 ∧
      t = { s with fprs := t.fprs, fsr := t.fsr, errorState := t.errorState, requests := t.requests }) := by
  obtain ⟨u, hp, -, ⟨hl, he⟩ | ⟨h6, ht⟩⟩ := h.cases
  · rw [hp.rest] at hl he
    exact .inl ⟨hl, he⟩
  · rw [hp.rest] at h6 ht
    exact .inr ⟨h6, by rw [ht]⟩

/-! ## CCR, Y, GSR and FSR -/

theorem Effect.flags (h : Effect s i t) :
    (i.writesCcr = false → t.ccr = s.ccr) ∧ (i.writesY = false → t.y = s.y) ∧ (i.writesGsr = false → t.gsr = s.gsr) ∧
    (i.writesFsr = false → t.fsr = s.fsr) := by
  cases h with
  | completes hu hm => rw [hm.rest]; exact ⟨hu.ccr, hu.y, hu.gsr, hu.fsr⟩
  | movesWindow _ _ hu hm => rw [hm.rest]; exact ⟨hu.ccr, hu.y, hu.gsr, hu.fsr⟩
  | traps ht =>
    obtain ⟨u, hp, hk, -⟩ := ht.cases
    obtain ⟨-, -, -, -, hy, hc, -, hf, -, hg, -⟩ := State.fields_of_trapKept hk
    exact ⟨fun _ => by rw [hc, hp.rest], fun _ => by rw [hy, hp.rest], fun _ => by rw [hg, hp.rest],
      fun hw => hf.trans (hp.fsr hw)⟩
  | done | retry => exact ⟨nofun, fun _ => rfl, fun _ => rfl, fun _ => rfl⟩
  | stxaRegister _ _ _ _ hw =>
    rw [writeAsiReg_rest hw]; exact ⟨fun _ => rfl, fun _ => rfl, fun _ => rfl, fun _ => rfl⟩
  | wrpr => rw [prWrite_rest]; exact ⟨fun _ => rfl, fun _ => rfl, fun _ => rfl, fun _ => rfl⟩
  | wrhpr => rw [hprWrite_rest]; exact ⟨fun _ => rfl, fun _ => rfl, fun _ => rfl, fun _ => rfl⟩
  | _ => exact ⟨fun _ => rfl, fun _ => rfl, fun _ => rfl, fun _ => rfl⟩

/-! ## The state registers that only their own write changes -/

theorem Effect.stateRegisters (h : Effect s i t) :
    (t.asi ≠ s.asi → i = .done ∨ i = .retry ∨ ∃ rs1 o, i = .wrasi rs1 o) ∧
    (t.tba ≠ s.tba → ∃ rs1 o, i = .wrpr .tba rs1 o) ∧ (t.pil ≠ s.pil → ∃ rs1 o, i = .wrpr .pil rs1 o) ∧
    (t.tick ≠ s.tick → ∃ rs1 o, i = .wrpr .tick rs1 o) ∧ (t.stick ≠ s.stick → ∃ rs1 o, i = .wrstick rs1 o) ∧
    (t.tickCmpr ≠ s.tickCmpr → ∃ rs1 o, i = .wrtick_cmpr rs1 o) ∧
    (t.stickCmpr ≠ s.stickCmpr → ∃ rs1 o, i = .wrstick_cmpr rs1 o) ∧
    (t.hstickCmpr ≠ s.hstickCmpr → ∃ rs1 o, i = .wrhpr .hstickCmpr rs1 o) ∧
    (t.htba ≠ s.htba → ∃ rs1 o, i = .wrhpr .htba rs1 o) ∧ (t.hsp ≠ s.hsp → ∃ rs1 o, i = .wrhpr .hintp rs1 o) ∧
    (t.pcr ≠ s.pcr → ∃ rs1 o, i = .wrpcr rs1 o) ∧ (t.pic ≠ s.pic → ∃ rs1 o, i = .wrpic rs1 o) ∧
    (t.softint ≠ s.softint →
      ∃ rs1 o, i = .wrsoftint rs1 o ∨ i = .wrsoftint_set rs1 o ∨ i = .wrsoftint_clr rs1 o) := by
  cases h with
  | completes hu hm => simp [State.fields_of_kept (hu.kept_of_moves hm)]
  | movesWindow _ _ hu hm => simp [State.fields_of_kept (hu.kept_of_moves hm)]
  | traps ht => simp [State.fields_of_trapKept ht.kept]
  | stxaRegister _ _ _ _ hw => rw [writeAsiReg_rest hw]; simp
  | wrpr pr => cases pr <;> simp [prWrite]
  | wrhpr hpr => cases hpr <;> simp [hprWrite]
  | _ => simp [State.returnDone, State.returnRetry]

/-! ## F registers and FPRS -/

theorem Effect.fRegisters (h : Effect s i t) (n : Fin 64) (hn : t.fregs.get n ≠ s.fregs.get n) :
    n ∈ i.fDestinations := by
  cases h with
  | completes hu hm => rw [hm.rest] at hn; exact hu.fregs n hn
  | movesWindow _ _ hu hm => rw [hm.rest] at hn; exact hu.fregs n hn
  | traps ht => simp [State.fields_of_trapKept ht.kept] at hn
  | stxaRegister _ _ _ _ hw => rw [writeAsiReg_rest hw] at hn; exact absurd rfl hn
  | wrpr => rw [prWrite_rest] at hn; exact absurd rfl hn
  | wrhpr => rw [hprWrite_rest] at hn; exact absurd rfl hn
  | _ => exact absurd rfl hn

theorem Effect.fprs (h : Effect s i t) : (∃ rs1 o, i = .wrfprs rs1 o) ∨ DirtyFrame i s t := by
  cases h with
  | completes hu hm => exact .inr (hu.dirty.of_eq (by rw [hm.rest]))
  | @movesWindow _ _ u _ _ _ hu hm =>
    have hd := hu.dirty
    exact .inr (DirtyFrame.of_eq (u := u) ⟨hd.fef, hd.dl, hd.du⟩ (by rw [hm.rest]))
  | traps ht =>
    obtain ⟨u, hp, hk, -⟩ := ht.cases
    exact .inr (hp.dirty.of_eq (congrArg State.fprs hk :))
  | wrfprs rs1 o => exact .inl ⟨rs1, o, rfl⟩
  | stxaRegister _ _ _ _ hw => exact .inr ((DirtyFrame.refl _ s).of_eq (by rw [writeAsiReg_rest hw]; rfl))
  | wrpr => exact .inr ((DirtyFrame.refl _ s).of_eq (by rw [prWrite_rest]; rfl))
  | wrhpr => exact .inr ((DirtyFrame.refl _ s).of_eq (by rw [hprWrite_rest]; rfl))
  | _ => exact .inr ((DirtyFrame.refl _ s).of_eq rfl)

/-! ## The window registers -/

theorem WindowRegs.spilled_rest (w : WindowRegs) :
    w.spilled =
      { w with cansave := w.spilled.cansave, canrestore := w.spilled.canrestore, otherwin := w.spilled.otherwin } := by
  unfold WindowRegs.spilled; split <;> rfl

theorem WindowRegs.filled_rest (w : WindowRegs) :
    w.filled =
      { w with
        cansave := w.filled.cansave, canrestore := w.filled.canrestore, otherwin := w.filled.otherwin
        cleanwin := w.filled.cleanwin } := by
  unfold WindowRegs.filled; split <;> rfl

theorem Effect.windowRegisters (h : Effect s i t) :
    (t.win.cwp ≠ s.win.cwp →
      s.tl < t.tl ∨ i.movesWindow = true ∨ i = .done ∨ i = .retry ∨ ∃ rs1 o, i = .wrpr .cwp rs1 o) ∧
    (t.win.cansave ≠ s.win.cansave →
      i.movesWindow = true ∨ i = .saved ∨ i = .restored ∨ ∃ rs1 o, i = .wrpr .cansave rs1 o) ∧
    (t.win.canrestore ≠ s.win.canrestore →
      i.movesWindow = true ∨ i = .saved ∨ i = .restored ∨ ∃ rs1 o, i = .wrpr .canrestore rs1 o) ∧
    (t.win.otherwin ≠ s.win.otherwin → i = .saved ∨ i = .restored ∨ ∃ rs1 o, i = .wrpr .otherwin rs1 o) ∧
    (t.win.cleanwin ≠ s.win.cleanwin → i = .restored ∨ ∃ rs1 o, i = .wrpr .cleanwin rs1 o) ∧
    (t.win.wstateNormal ≠ s.win.wstateNormal ∨ t.win.wstateOther ≠ s.win.wstateOther →
      ∃ rs1 o, i = .wrpr .wstate rs1 o) := by
  cases h with
  | completes hu hm => simp [State.fields_of_kept (hu.kept_of_moves hm)]
  | movesWindow hi hw hu hm =>
    obtain ⟨-, -, hwin, -⟩ := State.fields_of_kept (hu.kept_of_moves hm)
    rw [hwin, hw]
    simp [hi]
  | traps ht =>
    obtain ⟨hl, -⟩ | ⟨-, heq⟩ := ht.rises
    · simp [State.fields_of_trapKept ht.kept, hl]
    · rw [heq]; simp
  | saved => rw [WindowRegs.spilled_rest]; simp
  | restored => rw [WindowRegs.filled_rest]; simp
  | stxaRegister _ _ _ _ hw => rw [writeAsiReg_rest hw]; simp
  | wrpr pr => cases pr <;> simp [prWrite]
  | wrhpr => rw [hprWrite_rest]; simp
  | _ => simp [State.returnDone, State.returnRetry]

/-! ## The trap registers -/

theorem Effect.trapRegisters (h : Effect s i t) :
    (t.traps ≠ s.traps →
      s.tl < t.tl ∨ (∃ rs1 o, i = .wrhpr .htstate rs1 o) ∨
        ∃ pr ∈ [PrivReg.tpc, .tnpc, .tstate, .tt], ∃ rs1 o, i = .wrpr pr rs1 o) ∧
    (t.tl < s.tl → i = .done ∨ i = .retry ∨ ∃ rs1 o, i = .wrpr .tl rs1 o) ∧
    (t.gl ≠ s.gl → s.tl < t.tl ∨ i = .done ∨ i = .retry ∨ ∃ rs1 o, i = .wrpr .gl rs1 o) ∧
    (t.pstate ≠ s.pstate → s.tl < t.tl ∨ i = .done ∨ i = .retry ∨ ∃ rs1 o, i = .wrpr .pstate rs1 o) ∧
    (t.hpstate ≠ s.hpstate → s.tl < t.tl ∨ i = .done ∨ i = .retry ∨ ∃ rs1 o, i = .wrhpr .hpstate rs1 o) ∧
    (t.errorState ≠ s.errorState → s.tl = 6) := by
  cases h with
  | completes hu hm => simp [State.fields_of_kept (hu.kept_of_moves hm)]
  | movesWindow _ _ hu hm => simp [State.fields_of_kept (hu.kept_of_moves hm)]
  | traps ht =>
    obtain ⟨hl, he⟩ | ⟨h6, heq⟩ := ht.rises
    · simp [hl, he, hl.le]
    · rw [heq]; simp [h6]
  | stxaRegister _ _ _ _ hw => rw [writeAsiReg_rest hw]; simp
  | wrpr pr => cases pr <;> simp [prWrite]
  | wrhpr hpr => cases hpr <;> simp [hprWrite]
  | _ => simp [State.returnDone, State.returnRetry]

/-! ## The registers behind ASIs -/

theorem Effect.asiRegisters (h : Effect s i t) :
    (t.scratchpad ≠ s.scratchpad ∨ t.hyperScratchpad ≠ s.hyperScratchpad ∨ t.queues ≠ s.queues ∨
        t.strandIntrId ≠ s.strandIntrId ∨ t.mmu.primaryContext ≠ s.mmu.primaryContext ∨
        t.mmu.secondaryContext ≠ s.mmu.secondaryContext ∨ t.mmu.partitionId ≠ s.mmu.partitionId ∨
        t.mmu.itagAccess ≠ s.mmu.itagAccess ∨ t.mmu.isfsr ≠ s.mmu.isfsr →
      ∃ rd rs1 o, i = .stxa rd rs1 o) ∧
    t.mmu.itlb = s.mmu.itlb ∧ t.mmu.dtlb = s.mmu.dtlb ∧ t.cmt = s.cmt := by
  cases h with
  | completes hu hm => simp [State.fields_of_kept (hu.kept_of_moves hm)]
  | movesWindow _ _ hu hm => simp [State.fields_of_kept (hu.kept_of_moves hm)]
  | traps ht => simp [State.fields_of_trapKept ht.kept]
  | stxaRegister _ _ _ _ hw => rw [writeAsiReg_rest hw]; simp
  | wrpr => rw [prWrite_rest]; simp
  | wrhpr => rw [hprWrite_rest]; simp
  | _ => simp [State.returnDone, State.returnRetry]

end Sys2Proof.Machine
end

section
/-!
PROOFS. The MMU enables and the registers that record a data fault, and `SpecialRegisterFrame` from its groups.
-/

namespace Sys2Proof.Machine

variable {i : Instr} {s u t : State}

theorem Effect.mmuEnables (h : Effect s i t) :
    t.mmu.immuEnable ≠ s.mmu.immuEnable ∨ t.mmu.dmmuEnable ≠ s.mmu.dmmuEnable → s.tl < t.tl := by
  cases h with
  | completes hu hm => simp [State.fields_of_kept (hu.kept_of_moves hm)]
  | movesWindow _ _ hu hm => simp [State.fields_of_kept (hu.kept_of_moves hm)]
  | traps ht =>
    obtain ⟨hl, -⟩ | ⟨-, heq⟩ := ht.rises
    · exact fun _ => hl
    · rw [heq]; simp
  | stxaRegister _ _ _ _ hw => rw [writeAsiReg_rest hw]; simp
  | wrpr => rw [prWrite_rest]; simp
  | wrhpr => rw [hprWrite_rest]; simp
  | _ => simp [State.returnDone, State.returnRetry]

/-- The registers that record a data fault are the same in both states. -/
structure SameFaultRegisters (s t : State) : Prop where
  dsfar : t.mmu.dsfar = s.mmu.dsfar
  dsfsr : t.mmu.dsfsr = s.mmu.dsfsr
  dtagAccess : t.mmu.dtagAccess = s.mmu.dtagAccess

theorem SameFaultRegisters.of_mmu (h : t.mmu = s.mmu) : SameFaultRegisters s t := by constructor <;> rw [h]

/-- Delivering a trap records nothing: the MMU does, for a data access (22_mmu.md R1480). -/
theorem takeTrap_sameFaultRegisters (e : Exc) (s : State) : SameFaultRegisters s (takeTrap e s) := by
  obtain ⟨-, ht⟩ | ⟨-, _, ht⟩ | ⟨-, -, ht⟩ := takeTrap_cases e s <;> rw [ht]
  · exact .of_mmu rfl
  · exact ⟨rfl, rfl, rfl⟩
  · exact .of_mmu (by simp)

theorem softwareReset_sameFaultRegisters (s : State) : SameFaultRegisters s s.softwareReset := by
  unfold State.softwareReset
  split
  · exact .of_mmu rfl
  · exact ⟨rfl, rfl, rfl⟩

theorem mem_dsfarExceptions {e : Exc} : e ∈ dsfarExceptions ↔ writesDsfar e = true := by
  cases e <;> simp [dsfarExceptions, writesDsfar]

theorem mem_dtagExceptions {e : Exc} : e ∈ dtagExceptions ↔ writesDtag e = true := by
  cases e <;> simp [dtagExceptions, writesDtag]

theorem writesDsfar_of_writesDtag {e : Exc} (h : writesDtag e = true) : writesDsfar e = true := by
  cases e <;> simp_all [writesDsfar, writesDtag]

/-- The trap that records a data access: its address in D-SFAR (22_mmu.md R1480 to R1482). -/
def RecordsFault (s t : State) (a : Access) : Prop :=
  ∃ e ∈ dsfarExceptions, Takes s t e ∧ s.tl < t.tl ∧ t.mmu.dsfar = s.amMask a.addr ∧
    (t.mmu.dtagAccess ≠ s.mmu.dtagAccess → e ∈ dtagExceptions)

/-- A data fault is recorded by an exception of `dsfarExceptions` below MAXTL; every other one leaves the registers alone. -/
theorem raiseData_faultRegisters (s : State) (a : Access) (e : Exc) :
    SameFaultRegisters s (raiseData s a e) ∨ RecordsFault s (raiseData s a e) a := by
  by_cases h6 : s.tl = 6
  · rw [raiseData_maxTL h6]
    exact .inl (.of_mmu rfl)
  obtain ⟨dsfsr, ctx, k, -, ht⟩ := raiseData_below h6 a e
  have hrise : s.tl < (takeTrap e s).tl := (takeTrap_rises e s).elim And.left fun h => absurd h.1 h6
  by_cases hf : writesDsfar e = true
  · refine .inr ⟨e, mem_dsfarExceptions.2 hf, by rw [ht], by rw [ht]; exact hrise, by rw [ht]; simp [hf], fun hd => ?_⟩
    refine mem_dtagExceptions.2 (Decidable.byContradiction fun hg => hd ?_)
    rw [ht]
    simp [hg]
  · have hg : ¬writesDtag e = true := fun hd => hf (writesDsfar_of_writesDtag hd)
    refine .inl ⟨?_, ?_, ?_⟩ <;> rw [ht] <;> simp [hf, hg]

/-- The registers that record a data fault change by STXA, which leaves D-SFAR, or by a trap that records one. -/
theorem Effect.faultRegisters (h : Effect s i t) :
    SameFaultRegisters s t ∨ ((∃ rd rs1 o, i = .stxa rd rs1 o) ∧ t.mmu.dsfar = s.mmu.dsfar) ∨
      ∃ acc, (i.loadAccess s = some acc ∨ i.storeAccess s = some acc) ∧ RecordsFault s t acc := by
  cases h with
  | completes hu hm => exact .inl (.of_mmu (by simp [State.fields_of_kept (hu.kept_of_moves hm)]))
  | movesWindow _ _ hu hm => exact .inl (.of_mmu (by simp [State.fields_of_kept (hu.kept_of_moves hm)]))
  | traps ht =>
    cases ht with
    | @raised u hp e =>
      have hs := takeTrap_sameFaultRegisters e u
      rw [hp.rest] at hs ⊢
      exact .inl ⟨hs.dsfar, hs.dsfsr, hs.dtagAccess⟩
    | dataFault ha e => exact (raiseData_faultRegisters s _ e).imp id fun hr => .inr ⟨_, ha, hr⟩
    | reset => exact .inl (softwareReset_sameFaultRegisters s)
  | stxaRegister rd rs1 o _ hw => exact .inr (.inl ⟨⟨rd, rs1, o, rfl⟩, by rw [writeAsiReg_rest hw]; rfl⟩)
  | wrpr => exact .inl (.of_mmu (by rw [prWrite_rest]; rfl))
  | wrhpr => exact .inl (.of_mmu (by rw [hprWrite_rest]; rfl))
  | _ => exact .inl (.of_mmu rfl)

/-- Settles O13: the groups of registers above, together. -/
theorem specialRegisterFrame : Obligations.SpecialRegisterFrame := by
  intro i s t hx
  have h := exec_effect hx
  obtain ⟨hccr, hy, hgsr, hfsr⟩ := h.flags
  obtain ⟨hasi, htba, hpil, htick, hstick, htc, hsc, hhc, hhtba, hhsp, hpcr, hpic, hsoft⟩ := h.stateRegisters
  obtain ⟨hcwp, hcs, hcr, how, hcw, hws⟩ := h.windowRegisters
  obtain ⟨htraps, htl, hgl, hps, hhps, herr⟩ := h.trapRegisters
  obtain ⟨hregs, hitlb, hdtlb, hcmt⟩ := h.asiRegisters
  refine ⟨hccr, hy, hgsr, hfsr, hasi, htba, hpil, htick, hstick, htc, hsc, hhc, hhtba, hhsp, hpcr, hpic, hsoft,
    h.fRegisters, fun hn => ?_, fun hn => h.fprs.imp id fun hd => hd.dl hn, fun hn => h.fprs.imp id fun hd => hd.du hn,
    hcwp, hcs, hcr, how, hcw, hws, htraps, htl, hgl, hps, hhps, herr, hregs, fun hn => ?_, h.mmuEnables, hitlb, hdtlb,
    hcmt⟩
  · exact h.fprs.resolve_right fun hd => hn hd.fef
  · refine h.faultRegisters.resolve_left fun hs => ?_
    simp [hs.dsfar, hs.dsfsr, hs.dtagAccess] at hn

end Sys2Proof.Machine
end

section
/-!
PROOFS. Good states (10_state.md R60, 11_state_privileged.md R170, R171): the state after reset is one, and every step keeps
the program counters and the saved ones aligned and memory canonical.
-/

namespace Sys2Proof.Machine

variable {i : Instr} {s u t : State}

/-! ## Aligned addresses -/

theorem wordAligned_add {a b : Word} (ha : wordAligned a) (hb : wordAligned b) : wordAligned (a + b) := by
  rw [wordAligned_iff] at *
  rw [BitVec.toNat_add]
  omega

theorem wordAligned_add_four {a : Word} (h : wordAligned a) : wordAligned (a + 4#64) := wordAligned_add h (by decide)

theorem wordAligned_append_zero {n : Nat} (hn : 2 ≤ n) {m : Nat} (x : BitVec m) (h : m + n = 64) :
    wordAligned ((x ++ 0#n).cast h) := by
  apply BitVec.eq_of_getLsbD_eq
  intro j hj
  have hjn : j < n := by omega
  simp [hj, BitVec.getLsbD_append, hjn]

theorem wordAligned_amMask {a : Word} (h : wordAligned a) (s : State) : wordAligned (s.amMask a) := by
  unfold State.amMask
  split
  · rw [wordAligned_iff] at *
    simp only [BitVec.toNat_setWidth]
    omega
  · exact h

theorem wordAligned_privVector (tba : BitVec 49) (nested : Bool) (tt : TrapType) :
    wordAligned (privVector tba nested tt) :=
  wordAligned_append_zero (n := 5) (by decide) (tba ++ BitVec.ofBool nested ++ tt) rfl

theorem wordAligned_hyperVector (htba : BitVec 50) (tt : TrapType) : wordAligned (hyperVector htba tt) :=
  wordAligned_append_zero (n := 5) (by decide) (htba ++ tt) rfl

theorem wordAligned_guestWatchdogVector (htba : BitVec 50) : wordAligned (guestWatchdogVector htba) := by
  rw [wordAligned_iff, guestWatchdogVector, BitVec.toNat_append, ← Nat.shiftLeft_add_eq_or_of_lt (by decide)]
  simp only [Nat.shiftLeft_eq, BitVec.toNat_ofNat]
  omega

/-! ## Good states -/

/-- Bits 1:0 of a saved TPC and TNPC are 0 (11_state_privileged.md R170, R171). -/
structure TrapEntry.Aligned (e : TrapEntry) : Prop where
  tpc : wordAligned e.tpc
  tnpc : wordAligned e.tnpc

/-- A good state, its saved counters entry by entry. -/
theorem State.good_iff : s.Good ↔
    wordAligned s.pc ∧ wordAligned s.npc ∧ (∀ n, (s.traps.get n).Aligned) ∧ Memory.wf s.mem :=
  ⟨fun h => ⟨h.pc, h.npc, fun n => ⟨h.tpc n, h.tnpc n⟩, h.mem⟩,
    fun ⟨hpc, hnpc, ht, hm⟩ => ⟨hpc, hnpc, fun n => (ht n).tpc, fun n => (ht n).tnpc, hm⟩⟩

namespace State.Good

theorem aligned (h : s.Good) (n : Fin 6) : (s.traps.get n).Aligned := ⟨h.tpc n, h.tnpc n⟩

/-- Only the counters, the trap stack and memory matter. -/
theorem congr (h : s.Good) (hpc : t.pc = s.pc) (hnpc : t.npc = s.npc) (ht : t.traps = s.traps) (hm : t.mem = s.mem) :
    t.Good := by
  rw [State.good_iff, hpc, hnpc, ht, hm]
  exact State.good_iff.1 h

theorem savedTrap (h : s.Good) (tt : TrapType) : (s.savedTrap tt).Aligned :=
  ⟨wordAligned_amMask h.pc s, wordAligned_amMask h.npc s⟩

end State.Good

theorem aligned_set {v : Vector TrapEntry 6} (hv : ∀ n, (v.get n).Aligned) {e : TrapEntry} (he : e.Aligned)
    (k n : Fin 6) : ((v.set k.val e k.isLt).get n).Aligned := by
  by_cases hk : k = n
  · subst hk
    rw [get_set_same]
    exact he
  · rw [get_set_other _ _ _ fun hv => hk (Fin.ext hv)]
    exact hv n

theorem State.Good.setTrapEntry (h : s.Good) {e : TrapEntry} (he : e.Aligned) : (s.setTrapEntry e).Good :=
  State.good_iff.2 ⟨h.pc, h.npc, aligned_set h.aligned he _, h.mem⟩

/-- Settles O8: its fields are closed terms. -/
theorem resetIsGood : Obligations.ResetIsGood where
  pc := by decide
  npc := by decide
  tpc := by decide
  tnpc := by decide
  mem := by decide

/-- FpCheck, with a dirty bit marked or not, goes on or traps (45_fp.md R800). -/
theorem State.Good.of_withFpDest {mark : State → State} {v : State} (ht : withFpDest s mark (.next v) = .next t)
    (hv : v.Good) (hm : (takeTrap .fpDisabled (mark s)).Good) : t.Good := by
  unfold withFpDest at ht
  split at ht <;> cases ht
  · exact hv
  · exact hm

/-! ## Traps and resets -/

namespace State.Good

variable (h : s.Good)
include h

theorem requests (r : HostRequests) : ({ s with requests := r } : State).Good := h.congr rfl rfl rfl rfl

theorem enterRed (l : Fin 7) (tt : TrapType) (c : BitVec 3) (z : Bool) {o : BitVec 8} (ho : wordAligned (redVector o)) :
    (s.enterRed l tt c z o).Good :=
  State.good_iff.2 ⟨ho, wordAligned_add_four ho, aligned_set h.aligned (h.savedTrap tt) _, h.mem⟩

theorem normalTrap (e : Exc) : (s.normalTrap e).Good := by
  have hv : wordAligned (s.normalTrap e).pc := by
    simp only [State.normalTrap]
    split
    · exact wordAligned_privVector ..
    · split
      · exact wordAligned_guestWatchdogVector _
      · exact wordAligned_hyperVector ..
  exact State.good_iff.2 ⟨hv, wordAligned_add_four hv, aligned_set h.aligned (h.savedTrap e.tt) _, h.mem⟩

theorem takeTrap (e : Exc) : (takeTrap e s).Good := by
  obtain ⟨-, ht⟩ | ⟨-, _, ht⟩ | ⟨-, -, ht⟩ := takeTrap_cases e s <;> rw [ht]
  · exact h.congr rfl rfl rfl rfl
  · exact h.enterRed _ _ _ _ (by decide)
  · exact h.normalTrap e

theorem raiseData (a : Access) (e : Exc) : (raiseData s a e).Good := by
  by_cases h6 : s.tl = 6
  · rw [raiseData_maxTL h6]
    exact h.congr rfl rfl rfl rfl
  · obtain ⟨_, _, _, -, ht⟩ := raiseData_below h6 a e
    rw [ht]
    exact (h.takeTrap e).congr rfl rfl rfl rfl

theorem raiseFetch (e : Exc) : (raiseFetch s e).Good := by
  have recorded : ∀ u : State, u.Good → (recordFetchFault u e).Good := fun u hu => by
    unfold recordFetchFault
    split
    · exact hu.congr rfl rfl rfl rfl
    · exact hu
  have used : (if e = .instructionAccessError then
      { s with requests := { s.requests with instructionAccessError := false } } else s : State).Good := by
    split
    · exact h.requests _
    · exact h
  unfold Machine.raiseFetch
  refine State.Good.takeTrap ?_ e
  split
  · exact used
  · exact recorded _ used

theorem softwareReset : s.softwareReset.Good := by
  unfold State.softwareReset
  split
  · exact h.congr rfl rfl rfl rfl
  · exact h.enterRed _ _ _ _ (by decide)

theorem powerOnReset : s.powerOnReset.Good :=
  State.good_iff.2 ⟨resetIsGood.pc, resetIsGood.npc, resetIsGood.aligned, h.mem⟩

theorem warmReset : s.warmReset.Good :=
  (h.enterRed ⟨Config.maxTL, by decide⟩ 0x001#9 s.win.cwp false (o := 0x20#8) (by decide)).congr rfl rfl rfl rfl

theorem xirReset : s.xirReset.Good := by
  have hs := h.requests { s.requests with xir := false }
  unfold State.xirReset
  split
  · exact hs.congr rfl rfl rfl rfl
  · have ht := hs.enterRed (nextLevel s.tl) (s.errorState.getD 0x003#9) s.win.cwp false (o := 0x60#8) (by decide)
    exact ht.congr rfl rfl rfl rfl

theorem watchdogReset (tt : TrapType) : (s.watchdogReset tt).Good :=
  (h.enterRed (nextLevel s.tl) tt (windowTrapCwp tt s.win) false (o := 0x40#8) (by decide)).congr rfl rfl rfl rfl

theorem takeStoreError : s.takeStoreError.Good := (h.requests _).takeTrap _

theorem takeIpe : s.takeIpe.Good := (h.requests _).takeTrap _

/-! ## Instructions -/

theorem advance : s.advance.Good := State.good_iff.2 ⟨h.npc, wordAligned_add_four h.npc, h.aligned, h.mem⟩

theorem moves (hm : s.Moves t) : t.Good := by
  have h4 := wordAligned_add_four h.npc
  cases hm with
  | advance => exact h.advance
  | delayedTransfer ea ha => exact State.good_iff.2 ⟨h.npc, ha h.pc, h.aligned, h.mem⟩
  | annulDelay => exact State.good_iff.2 ⟨h4, wordAligned_add h.npc (by decide), h.aligned, h.mem⟩
  | transferAnnul ea ha => exact State.good_iff.2 ⟨ha h.pc, wordAligned_add_four (ha h.pc), h.aligned, h.mem⟩

theorem updates (hu : Updates i s u) : u.Good := by
  obtain ⟨hpc, hnpc, -, -, -, -, -, -, -, -, -, -, -, -, -, -, -, htraps, -⟩ := State.fields_of_kept hu.kept
  rw [State.good_iff, hpc, hnpc, htraps]
  exact ⟨h.pc, h.npc, h.aligned, hu.wf_mem h.mem⟩

theorem prepares (hp : Prepares i s u) : u.Good := by
  rw [hp.rest]
  exact h.congr rfl rfl rfl rfl

theorem traps (ht : Traps i s t) : t.Good := by
  cases ht with
  | raised hp e => exact (h.prepares hp).takeTrap e
  | dataFault _ e => exact h.raiseData _ e
  | reset => exact h.softwareReset

theorem returnDone : s.returnDone.Good :=
  State.good_iff.2 ⟨h.tnpc _, wordAligned_add_four (h.tnpc _), h.aligned, h.mem⟩

theorem returnRetry : s.returnRetry.Good := State.good_iff.2 ⟨h.tpc _, h.tnpc _, h.aligned, h.mem⟩

/-- What WRPR writes to TPC and TNPC has bits 1:0 at 0 (11_state_privileged.md R170, R171). -/
theorem prWrite (v : Word) (pr : PrivReg) : (prWrite s v pr).Good := by
  have hv : wordAligned (v.extractLsb' 2 62 ++ 0#2) := wordAligned_append_zero (n := 2) le_rfl _ rfl
  have he := h.aligned (trapIndex s.tl)
  cases pr with
  | tpc => exact h.setTrapEntry ⟨hv, he.tnpc⟩
  | tnpc => exact h.setTrapEntry ⟨he.tpc, hv⟩
  | tstate | tt => exact h.setTrapEntry ⟨he.tpc, he.tnpc⟩
  | _ => exact h.congr rfl rfl rfl rfl

theorem hprWrite (v : Word) (hpr : HyperReg) : (hprWrite s v hpr).Good := by
  have he := h.aligned (trapIndex s.tl)
  cases hpr with
  | htstate => exact h.setTrapEntry ⟨he.tpc, he.tnpc⟩
  | _ => exact h.congr rfl rfl rfl rfl

theorem effect (ht : Effect s i t) : t.Good := by
  cases ht with
  | completes hu hm => exact (h.updates hu).moves hm
  | traps ht => exact h.traps ht
  | @movesWindow _ w _ _ _ _ hu hm =>
    have hw : (s.setWin w).Good := h.congr rfl rfl rfl rfl
    exact (hw.updates hu).moves hm
  | done => exact h.returnDone
  | retry => exact h.returnRetry
  | @stxaRegister _ _ _ _ _ _ u _ hw =>
    have hu : u.Good := by
      rw [writeAsiReg_rest hw]
      exact h.congr rfl rfl rfl rfl
    exact hu.advance
  | wrpr pr _ _ v => exact (h.prWrite v pr).advance
  | wrhpr hpr _ _ v => exact (h.hprWrite v hpr).advance
  | _ => exact State.Good.advance (h.congr rfl rfl rfl rfl)

/-! ## Steps -/

theorem markLower : s.markLower.Good := h.congr rfl rfl rfl rfl

theorem markDouble (f : RegField) : (s.markDouble f).Good := by
  unfold State.markDouble
  split <;> exact h.congr rfl rfl rfl rfl

theorem undecodable {e : DecodeError} (ht : undecodable s e = .next t) : t.Good := by
  have setFsr : ∀ f : Fsr, ({ s with fsr := f } : State).Good := fun f => h.congr rfl rfl rfl rfl
  cases e with
  | illegalInstruction => cases ht; exact h.takeTrap _
  | unimplementedFPop => exact State.Good.of_withFpDest (mark := id) ht ((setFsr _).takeTrap _) (h.takeTrap _)
  | unimplementedFMove double rd =>
    cases double with
    | false => exact State.Good.of_withFpDest ht ((setFsr _).takeTrap _) (h.markLower.takeTrap _)
    | true =>
      exact State.Good.of_withFpDest (mark := fun u => u.markDouble rd) ht ((setFsr _).takeTrap _)
        ((h.markDouble rd).takeTrap _)

/-- One instruction: its fetch may trap, its word may not decode. -/
theorem attemptInstruction (ht : attemptInstruction s = .next t) : t.Good := by
  unfold Machine.attemptInstruction at ht
  split at ht
  · cases ht
    exact h.raiseFetch _
  · cases ht
  · split at ht
    · exact h.effect (exec_effect ht)
    · exact h.undecodable ht

theorem beforeFetch (ht : beforeFetch s = some t) : t.Good := by
  rw [beforeFetch_eq] at ht
  split at ht
  · cases ht; exact h.powerOnReset
  split at ht
  · cases ht; exact h.warmReset
  split at ht
  · cases ht; exact h.xirReset
  split at ht
  · cases ht; exact h.watchdogReset _
  split at ht
  · cases ht; exact h.takeStoreError
  split at ht
  · cases ht; exact h.takeIpe
  split at ht
  · cases ht; exact h.takeTrap _
  · obtain ⟨e, -, rfl⟩ := Option.map_eq_some_iff.1 ht
    exact h.takeTrap e

end State.Good

/-- Settles O9: what comes before the fetch keeps a state good, and so does every form of `Effect`. -/
theorem stepKeepsGood : Obligations.StepKeepsGood := by
  intro s t h ht
  have hc : s.count.Good := h.congr rfl rfl rfl rfl
  unfold step at ht
  split at ht
  · cases ht
    exact hc.beforeFetch ‹_›
  · rw [runInstruction_eq] at ht
    exact hc.attemptInstruction ht

end Sys2Proof.Machine
end

section
/-!
PROOFS. Values of several bytes: what a word is as the sum of its bytes by their weights, and `StoreThenLoad`.
-/

namespace Sys2Proof.Machine

/-! ## Words and their bytes -/

/-- A byte put after others is the new low byte of their word, as long as nothing is shifted out. -/
theorem toNat_wordOfBytes_append {bs : List Byte} (h : (wordOfBytes bs).toNat < 256 ^ 7) (b : Byte) :
    (wordOfBytes (bs ++ [b])).toNat = 256 * (wordOfBytes bs).toNat + b.toNat := by
  have hb : b.toNat < 2 ^ 8 := b.isLt
  have hshift : (wordOfBytes bs).toNat <<< 8 % 2 ^ 64 = 2 ^ 8 * (wordOfBytes bs).toNat := by
    rw [Nat.shiftLeft_eq]; omega
  have hor : wordOfBytes (bs ++ [b]) = (wordOfBytes bs <<< 8) ||| b.setWidth 64 := by
    simp [wordOfBytes]
  rw [hor, BitVec.toNat_or, BitVec.toNat_shiftLeft, hshift, BitVec.toNat_setWidth_of_le (by decide),
    ← Nat.two_pow_add_eq_or_of_lt hb]

/-- The bytes of a word are those of the word without its low byte, then the low byte. -/
theorem bytesOfWord_succ (v : Word) (n : Nat) :
    bytesOfWord v (n + 1) = bytesOfWord (v >>> 8) n ++ [v.extractLsb' 0 8] := by
  induction n with
  | zero => rfl
  | succ n ih =>
    have hbyte : v.extractLsb' (8 * (n + 1)) 8 = (v >>> 8).extractLsb' (8 * n) 8 := by
      ext i hi
      simp only [BitVec.getElem_extractLsb', BitVec.getLsbD_ushiftRight]
      congr 1
      omega
    rw [bytesOfWord, hbyte, ih]
    rfl

/-- The low n bytes of a word, put together again, are the word modulo 256^n. -/
theorem toNat_wordOfBytes_bytesOfWord (v : Word) {n : Nat} (hn : n ≤ 8) :
    (wordOfBytes (bytesOfWord v n)).toNat = v.toNat % 256 ^ n := by
  induction n generalizing v with
  | zero => simp [bytesOfWord, wordOfBytes, Nat.mod_one]
  | succ n ih =>
    have hlow := ih (v >>> 8) (by omega)
    have hfits : (wordOfBytes (bytesOfWord (v >>> 8) n)).toNat < 256 ^ 7 :=
      calc _ < 256 ^ n := hlow ▸ Nat.mod_lt _ (by positivity)
        _ ≤ 256 ^ 7 := Nat.pow_le_pow_right (by decide) (by omega)
    rw [bytesOfWord_succ, toNat_wordOfBytes_append hfits, hlow, Nat.pow_succ', Nat.mod_mul, BitVec.toNat_ushiftRight,
      BitVec.extractLsb'_toNat, Nat.shiftRight_eq_div_pow, Nat.shiftRight_zero]
    exact Nat.add_comm _ _

theorem getElem_bytesOfWord (v : Word) (n i : Nat) (h : i < (bytesOfWord v n).length) :
    (bytesOfWord v n)[i] = v.extractLsb' (8 * (n - 1 - i)) 8 := by
  induction n generalizing i with
  | zero => simp [bytesOfWord] at h
  | succ n ih =>
    cases i with
    | zero => rfl
    | succ i =>
      have hi : i < (bytesOfWord v n).length := by simpa using h
      rw [show n + 1 - 1 - (i + 1) = n - 1 - i by omega, ← ih i hi]
      rfl

theorem extractLsb'_eq_ofNat_div (v : Word) (k : Nat) : v.extractLsb' (8 * k) 8 = BitVec.ofNat 8 (v.toNat / 256 ^ k) :=
  BitVec.eq_of_toNat_eq (by
    rw [BitVec.extractLsb'_toNat, BitVec.toNat_ofNat, Nat.shiftRight_eq_div_pow, Nat.pow_mul])

/-- In either byte order, byte i of the n low bytes of a word is the one of its weight (20_memory.md R1303, R1304). -/
theorem getElem_endianOrder_bytesOfWord (v : Word) (n : Nat) (little : Bool) (i : Nat)
    (h : i < (endianOrder little (bytesOfWord v n)).length) :
    (endianOrder little (bytesOfWord v n))[i] = BitVec.ofNat 8 (v.toNat / byteWeight n little i) := by
  have hi : i < n := by simpa using h
  cases little with
  | false => simp [endianOrder, byteWeight, getElem_bytesOfWord, extractLsb'_eq_ofNat_div]
  | true =>
    have hk : n - 1 - (n - 1 - i) = i := by omega
    simp [endianOrder, byteWeight, getElem_bytesOfWord, extractLsb'_eq_ofNat_div, hk]

@[simp] theorem endianOrder_endianOrder (little : Bool) (bs : List Byte) :
    endianOrder little (endianOrder little bs) = bs := by
  cases little <;> simp [endianOrder]

/-! ## The value of n bytes -/

theorem Memory.readBytes_succ (m : List Host.Cell) (a n : Nat) :
    Memory.readBytes m a (n + 1) = Memory.readBytes m a n ++ [Memory.read m (a + n)] := by
  induction n generalizing a with
  | zero => rfl
  | succ n ih =>
    rw [Memory.readBytes, ih (a + 1), show a + 1 + n = a + (n + 1) by omega]
    rfl

/-- Big-endian, the byte at the highest address has the least weight (20_memory.md R1303). -/
theorem valueAt_succ_big (m : List Host.Cell) (a n : Nat) :
    valueAt m a (n + 1) false = 256 * valueAt m a n false + (Memory.read m (a + n)).toNat := by
  have hweight : ∀ i ∈ List.range n, (Memory.read m (a + i)).toNat * byteWeight (n + 1) false i =
      256 * ((Memory.read m (a + i)).toNat * byteWeight n false i) := fun i hi => by
    have hi : i < n := List.mem_range.1 hi
    simp only [byteWeight, Bool.false_eq_true, if_false]
    rw [show n + 1 - 1 - i = n - 1 - i + 1 by omega, Nat.pow_succ]
    ring
  rw [valueAt, List.range_succ, List.map_append, List.sum_append, List.map_congr_left hweight, List.sum_map_mul_left]
  simp [valueAt, byteWeight]

/-- Little-endian, the byte at the lowest address has the least weight (20_memory.md R1304). -/
theorem valueAt_succ_little (m : List Host.Cell) (a n : Nat) :
    valueAt m a (n + 1) true = 256 * valueAt m (a + 1) n true + (Memory.read m a).toNat := by
  have hweight : ∀ i ∈ List.range n,
      ((fun i => (Memory.read m (a + i)).toNat * byteWeight (n + 1) true i) ∘ Nat.succ) i =
        256 * ((Memory.read m (a + 1 + i)).toNat * byteWeight n true i) := fun i _ => by
    simp only [byteWeight, if_true, Function.comp, Nat.succ_eq_add_one]
    rw [show a + (i + 1) = a + 1 + i by omega, Nat.pow_succ]
    ring
  rw [valueAt, List.range_succ_eq_map, List.map_cons, List.sum_cons, List.map_map, List.map_congr_left hweight,
    List.sum_map_mul_left]
  simp [valueAt, byteWeight, Nat.add_comm]

/-- n bytes hold less than 256^n. -/
theorem valueAt_lt (m : List Host.Cell) (a n : Nat) (little : Bool) : valueAt m a n little < 256 ^ n := by
  induction n generalizing a with
  | zero => simp [valueAt]
  | succ n ih =>
    rw [Nat.pow_succ']
    cases little with
    | false =>
      have hb := (Memory.read m (a + n)).isLt
      have hn := ih a
      rw [valueAt_succ_big]
      omega
    | true =>
      have hb := (Memory.read m a).isLt
      have hn := ih (a + 1)
      rw [valueAt_succ_little]
      omega

/-- What is read is the sum of the bytes by their weights (20_memory.md R1303, R1304). -/
theorem Memory.toNat_readInt (m : List Host.Cell) (a : Nat) {n : Nat} (little : Bool) (hn : n ≤ 8) :
    (Memory.readInt m a n little).toNat = valueAt m a n little := by
  induction n generalizing a with
  | zero => cases little <;> rfl
  | succ n ih =>
    have hfits : ∀ b, valueAt m b n little < 256 ^ 7 := fun b =>
      Nat.lt_of_lt_of_le (valueAt_lt m b n little) (Nat.pow_le_pow_right (by decide) (by omega))
    have hrest : ∀ b, (wordOfBytes (endianOrder little (Memory.readBytes m b n))).toNat = valueAt m b n little :=
      fun b => ih b (by omega)
    cases little with
    | false =>
      have happ : endianOrder false (Memory.readBytes m a (n + 1)) =
          endianOrder false (Memory.readBytes m a n) ++ [Memory.read m (a + n)] := Memory.readBytes_succ m a n
      rw [Memory.readInt, happ, toNat_wordOfBytes_append (hrest a ▸ hfits a), hrest a, valueAt_succ_big]
    | true =>
      have happ : endianOrder true (Memory.readBytes m a (n + 1)) =
          endianOrder true (Memory.readBytes m (a + 1) n) ++ [Memory.read m a] := by
        simp [endianOrder, Memory.readBytes]
      rw [Memory.readInt, happ, toNat_wordOfBytes_append (hrest (a + 1) ▸ hfits (a + 1)), hrest (a + 1),
        valueAt_succ_little]

/-- A value that is stored is read back, its low n bytes (20_memory.md R1305). -/
theorem Memory.toNat_readInt_writeInt {m : List Host.Cell} (h : Memory.wf m) (a : Nat) {n : Nat} (little : Bool)
    (v : Word) (hn : n ≤ 8) :
    (Memory.readInt (Memory.writeInt m a n little v) a n little).toNat = v.toNat % 256 ^ n := by
  have hbytes := Memory.readBytes_writeBytes h a (endianOrder little (bytesOfWord v n))
  rw [length_endianOrder, length_bytesOfWord] at hbytes
  rw [Memory.readInt, Memory.writeInt, hbytes, endianOrder_endianOrder, toNat_wordOfBytes_bytesOfWord v hn]

/-- A value that is stored puts each byte where its weight says (20_memory.md R1303, R1304). -/
theorem Memory.read_writeInt {m : List Host.Cell} (h : Memory.wf m) (a : Nat) {n : Nat} (little : Bool) (v : Word)
    {i : Nat} (hi : i < n) :
    Memory.read (Memory.writeInt m a n little v) (a + i) = BitVec.ofNat 8 (v.toNat / byteWeight n little i) := by
  rw [Memory.writeInt, Memory.read_writeBytes_at h a _ i (by simpa using hi), getElem_endianOrder_bytesOfWord]

/-- Settles O15: the laws of a value's bytes above, with the frame of a store. -/
theorem storeThenLoad : Obligations.StoreThenLoad := fun m a _n little v hm hn =>
  ⟨Memory.toNat_readInt_writeInt hm a little v hn, Memory.toNat_readInt m a little hn,
    fun _ hi => Memory.read_writeInt hm a little v hi, fun _ hb => Memory.read_writeInt_other hb⟩

end Sys2Proof.Machine
end

section
/-!
PROOFS. What DataAccess answers, by its steps (22_mmu.md R1450): which TLB entry matches, the alignment, the privilege
and the legality of the ASI, then the physical address, the page of the entry that matches, or the register.
-/

namespace Sys2Proof.Machine

/-! ## The TLB -/

/-- The page sizes that exist (22_mmu.md R1454). -/
theorem pageBits_eq_some {sz : BitVec 4} {n : Nat} : pageBits sz = some n ↔ (sz, n) ∈ pageSizes := by
  have hdefined : ∀ sz : BitVec 4, pageBits sz = pageSizes.lookup sz := by decide
  have hsizes : ∀ sz : BitVec 4, ∀ p ∈ pageSizes, pageSizes.lookup sz = some p.2 ↔ p.1 = sz := by decide
  constructor
  · intro h
    unfold pageBits at h
    split at h <;> simp_all [pageSizes, Config.page256M]
  · intro h
    rw [hdefined, hsizes sz _ h]

/-- The model's match of an entry is the spec's (22_mmu.md R1452). -/
theorem TlbEntry.matchesAddr_iff (e : TlbEntry) (m : MmuState) (k : AddrKind) (a : Word) :
    e.matchesAddr m k a = true ↔ entryMatches m k a e := by
  have hcontext : ∀ c, contextId m c = contextOf m c := fun c => by cases c <;> rfl
  have hsize : (∃ p ∈ pageSizes, e.data.extractLsb' 0 4 = p.1 ∧ a.toNat / 2 ^ p.2 = e.vpn.toNat / 2 ^ p.2) ↔
      ∃ n, pageBits (TlbEntry.size e) = some n ∧ a.toNat / 2 ^ n = e.vpn.toNat / 2 ^ n := by
    simp only [pageBits_eq_some, TlbEntry.size]
    constructor
    · rintro ⟨⟨sz, n⟩, hp, rfl, ha⟩
      exact ⟨n, hp, ha⟩
    · rintro ⟨n, hp, ha⟩
      exact ⟨(_, n), hp, rfl, ha⟩
  unfold TlbEntry.matchesAddr entryMatches
  rw [hsize]
  cases hb : pageBits (TlbEntry.size e) <;> cases k <;> simp [hcontext, TlbEntry.valid, and_assoc]

theorem tlbLookup_miss_iff {tlb : List TlbEntry} {m : MmuState} {k : AddrKind} {a : Word} :
    tlbLookup tlb m k a = .miss ↔ ∀ e ∈ tlb, ¬entryMatches m k a e := by
  have hfilter : tlbLookup tlb m k a = .miss ↔ tlb.filter (fun e => e.matchesAddr m k a) = [] := by
    unfold tlbLookup
    generalize tlb.filter (fun e => e.matchesAddr m k a) = found
    match found with
    | [] | [_] | _ :: _ :: _ => simp
  simp only [hfilter, List.filter_eq_nil_iff, TlbEntry.matchesAddr_iff]

/-- A hit is the one entry that matches (22_mmu.md R1452). -/
theorem tlbLookup_hit_iff {tlb : List TlbEntry} {m : MmuState} {k : AddrKind} {a : Word} {e : TlbEntry} :
    tlbLookup tlb m k a = .hit e ↔
      ∃ before after, tlb = before ++ e :: after ∧ entryMatches m k a e ∧
        ∀ f ∈ before ++ after, ¬entryMatches m k a f := by
  have hfilter : tlbLookup tlb m k a = .hit e ↔ tlb.filter (fun e => e.matchesAddr m k a) = [e] := by
    unfold tlbLookup
    generalize tlb.filter (fun e => e.matchesAddr m k a) = found
    match found with
    | [] | [_] | _ :: _ :: _ => simp
  simp only [hfilter, List.filter_eq_cons_iff, List.filter_eq_nil_iff, TlbEntry.matchesAddr_iff, List.forall_mem_append]
  constructor
  · rintro ⟨before, after, htlb, hbefore, he, hafter⟩
    exact ⟨before, after, htlb, he, hbefore, hafter⟩
  · rintro ⟨before, after, htlb, he, hbefore, hafter⟩
    exact ⟨before, after, htlb, hbefore, he, hafter⟩

/-! ## Alignment -/

/-- PSTATE.am keeps the alignment of an address. -/
theorem toNat_amMask_mod (s : State) (a : Word) {n : Nat} (hn : n ∣ 64) : (s.amMask a).toNat % n = a.toNat % n := by
  unfold State.amMask
  split
  · rw [BitVec.toNat_setWidth_of_le (by decide), BitVec.toNat_setWidth,
      Nat.mod_mod_of_dvd _ (hn.trans (by decide))]
  · rfl

variable {s : State} {a : Access}

theorem Access.toNat_ea_mod (hn : a.size ∣ 64) : (a.ea s).toNat % a.size = a.addr.toNat % a.size := by
  unfold Access.ea
  split
  · rfl
  · exact toNat_amMask_mod s a.addr hn

theorem getLsbD_two (a : Word) : a.getLsbD 2 = decide (a.toNat / 4 % 2 = 1) := by
  rw [BitVec.getLsbD, Nat.testBit_eq_decide_div_mod_eq]

/-- An aligned access raises no alignment exception (20_memory.md R1309). -/
theorem Access.misaligned_of_aligned (hn : a.size ∣ 64) (hD : a.cls = .loadD ∨ a.cls = .storeD → a.size = 8)
    (h : a.addr.toNat % a.size = 0) : a.misaligned (a.ea s) = none := by
  have hea : (a.ea s).toNat % a.size = 0 := (Access.toNat_ea_mod hn).trans h
  have hdouble : a.size = 8 → (a.ea s).extractLsb' 0 2 = 0#2 ∧ (a.ea s).getLsbD 2 = false := fun h8 => by
    rw [h8] at hea
    exact ⟨(wordAligned_iff _).2 (by omega), (getLsbD_two _).trans (decide_eq_false (by omega))⟩
  unfold Access.misaligned
  split
  next hc => simp only [hdouble (hD (.inl hc)), ne_eq, not_true_eq_false, Bool.false_eq_true, if_false]
  next hc => simp only [hdouble (hD (.inr hc)), ne_eq, not_true_eq_false, Bool.false_eq_true, if_false]
  all_goals simp [hea]

/-! ## The steps of DataAccess -/

/-- Without privilege for its ASI an aligned access is a privileged_action (20_memory.md R1308). -/
theorem dataAccess_unprivileged (hm : a.misaligned (a.ea s) = none) (hp : a.privileged s = false) :
    dataAccess s a = .trap .privilegedAction := by
  simp [dataAccess, hm, hp]

/-- An instruction that may not use the ASI raises data_access_exception (21_asi.md R1403). -/
theorem dataAccess_illegal (hm : a.misaligned (a.ea s) = none) (hp : a.privileged s = true) (hl : a.legal = false) :
    dataAccess s a = .trap .dataAccessException := by
  cases hk : dataAddrKind s a.asi <;> simp [dataAccess, hm, hp, hl, hk, Config.vaWatch]

/-- An alignment exception comes before every other but the illegal use of a special ASI (22_mmu.md R1450). -/
theorem dataAccess_misaligned {x : Exc} (hs : a.special = false) (hm : a.misaligned (a.ea s) = some x) :
    dataAccess s a = .trap x := by
  simp [dataAccess, hs, hm]

theorem Access.finish_eq (h : s.requests.dataAccessError = false) (pa : Nat) (little : Bool) :
    a.finish s pa little = .memory pa little := by
  simp [Access.finish, h, Config.paWatch]

/-- The kinds of address that the MMU translates (22_mmu.md R1451). -/
def AddrKind.Translated (k : AddrKind) : Prop := k = .real ∨ ∃ c, k = .virtualIn c

/-! An access that no check on its ASI refuses goes where its kind of address says (22_mmu.md R1451). -/

section Legal

variable (hm : a.misaligned (a.ea s) = none) (hp : a.privileged s = true) (hl : a.legal = true)
include hm hp hl

theorem dataAccess_physical (hr : s.requests.dataAccessError = false) (hk : dataAddrKind s a.asi = .physical) :
    dataAccess s a = .memory (a.addr.toNat % 2 ^ 56) (a.little s) := by
  simp [dataAccess, hm, hp, hl, hk, Access.finish_eq hr, bypassAddr, Config.paBits]

theorem dataAccess_translated (hk : (dataAddrKind s a.asi).Translated) :
    dataAccess s a = a.translate s (dataAddrKind s a.asi) := by
  obtain h | ⟨c, h⟩ := hk <;> simp [dataAccess, hm, hp, hl, h, Config.vaWatch]

theorem dataAccess_register_eq (hk : dataAddrKind s a.asi = .register) :
    dataAccess s a = .register (a.asi.getD 0#8) (s.amMask a.addr) := by
  have hea : a.ea s = s.amMask a.addr := by rw [Access.ea, if_neg (by rw [hk]; nofun)]
  simp [dataAccess, hm, hp, hl, hk, ← hea]

end Legal

theorem Access.ea_translated (hk : (dataAddrKind s a.asi).Translated) : a.ea s = s.amMask a.addr := by
  obtain h | ⟨c, h⟩ := hk <;> rw [Access.ea, if_neg (by rw [h]; nofun)]

/-! ## The page of a translated access -/

/-- Target address bits 55:n of a TTE are what is left of its bits 55:13 (22_mmu.md R1455). -/
theorem TlbEntry.physicalAddr_eq_pageAddress {e : TlbEntry} {p : BitVec 4 × Nat} (hp : p ∈ pageSizes)
    (hs : TlbEntry.size e = p.1) (a : Word) : e.physicalAddr a = pageAddress e.data a p.2 := by
  have hbits : pageBits (TlbEntry.size e) = some p.2 := pageBits_eq_some.2 (hs ▸ hp)
  have hsizes : p.2 = 13 ∨ p.2 = 16 ∨ p.2 = 22 ∨ p.2 = 28 := by
    revert p
    simp [pageSizes]
  rw [TlbEntry.physicalAddr_eq, hbits, pageAddress, BitVec.extractLsb'_toNat, Nat.shiftRight_eq_div_pow]
  obtain h | h | h | h := hsizes <;> simp only [h, Option.getD_some] <;> omega

/-- The order of the checks on a TTE, and where the access goes if none fails (22_mmu.md R1450). -/
theorem Access.translate_hit {k : AddrKind} {e : TlbEntry} {p : BitVec 4 × Nat}
    (hr : s.requests.dataAccessError = false) (hh : tlbLookup s.mmu.dtlb s.mmu k (a.ea s) = .hit e)
    (hp : p ∈ pageSizes) (hs : TlbEntry.size e = p.1) :
    a.translate s k =
      pageOutcome e.data a.cls (a.asUser s) a.noFault (a.little s) (!a.orderInvertible s) (a.ea s) p.2 := by
  have hatomic : a.cls ∈ [InstrClass.atomic, .loadTwinX] ↔ a.cls = .atomic ∨ a.cls = .loadTwinX := by simp
  have hwrites : a.cls ∈ [InstrClass.store, .storeX, .storeD, .storeBlock, .atomic] ↔ writesMemory a.cls = true := by
    cases a.cls <;> simp [writesMemory]
  unfold Access.translate
  simp only [hh, Access.finish_eq hr, TlbEntry.physicalAddr_eq_pageAddress hp hs]
  unfold Access.pageCheck pageOutcome
  simp only [hatomic, hwrites, TlbEntry.privilegedPage, TlbEntry.nfo, TlbEntry.sideEffect, TlbEntry.cacheable,
    TlbEntry.writable, TlbEntry.invertEndian]
  simp only [Bool.and_eq_true, Bool.not_eq_true', Bool.or_eq_true, decide_eq_true_eq, Bool.not_not,
    and_comm (a := writesMemory a.cls = true)]
  split_ifs <;> rfl

end Sys2Proof.Machine
end

section
/-!
PROOFS. Implicit-ASI accesses: where they go and the exceptions they raise, and `ImplicitAccess`.
-/

namespace Sys2Proof.Machine

variable {s : State} {a : Access}

/-! ## An access the MMU translates -/

/-- What the TLB makes of an access: a miss, or the page of the entry that matches (22_mmu.md R1450). -/
structure TranslatesTo (s : State) (a : Access) (kind : AddrKind) (user noFault little fixed : Bool) : Prop where
  miss : tlbLookup s.mmu.dtlb s.mmu kind (s.amMask a.addr) = .miss →
    dataAccess s a = .trap (if kind = .real then .dataRealTranslationMiss else .fastDataAccessMMUMiss)
  refused : ∀ {e x}, tlbLookup s.mmu.dtlb s.mmu kind (s.amMask a.addr) = .hit e → a.pageCheck s e = some x →
    dataAccess s a = .trap x
  hit : s.requests.dataAccessError = false → ∀ e : TlbEntry,
    tlbLookup s.mmu.dtlb s.mmu kind (s.amMask a.addr) = .hit e → ∀ p ∈ pageSizes, TlbEntry.size e = p.1 →
      dataAccess s a = pageOutcome e.data a.cls user noFault little fixed (s.amMask a.addr) p.2

theorem translatesTo (hm : a.misaligned (a.ea s) = none) (hp : a.privileged s = true) (hl : a.legal = true)
    (hk : (dataAddrKind s a.asi).Translated) :
    TranslatesTo s a (dataAddrKind s a.asi) (a.asUser s) a.noFault (a.little s) (!a.orderInvertible s) := by
  have hgoes := dataAccess_translated hm hp hl hk
  have hea := Access.ea_translated hk
  exact
    { miss := fun h => by rw [hgoes, Access.translate, hea, h]
      refused := fun h hx => by rw [hgoes, Access.translate, hea, h]; simp only [hx]
      hit := fun hr _ h _ hp hs => by rw [hgoes, Access.translate_hit hr (hea ▸ h) hp hs, hea] }

/-! ## Alignment exceptions (20_memory.md R1309) -/

theorem Access.misaligned_scalar {ea : Word} (hc : a.cls ∈ [InstrClass.load, .store, .atomic])
    (h : ea.toNat % a.size ≠ 0) : a.misaligned ea = some .memAddressNotAligned := by
  obtain hc | hc | hc : a.cls = .load ∨ a.cls = .store ∨ a.cls = .atomic := by simpa using hc
  all_goals rw [Access.misaligned, hc]; exact if_pos h

theorem Access.misaligned_double {ea : Word} (hc : a.cls = .loadD ∨ a.cls = .storeD) (h : ea.toNat % 4 ≠ 0) :
    a.misaligned ea = some .memAddressNotAligned := by
  have hword : ea.extractLsb' 0 2 ≠ 0#2 := fun hw => h ((wordAligned_iff ea).1 hw)
  obtain hc | hc := hc
  all_goals rw [Access.misaligned, hc]; exact if_pos hword

/-- A double at an address that is only word aligned has an exception of its own. -/
theorem Access.misaligned_half {ea : Word} (h : ea.toNat % 8 = 4) :
    (a.cls = .loadD → a.misaligned ea = some .lddfMemAddressNotAligned) ∧
    (a.cls = .storeD → a.misaligned ea = some .stdfMemAddressNotAligned) := by
  have hword : ¬ea.extractLsb' 0 2 ≠ 0#2 := not_not.2 ((wordAligned_iff ea).2 (by omega))
  have hbit : ea.getLsbD 2 = true := (getLsbD_two ea).trans (decide_eq_true (by omega))
  constructor <;> intro hc <;> rw [Access.misaligned, hc] <;> exact (if_neg hword).trans (if_pos hbit)

/-! ## The implicit ASI -/

section Implicit

variable {cls : InstrClass} {addr : Word} {n : Nat}

/-- An access without an explicit ASI. -/
abbrev Access.implicit (cls : InstrClass) (addr : Word) (n : Nat) : Access := { cls, asi := none, addr, size := n }

/-- Its kind of address is the state's (20_memory.md R1306, 22_mmu.md R1451). -/
theorem dataAddrKind_implicit (s : State) :
    dataAddrKind s none =
      if s.hpstate.red = true ∨ s.hpstate.hpriv = true then .physical
      else if s.mmu.dmmuEnable then .virtualIn (if s.tl = 0 then .primary else .nucleus) else .real := by
  simp [dataAddrKind, State.implicitContext]

/-- In RED_state and in hyperprivileged mode it is physical (22_mmu.md R1451, R1462). -/
theorem dataAccess_implicit_physical
    (hm : (Access.implicit cls addr n).misaligned ((Access.implicit cls addr n).ea s) = none)
    (hr : s.requests.dataAccessError = false) (hk : s.hpstate.red = true ∨ s.hpstate.hpriv = true) :
    dataAccess s (Access.implicit cls addr n) = .memory (addr.toNat % 2 ^ 56) s.pstate.cle :=
  dataAccess_physical hm rfl rfl hr ((dataAddrKind_implicit s).trans (if_pos hk))

/-- Otherwise it is translated in the context of the trap level, or as a real address with the DMMU off (22_mmu.md
R1451). -/
theorem implicit_translatesTo
    (hm : (Access.implicit cls addr n).misaligned ((Access.implicit cls addr n).ea s) = none)
    (hred : s.hpstate.red = false) (hhp : s.hpstate.hpriv = false) :
    TranslatesTo s (Access.implicit cls addr n)
      (if s.mmu.dmmuEnable then .virtualIn (if s.tl = 0 then .primary else .nucleus) else .real)
      (decide (s.mode = .nonprivileged)) false s.pstate.cle false := by
  have hkind : dataAddrKind s none =
      if s.mmu.dmmuEnable then .virtualIn (if s.tl = 0 then .primary else .nucleus) else .real :=
    (dataAddrKind_implicit s).trans (if_neg (by simp [hred, hhp]))
  have huser : (Access.implicit cls addr n).asUser s = decide (s.mode = .nonprivileged) := by simp [Access.asUser]
  rw [← hkind, ← huser]
  refine translatesTo hm rfl rfl ?_
  show (dataAddrKind s none).Translated
  rw [hkind]
  split
  · exact .inr ⟨_, rfl⟩
  · exact .inl rfl

end Implicit

/-! ## The obligation -/

section Implicit

variable {cls : InstrClass} {addr : Word} {n : Nat}

/-- The accesses of at most a doubleword that are aligned (20_memory.md R1309). -/
theorem Access.implicit_aligned (hn : n ∈ [1, 2, 4, 8]) (ha : addr.toNat % n = 0)
    (hc : cls ∈ [.load, .store, .atomic] ∨ cls ∈ [.loadD, .storeD] ∧ n = 8) :
    (Access.implicit cls addr n).misaligned ((Access.implicit cls addr n).ea s) = none := by
  have hdvd : ∀ n ∈ [1, 2, 4, 8], n ∣ 64 := by decide
  refine Access.misaligned_of_aligned (hdvd n hn) (fun hD => ?_) ha
  obtain hc | ⟨-, h8⟩ := hc
  · obtain h | h := hD <;> simp_all
  · exact h8

/-- What a page whose bits allow the access makes of it: a physical address (22_mmu.md R1455 to R1461). -/
theorem pageOutcome_allowed {e : TlbEntry} {user : Bool} (huser : e.privilegedPage = true → user = false)
    (hnfo : e.nfo = false) (hcp : cls ∈ [InstrClass.atomic, .loadTwinX] → e.cacheable = true)
    (hw : cls ∈ [InstrClass.store, .storeX, .storeD, .storeBlock, .atomic] → e.writable = true) (little : Bool)
    (k : Nat) :
    pageOutcome e.data cls user false little false addr k =
      .memory (pageAddress e.data addr k) (little != e.data.getLsbD 12) := by
  have h8 : ¬(e.data.getLsbD 8 = true ∧ user = true) := fun ⟨h, hu⟩ => by rw [huser h] at hu; cases hu
  have h62 : ¬(e.data.getLsbD 62 = true ∧ (!false) = true) := fun h => Bool.false_ne_true (hnfo.symm.trans h.1)
  have h10 : ¬((!e.data.getLsbD 10) = true ∧ cls ∈ [InstrClass.atomic, .loadTwinX]) := fun ⟨h, hc⟩ => by
    rw [show e.data.getLsbD 10 = true from hcp hc] at h; cases h
  have h6 : ¬((!e.data.getLsbD 6) = true ∧ cls ∈ [InstrClass.store, .storeX, .storeD, .storeBlock, .atomic]) :=
    fun ⟨h, hc⟩ => by rw [show e.data.getLsbD 6 = true from hw hc] at h; cases h
  rw [pageOutcome, if_neg h8, if_neg h62, if_neg (fun h => Bool.false_ne_true h.2), if_neg h10, if_neg h6,
    Bool.not_false, Bool.and_true]

/-- With PSTATE.am = 0 an access is made at its address. -/
theorem Access.ea_of_am (h : s.pstate.am = false) (a : Access) : a.ea s = a.addr := by
  simp [Access.ea, State.amMask, h]

/-- Outside hyperprivileged mode PSTATE.priv tells the mode (60_exceptions.md R1002). -/
theorem State.mode_of_not_hpriv (h : s.hpstate.hpriv = false) :
    s.mode = .nonprivileged ↔ s.pstate.priv = false := by
  unfold State.mode
  cases hp : s.pstate.priv <;> simp [h]

/-- With the DMMU on, outside RED_state and hyperprivileged mode, an implicit access is translated in the context of the
trap level. -/
theorem implicit_translatesTo_virtual (hhp : s.hpstate.hpriv = false) (hred : s.hpstate.red = false)
    (hd : s.mmu.dmmuEnable = true) (hn : n ∈ [1, 2, 4, 8]) (ha : addr.toNat % n = 0)
    (hc : cls ∈ [.load, .store, .atomic] ∨ cls ∈ [.loadD, .storeD] ∧ n = 8) :
    TranslatesTo s (.implicit cls addr n) (.virtualIn (if s.tl = 0 then .primary else .nucleus)) (!s.pstate.priv) false
      s.pstate.cle false := by
  have ht := implicit_translatesTo (s := s) (Access.implicit_aligned hn ha hc) hred hhp
  have huser : decide (s.mode = .nonprivileged) = !s.pstate.priv := by
    cases hp : s.pstate.priv <;> simp [State.mode_of_not_hpriv hhp, hp]
  rwa [if_pos hd, huser] at ht

end Implicit

/-- Settles O40: the TLB's rules, then an implicit access that is aligned and one that is not. -/
theorem implicitAccess : Obligations.ImplicitAccess := by
  refine ⟨fun tlb m k a => ⟨tlbLookup_miss_iff, fun e => tlbLookup_hit_iff⟩, ?_, ?_⟩
  · intro s cls addr n hn ha hr
    refine ⟨fun hk hc => dataAccess_implicit_physical (Access.implicit_aligned hn ha hc) hr hk.symm, ?_⟩
    intro hhp hred hd ham hc e hhit hpriv hnfo hcp hw hs
    have hmask : s.amMask addr = addr := by simp [State.amMask, ham]
    have ht := implicit_translatesTo_virtual hhp hred hd hn ha hc
    have hpage := ht.hit hr e (hmask.symm ▸ hhit) (0#4, 13) (by decide) hs
    rw [hmask] at hpage
    refine hpage.trans (pageOutcome_allowed (fun h => ?_) hnfo (fun h => hcp ?_) (fun h => hw ?_) _ 13)
    · rw [hpriv h]; rfl
    · revert h hc; cases cls <;> simp
    · revert h hc; cases cls <;> simp
  · intro s cls addr n hn hhp hred hd ham
    have hmask : s.amMask addr = addr := by simp [State.amMask, ham]
    have hunaligned : ∀ {x}, (Access.implicit cls addr n).misaligned addr = some x →
        dataAccess s (.implicit cls addr n) = .trap x := fun h =>
      dataAccess_misaligned rfl (by rwa [Access.ea_of_am ham])
    refine ⟨fun hc ha => hunaligned (Access.misaligned_scalar hc ha),
      fun ha _ hc => hunaligned (Access.misaligned_double hc ha), fun ha _ => ?_, fun ha hc => ?_⟩
    · obtain ⟨hload, hstore⟩ := Access.misaligned_half (a := .implicit cls addr n) ha
      exact ⟨fun hc => hunaligned (hload hc), fun hc => hunaligned (hstore hc)⟩
    · have ht := implicit_translatesTo_virtual hhp hred hd hn ha (.inl hc)
      refine ⟨fun h => ht.miss (hmask.symm ▸ h), fun e h => ?_⟩
      have hrefused : ∀ {x}, (Access.implicit cls addr n).pageCheck s e = some x →
          dataAccess s (.implicit cls addr n) = .trap x := ht.refused (hmask.symm ▸ h)
      refine ⟨fun (h8 : e.privilegedPage = true) hp => hrefused ?_,
        fun (h8 : e.privilegedPage = false) (h62 : e.nfo = false) hst (h6 : e.writable = false) => hrefused ?_,
        fun (h8 : e.privilegedPage = false) (h62 : e.nfo = false) hat (h10 : e.cacheable = false) => hrefused ?_⟩
      · simp [Access.pageCheck, h8, Access.asUser, State.mode_of_not_hpriv hhp, hp]
      · simp [Access.pageCheck, h8, h62, Access.noFault, hst, writesMemory, h6]
      · simp [Access.pageCheck, h8, h62, Access.noFault, hat, h10]

end Sys2Proof.Machine
end

section
/-!
PROOFS. Explicit-ASI accesses: the model's tables of ASIs against the rows of 21_asi.md, and where an access with each
of them goes.
-/

namespace Sys2Proof.Machine

variable {s : State} {cls : InstrClass} {addr : Word} {n : Nat}

/-! ## The tables of ASIs (21_asi.md R1401 to R1417) -/

/-- The address an ASI presents where the MMU is on (22_mmu.md R1451). -/
def AsiKind.addrKind : AsiKind → AddrKind
  | .virtualAddr c => .virtualIn c
  | .realAddr => .real
  | .register => .register

theorem asiTable_row : ∀ row ∈ asiRows, (asiTable row.asi).map (fun t => t.1.addrKind) = some row.kind := by decide

theorem asiRows_real : ∀ row ∈ asiRows, row.kind = .real → row.physical = false := by decide

theorem asiRows_translated : ∀ row ∈ asiRows, row.kind.Translated := by
  have hkinds : ∀ row ∈ asiRows,
      row.kind = .real ∨ row.kind ∈ [Context.primary, .secondary, .nucleus].map .virtualIn := by decide
  intro row hrow
  refine (hkinds row hrow).imp id fun h => ?_
  obtain ⟨c, -, hc⟩ := List.mem_map.1 h
  exact ⟨c, hc.symm⟩

theorem asiRows_attributes : ∀ row ∈ asiRows,
    physicalInHyper row.asi = row.physical ∧ asiLittle row.asi = row.little ∧ asIfUser row.asi = row.asUser ∧
      fixedOrderInHyper row.asi = row.fixedOrder ∧ isNoFaultAsi row.asi = row.noFault := by decide

theorem asiLegalFor_row (cls : InstrClass) :
    ∀ row ∈ asiRows, asiLegalFor cls row.asi = decide (cls ∈ row.classes) := by
  cases cls <;> decide

theorem asiTable_unlisted :
    ∀ asi, asiTable asi = none ∨ asi ∈ registerAsis ∨ asi ∈ asiRows.map AsiRow.asi := by decide

theorem asiTable_of_mem_registerAsis : ∀ asi ∈ registerAsis, asiTable asi = some (.register, .xOnly) := by decide

/-- An ASI of no row reaches a register, by LDXA and STXA alone, or is legal for no instruction (21_asi.md R1403, D23,
D34). -/
theorem asiLegalFor_unlisted {asi : BitVec 8} (h : ∀ row ∈ asiRows, row.asi ≠ asi) (cls : InstrClass) :
    asiLegalFor cls asi = decide (asi ∈ registerAsis ∧ cls ∈ [.loadX, .storeX]) := by
  have hnone : ∀ asi ∈ registerAsis, asiTable asi ≠ none := by decide
  obtain ht | hr | hrow := asiTable_unlisted asi
  · have hr : asi ∉ registerAsis := fun hr => hnone asi hr ht
    simp [asiLegalFor, ht, hr]
  · have ht := asiTable_of_mem_registerAsis asi hr
    unfold asiLegalFor
    cases cls <;> simp [ht, hr]
  · obtain ⟨row, hmem, ha⟩ := List.mem_map.1 hrow
    exact absurd ha (h row hmem)

theorem asiPrivileged_iff (m : Mode) (asi : BitVec 8) : asiPrivileged m asi = true ↔ asiPermitted m asi := by
  cases m <;> simp [asiPrivileged, or_comm]

/-! ## Where an explicit ASI sends an access -/

/-- The kind of address that a row presents (22_mmu.md R1451). -/
theorem dataAddrKind_row {row : AsiRow} (hrow : row ∈ asiRows) (s : State) :
    dataAddrKind s (some row.asi) =
      if s.hpstate.red = true ∨ s.hpstate.hpriv = true ∧ row.physical = true then .physical
      else if s.mmu.dmmuEnable then row.kind else .real := by
  obtain ⟨⟨k, c⟩, htable, hkind⟩ := Option.map_eq_some_iff.1 (asiTable_row row hrow)
  have hreal := asiRows_real row hrow
  have htranslated := asiRows_translated row hrow
  obtain ⟨hphys, -⟩ := asiRows_attributes row hrow
  rw [← hkind] at hreal htranslated ⊢
  cases k with
  | virtualAddr c => simp [dataAddrKind, htable, hphys, AsiKind.addrKind]
  | realAddr => simp [dataAddrKind, htable, hreal rfl, AsiKind.addrKind]
  | register => obtain h | ⟨_, h⟩ := htranslated <;> cases h

/-- An access with an explicit ASI. -/
abbrev Access.explicit (cls : InstrClass) (asi : BitVec 8) (addr : Word) (n : Nat) : Access :=
  { cls, asi := some asi, addr, size := n }

theorem Access.misaligned_of_accessSizes (hn : n ∈ accessSizes cls) (ha : addr.toNat % n = 0)
    (asi : Option (BitVec 8)) :
    ({ cls, asi, addr, size := n } : Access).misaligned (({ cls, asi, addr, size := n } : Access).ea s) = none := by
  have hdvd : ∀ n ∈ accessSizes cls, n ∣ 64 := by cases cls <;> decide
  refine Access.misaligned_of_aligned (hdvd n hn) (fun hD => ?_) ha
  obtain rfl | rfl := hD <;> simpa [accessSizes] using hn

section Aligned

variable (hn : n ∈ accessSizes cls) (ha : addr.toNat % n = 0)
include hn ha

/-- The mode decides first who may use an ASI (20_memory.md R1308). -/
theorem dataAccess_forbidden {asi : BitVec 8} (hp : ¬asiPermitted s.mode asi) :
    dataAccess s (.explicit cls asi addr n) = .trap .privilegedAction :=
  dataAccess_unprivileged (Access.misaligned_of_accessSizes hn ha _)
    (Bool.eq_false_iff.2 fun h => hp ((asiPrivileged_iff _ _).1 h))

/-- Then the ASI decides for which instructions (21_asi.md R1403). -/
theorem dataAccess_unusable {asi : BitVec 8} (hp : asiPermitted s.mode asi) (hl : asiLegalFor cls asi = false) :
    dataAccess s (.explicit cls asi addr n) = .trap .dataAccessException :=
  dataAccess_illegal (Access.misaligned_of_accessSizes hn ha _) ((asiPrivileged_iff _ _).2 hp) hl

/-- An ASI of no row reaches a register or is refused (21_asi.md R1417, D23, D34). -/
theorem dataAccess_unlisted {asi : BitVec 8} (h : ∀ row ∈ asiRows, row.asi ≠ asi) (hp : asiPermitted s.mode asi) :
    dataAccess s (.explicit cls asi addr n) =
      if asi ∈ registerAsis ∧ cls ∈ [.loadX, .storeX] then .register asi (s.amMask addr)
      else .trap .dataAccessException := by
  have hl := asiLegalFor_unlisted h cls
  split
  next hc =>
    refine dataAccess_register_eq (Access.misaligned_of_accessSizes hn ha _) ((asiPrivileged_iff _ _).2 hp)
      (hl.trans (decide_eq_true hc)) ?_
    simp only [dataAddrKind, asiTable_of_mem_registerAsis asi hc.1]
  next hc => exact dataAccess_unusable hn ha hp (hl.trans (decide_eq_false hc))

section Row

variable {row : AsiRow} (hrow : row ∈ asiRows) (hp : asiPermitted s.mode row.asi) (hc : cls ∈ row.classes)
include hrow hp hc

theorem dataAccess_row_physical (hr : s.requests.dataAccessError = false)
    (hk : s.hpstate.red = true ∨ s.hpstate.hpriv = true ∧ row.physical = true) :
    dataAccess s (.explicit cls row.asi addr n) = .memory (addr.toNat % 2 ^ 56) row.little := by
  obtain ⟨-, hlittle, -⟩ := asiRows_attributes row hrow
  rw [← hlittle]
  exact dataAccess_physical (Access.misaligned_of_accessSizes hn ha _) ((asiPrivileged_iff _ _).2 hp)
    ((asiLegalFor_row cls row hrow).trans (decide_eq_true hc)) hr ((dataAddrKind_row hrow s).trans (if_pos hk))

theorem row_translatesTo (hk : ¬(s.hpstate.red = true ∨ s.hpstate.hpriv = true ∧ row.physical = true)) :
    TranslatesTo s (.explicit cls row.asi addr n) (if s.mmu.dmmuEnable then row.kind else .real)
      (decide (s.mode = .nonprivileged) || row.asUser) row.noFault row.little
      (s.hpstate.hpriv && row.fixedOrder) := by
  obtain ⟨-, hlittle, huser, hfixed, hnf⟩ := asiRows_attributes row hrow
  have hkind := (dataAddrKind_row hrow s).trans (if_neg hk)
  have horder : (s.hpstate.hpriv && row.fixedOrder) = !(Access.explicit cls row.asi addr n).orderInvertible s := by
    simp [Access.orderInvertible, hfixed]
  rw [← hlittle, ← huser, ← hnf, ← hkind, horder]
  refine translatesTo (Access.misaligned_of_accessSizes hn ha _) ((asiPrivileged_iff _ _).2 hp)
    ((asiLegalFor_row cls row hrow).trans (decide_eq_true hc)) ?_
  show (dataAddrKind s (some row.asi)).Translated
  rw [hkind]
  split
  · exact asiRows_translated row hrow
  · exact .inl rfl

end Row

end Aligned

/-- Without an injected error the two parts of a translated access, as `AddressSpacesAndRefusedAccesses` says them. -/
theorem TranslatesTo.miss_and_hit {a : Access} {kind : AddrKind} {user noFault little fixed : Bool}
    (h : TranslatesTo s a kind user noFault little fixed) (hr : s.requests.dataAccessError = false) :
    (tlbLookup s.mmu.dtlb s.mmu kind (s.amMask a.addr) = .miss →
      dataAccess s a = .trap (if kind = .real then .dataRealTranslationMiss else .fastDataAccessMMUMiss)) ∧
    ∀ e : TlbEntry, tlbLookup s.mmu.dtlb s.mmu kind (s.amMask a.addr) = .hit e → ∀ p ∈ pageSizes,
      TlbEntry.size e = p.1 →
        dataAccess s a = pageOutcome e.data a.cls user noFault little fixed (s.amMask a.addr) p.2 :=
  ⟨h.miss, h.hit hr⟩

end Sys2Proof.Machine
end

section
/-!
PROOFS. A refused access: every load, store and atomic that makes its access answers the trap of its exception.
-/

namespace Sys2Proof.Machine

/-- The meaning `r` of an instruction that makes access `a` in state `s` is the trap of the exception that refuses it. -/
def Refused (s : State) (a : Access) (r : Result) : Prop :=
  ∀ e, dataAccess s a = .trap e → r = .next (raiseData s a e)

section Rules

variable {s : State} {a : Access} {rd : RegField}

/-! ## One rule for each way an access is made -/

theorem refused_withAccess (f : Nat → Bool → Result) (g : BitVec 8 → Word → Result) :
    Refused s a (withAccess s a f g) := fun _ h => withAccess_trap h f g

theorem refused_withFp {k : Result} (hf : s.fpEnabled = true) (hk : Refused s a k) : Refused s a (withFp s k) := by
  rwa [withFp, if_pos hf]

theorem refused_withFpDest {mark : State → State} {k : Result} (hf : s.fpEnabled = true) (hk : Refused s a k) :
    Refused s a (withFpDest s mark k) := by
  rwa [withFpDest, if_pos hf]

theorem isEven_iff : ∀ rd : RegField, isEven rd = true ↔ rd.toNat % 2 = 0 := by decide

theorem blockAligned_iff : ∀ rd : RegField, blockAligned rd = true ↔ blockRegister rd := by decide

theorem refused_loadPair (he : rd.toNat % 2 = 0) (part : Nat) : Refused s a (loadPair s a part rd) := by
  rw [loadPair, (isEven_iff rd).2 he, Bool.not_true, if_neg Bool.false_ne_true]
  exact refused_withAccess _ _

theorem refused_storePair (he : rd.toNat % 2 = 0) : Refused s a (storePair s a rd) := by
  rw [storePair, (isEven_iff rd).2 he, Bool.not_true, if_neg Bool.false_ne_true]
  exact refused_withAccess _ _

theorem refused_loadSingle (hf : s.fpEnabled = true) : Refused s a (loadSingle s a rd) :=
  refused_withFpDest hf (refused_withAccess _ _)

theorem refused_loadDouble (hf : s.fpEnabled = true) : Refused s a (loadDouble s a rd) :=
  refused_withFpDest hf (refused_withAccess _ _)

theorem refused_storeSingle (hf : s.fpEnabled = true) : Refused s a (storeSingle s a rd) :=
  refused_withFp hf (refused_withAccess _ _)

theorem refused_storeDouble (hf : s.fpEnabled = true) : Refused s a (storeDouble s a rd) :=
  refused_withFp hf (refused_withAccess _ _)

theorem refused_loadBlock (hf : s.fpEnabled = true) (hb : blockRegister rd) : Refused s a (loadBlock s a rd) := by
  rw [loadBlock, (blockAligned_iff rd).2 hb, Bool.not_true, if_neg Bool.false_ne_true]
  exact refused_withFpDest hf (refused_withAccess _ _)

theorem refused_storeBlock (hf : s.fpEnabled = true) (hb : blockRegister rd) : Refused s a (storeBlock s a rd) := by
  rw [storeBlock, (blockAligned_iff rd).2 hb, Bool.not_true, if_neg Bool.false_ne_true]
  exact refused_withFp hf (refused_withAccess _ _)

end Rules

/-! ## The instructions whose ASI decides what they are -/

section ByAsi

variable {s : State} {rd rs1 : RegField} {o : AsiOp2}

theorem refused_execLdtwa (he : rd.toNat % 2 = 0) :
    Refused s (if isTwinAsi (asiOf s o) then altAccess s .loadTwinX rs1 o 16 else altAccess s .load rs1 o 8)
      (execLdtwa rd rs1 o s) := by
  unfold execLdtwa
  split
  · exact refused_loadPair he 8
  · exact refused_loadPair he 4

theorem refused_execLddfa (hf : s.fpEnabled = true) (hb : isBlockAsi (asiOf s o) = true → blockRegister rd) :
    Refused s (if isBlockAsi (asiOf s o) then altAccess s .loadBlock rs1 o 64 else altAccess s .loadD rs1 o 8)
      (execLddfa rd rs1 o s) := by
  unfold execLddfa
  split
  · exact refused_loadBlock hf (hb ‹_›)
  · exact refused_loadDouble hf

theorem refused_execStdfa (hr : (Instr.stdfa rd rs1 o).reachesAccess s) :
    Refused s (if isBlockAsi (asiOf s o) then altAccess s .storeBlock rs1 o 64 else altAccess s .storeD rs1 o 8)
      (execStdfa rd rs1 o s) := by
  obtain ⟨hf, hb, hpartial⟩ := hr
  have hp : partialByRegister s o = false := by
    cases o with
    | reg => rfl
    | imm => exact hpartial
  rw [execStdfa, hp, if_neg Bool.false_ne_true]
  split
  · exact refused_storeBlock hf (hb ‹_›)
  · exact refused_storeDouble hf

end ByAsi

/-- An exception of the access is the instruction's, for every load, store and atomic (42_loadstore.md R561). -/
theorem exec_refused {i : Instr} {s : State} {a : Access} (ha : i.loadAccess s = some a ∨ i.storeAccess s = some a)
    (hr : i.reachesAccess s) : Refused s a (exec i s) := by
  cases i <;> obtain ⟨⟨⟩⟩ | ⟨⟨⟩⟩ := ha
  case ldtw | ldtxa => exact refused_loadPair hr _
  case ldtwa => exact refused_execLdtwa hr
  case sttw | sttwa => exact refused_storePair hr
  case ldf | ldfa => exact refused_loadSingle hr
  case lddf | ldshortf => exact refused_loadDouble hr
  case lddfa => exact refused_execLddfa hr.1 hr.2
  case ldblockf => exact refused_loadBlock hr.1 hr.2
  case stf | stfa => exact refused_storeSingle hr
  case stdf | stshortf | stpartialf => exact refused_storeDouble hr
  case stdfa => exact refused_execStdfa hr
  case stblockf => exact refused_storeBlock hr.1 hr.2
  case ldfsr | ldxfsr | stfsr | stxfsr => exact refused_withFp hr (refused_withAccess _ _)
  -- What is left makes its access before anything else.
  all_goals exact refused_withAccess _ _

end Sys2Proof.Machine
end

section
/-!
PROOFS. What the trap of a refused access leaves and what it records, and `AddressSpacesAndRefusedAccesses`.
-/

namespace Sys2Proof.Machine

variable {s : State} {a : Access} {e : Exc}

/-! ## The trap -/

/-- At TL = MAXTL a trap enters error_state and does nothing else (60_exceptions.md R1047). -/
theorem takeTrap_maxTL (h6 : s.tl = 6) (e : Exc) : takeTrap e s = { s with errorState := some e.tt } := by
  rw [takeTrap, if_pos (by rw [h6]; rfl)]

theorem raiseData_takes (s : State) (a : Access) (e : Exc) : Takes s (raiseData s a e) e := by
  by_cases h6 : s.tl = 6
  · rw [Takes, raiseData_maxTL h6, takeTrap_maxTL h6]
  · obtain ⟨_, _, _, -, ht⟩ := raiseData_below h6 a e
    rw [ht]

theorem raiseData_requests (s : State) (a : Access) (e : Exc) :
    (raiseData s a e).requests =
      { s.requests with dataAccessError := if e = .dataAccessError then false else s.requests.dataAccessError } := by
  by_cases h6 : s.tl = 6
  · rw [raiseData_maxTL h6]
  · obtain ⟨_, _, _, -, ht⟩ := raiseData_below h6 a e
    rw [ht]

/-- At TL = MAXTL the MMU records nothing (60_exceptions.md R1047). -/
theorem raiseData_mmu_maxTL (h6 : s.tl = 6) (a : Access) (e : Exc) : (raiseData s a e).mmu = s.mmu := by
  rw [raiseData_maxTL h6]

theorem raiseData_mmu (s : State) (a : Access) (e : Exc) :
    (raiseData s a e).mmu =
      { (takeTrap e s).mmu with
        dsfar := (raiseData s a e).mmu.dsfar, dsfsr := (raiseData s a e).mmu.dsfsr
        dtagAccess := (raiseData s a e).mmu.dtagAccess } := by
  by_cases h6 : s.tl = 6
  · rw [raiseData_maxTL h6, takeTrap_maxTL h6]
  · obtain ⟨_, _, _, -, ht⟩ := raiseData_below h6 a e
    rw [ht]

/-- Below MAXTL D-SFAR records the address (22_mmu.md R1480, R1481). -/
theorem raiseData_dsfar (h6 : s.tl ≠ 6) (a : Access) (e : Exc) :
    (raiseData s a e).mmu.dsfar = if e ∈ dsfarExceptions then s.amMask a.addr else s.mmu.dsfar := by
  obtain ⟨_, _, _, -, ht⟩ := raiseData_below h6 a e
  rw [ht]
  simp only [mem_dsfarExceptions]

/-- And the tag access register the page and the context, for the exceptions that record them (22_mmu.md R1480, R1483). -/
theorem raiseData_dtagAccess (h6 : s.tl ≠ 6) (a : Access) (e : Exc) :
    ∃ ctx : BitVec 13, (e ≠ .dataAccessException → ctx = (a.context s).setWidth 13) ∧
      (raiseData s a e).mmu.dtagAccess =
        if e ∈ dtagExceptions then tagAccess (s.amMask a.addr) ctx else s.mmu.dtagAccess := by
  obtain ⟨_, ctx, _, hctx, ht⟩ := raiseData_below h6 a e
  refine ⟨ctx, hctx, ?_⟩
  rw [ht]
  simp only [mem_dtagExceptions]

theorem toNat_tagAccess (a : Word) (ctx : BitVec 13) :
    (tagAccess a ctx).toNat / 2 ^ 13 = a.toNat / 2 ^ 13 ∧ (tagAccess a ctx).toNat % 2 ^ 13 = ctx.toNat := by
  have hctx := ctx.isLt
  have ha := a.isLt
  rw [tagAccess, BitVec.toNat_append, ← Nat.shiftLeft_add_eq_or_of_lt hctx, BitVec.extractLsb'_toNat,
    Nat.shiftRight_eq_div_pow, Nat.shiftLeft_eq]
  omega

/-! ## The context of a miss -/

/-- The exceptions of a miss in the TLB. -/
abbrev IsMiss (e : Exc) : Prop := e = .dataRealTranslationMiss ∨ e = .fastDataAccessMMUMiss

theorem Access.misaligned_not_miss {ea : Word} (h : a.misaligned ea = some e) : ¬IsMiss e := by
  unfold Access.misaligned at h
  split at h <;> repeat' split at h
  all_goals cases h <;> simp

theorem Access.pageCheck_not_miss {t : TlbEntry} (h : a.pageCheck s t = some e) : ¬IsMiss e := by
  unfold Access.pageCheck at h
  repeat' split at h
  all_goals cases h <;> simp

theorem Access.finish_not_miss {pa : Nat} {little : Bool} (h : a.finish s pa little = .trap e) : ¬IsMiss e := by
  unfold Access.finish at h
  repeat' split at h
  all_goals cases h <;> simp

/-- The exception of a miss tells whether the address is real. -/
theorem Access.translate_miss {k : AddrKind} (h : a.translate s k = .trap e) (he : IsMiss e) :
    e = if k = .real then .dataRealTranslationMiss else .fastDataAccessMMUMiss := by
  unfold Access.translate at h
  split at h
  · cases h
  · cases h; rfl
  · split at h
    next hx => cases h; exact absurd he (Access.pageCheck_not_miss hx)
    next => exact absurd he (Access.finish_not_miss h)

/-- A miss is an exception of a translated access (22_mmu.md R1450). -/
theorem dataAccess_miss (h : dataAccess s a = .trap e) (he : IsMiss e) :
    (dataAddrKind s a.asi).Translated ∧ a.translate s (dataAddrKind s a.asi) = .trap e := by
  unfold dataAccess at h
  split at h
  · split at h <;> cases h <;> exact absurd he (by decide)
  split at h
  next hm => cases h; exact absurd he (Access.misaligned_not_miss hm)
  split at h
  · cases h; exact absurd he (by decide)
  split at h
  next c hk =>
    split at h
    · cases h; exact absurd he (by decide)
    split at h
    · cases h; exact absurd he (by decide)
    · exact ⟨.inr ⟨c, hk⟩, hk ▸ h⟩
  next hk =>
    split at h
    · cases h; exact absurd he (by decide)
    · exact ⟨.inl hk, hk ▸ h⟩
  next =>
    split at h
    · cases h; exact absurd he (by decide)
    · rw [Access.bypass_eq] at h
      exact absurd he (Access.finish_not_miss h)
  next =>
    split at h
    · cases h; exact absurd he (by decide)
    · cases h

/-- data_real_translation_miss is the miss of a real address, whose context is 0 (22_mmu.md R1483). -/
theorem context_of_realMiss (h : dataAccess s a = .trap .dataRealTranslationMiss) : a.context s = 0#16 := by
  obtain ⟨-, ht⟩ := dataAccess_miss h (.inl rfl)
  have hk : dataAddrKind s a.asi = .real := by
    have := Access.translate_miss ht (.inl rfl)
    split at this
    · assumption
    · cases this
  simp only [Access.context, hk]

/-- fast_data_access_MMU_miss without an explicit ASI is in the primary context at TL = 0, in the nucleus above
(20_memory.md R1306). -/
theorem context_of_implicitMiss (h : dataAccess s a = .trap .fastDataAccessMMUMiss) (ha : a.asi = none) :
    a.context s = if s.tl = 0 then s.mmu.primaryContext else 0#16 := by
  obtain ⟨hk, ht⟩ := dataAccess_miss h (.inr rfl)
  have hreal : dataAddrKind s a.asi ≠ .real := fun hr => by
    have := Access.translate_miss ht (.inr rfl)
    rw [if_pos hr] at this
    cases this
  obtain ⟨c, hc⟩ := hk.resolve_left hreal
  rw [ha] at hc hreal
  have hkind := dataAddrKind_implicit s
  split at hkind
  · rw [hkind] at hc; cases hc
  split at hkind
  · simp only [Access.context, ha, hkind]
    split <;> rfl
  · exact absurd hkind hreal

/-- What the tag access register records of a refused access (22_mmu.md R1480, R1483). -/
theorem raiseData_tag (h6 : s.tl ≠ 6) (h : dataAccess s a = .trap e) :
    if e ∈ dtagExceptions then
      (raiseData s a e).mmu.dtagAccess.toNat / 2 ^ 13 = (s.amMask a.addr).toNat / 2 ^ 13 ∧
      (e = .dataRealTranslationMiss → (raiseData s a e).mmu.dtagAccess.toNat % 2 ^ 13 = 0) ∧
      (e = .fastDataAccessMMUMiss → a.asi = none →
        (raiseData s a e).mmu.dtagAccess.toNat % 2 ^ 13 =
          if s.tl = 0 then s.mmu.primaryContext.toNat % 2 ^ 13 else 0)
    else (raiseData s a e).mmu.dtagAccess = s.mmu.dtagAccess := by
  obtain ⟨ctx, hctx, htag⟩ := raiseData_dtagAccess h6 a e
  rw [htag]
  obtain ⟨hpage, hlow⟩ := toNat_tagAccess (s.amMask a.addr) ctx
  split
  next =>
    refine ⟨hpage, fun he => ?_, fun he ha => ?_⟩
    · subst he
      rw [hlow, hctx nofun, context_of_realMiss h]
      rfl
    · subst he
      rw [hlow, hctx nofun, context_of_implicitMiss h ha]
      split <;> simp
  next => rfl

/-- Settles O41: an implicit access, one with a listed ASI, one with any other, then the trap of a refused one. -/
theorem addressSpacesAndRefusedAccesses : Obligations.AddressSpacesAndRefusedAccesses := by
  refine ⟨fun s cls addr n hn ha hr => ⟨⟨?_, ?_⟩, fun row hrow => ⟨?_, ?_, ?_⟩, ?_⟩, ?_⟩
  · exact dataAccess_implicit_physical (Access.misaligned_of_accessSizes hn ha none) hr
  · exact fun hred hhp =>
      (implicit_translatesTo (Access.misaligned_of_accessSizes hn ha none) hred hhp).miss_and_hit hr
  · exact dataAccess_forbidden hn ha
  · exact fun hp hc => dataAccess_unusable hn ha hp ((asiLegalFor_row cls row hrow).trans (decide_eq_false hc))
  · exact fun hp hc => ⟨dataAccess_row_physical hn ha hrow hp hc hr, fun hred hnp =>
      (row_translatesTo hn ha hrow hp hc (by simpa [hred] using hnp)).miss_and_hit hr⟩
  · exact fun asi h => ⟨dataAccess_forbidden hn ha, dataAccess_unlisted hn ha h⟩
  · intro i s acc e hacc hreach h
    have hkept := State.fields_of_trapKept (trapKept_raiseData s acc e)
    refine ⟨_, exec_refused hacc hreach e h, raiseData_takes s acc e, ?_, ?_, ?_, ?_, ?_, ?_, raiseData_requests s acc e,
      raiseData_mmu s acc e, fun h6 => raiseData_mmu_maxTL h6 acc e, fun h6 =>
      ⟨raiseData_dsfar h6 acc e, raiseData_tag h6 h⟩⟩
    all_goals simp [hkept]

end Sys2Proof.Machine
end

section
/-!
PROOFS. Which register an ASI and an address select: the model's tables of the registers behind ASIs against the rows of
`asiRegisters`.
-/

namespace Sys2Proof.Machine

variable {va : Word}

/-! ## The addresses of scratchpad registers (21_asi.md R1420) -/

theorem scratchIndex_ofNat : ∀ k : Fin 8, scratchIndex (BitVec.ofNat 64 (8 * k.val)) = some k := by decide

theorem toNat_of_scratchIndex {k : Fin 8} (h : scratchIndex va = some k) : va.toNat = 8 * k.val := by
  unfold scratchIndex at h
  split at h
  next hva =>
    obtain ⟨hhigh, hlow⟩ := hva
    have hk : (va.extractLsb' 3 3).toNat = k.val := congrArg Fin.val (Option.some.inj h)
    have hhigh := congrArg BitVec.toNat hhigh
    have hlow := congrArg BitVec.toNat hlow
    simp only [BitVec.extractLsb'_toNat, Nat.shiftRight_eq_div_pow, BitVec.toNat_ofNat] at hhigh hlow hk
    omega
  next => cases h

/-! ## A listed register -/

/-- The register k of the privileged bank (21_asi.md R1420). -/
abbrev privScratchRow (k : Fin 8) : AsiRegister :=
  ⟨0x20, 8 * k.val, fun s => some (s.scratchpad.get k), fun s v =>
    some { s with scratchpad := s.scratchpad.set k.val v k.isLt }⟩

/-- The register k of the hyperprivileged bank (21_asi.md R1421). -/
abbrev hyperScratchRow (k : Fin 8) : AsiRegister :=
  ⟨0x4F, 8 * k.val, fun s => some (s.hyperScratchpad.get k), fun s v =>
    some { s with hyperScratchpad := s.hyperScratchpad.set k.val v k.isLt }⟩

theorem privScratchRow_mem (k : Fin 8) : privScratchRow k ∈ asiRegisters :=
  List.mem_append_left _ (List.mem_flatMap.2 ⟨k, List.mem_finRange k, .head _⟩)

theorem hyperScratchRow_mem (k : Fin 8) : hyperScratchRow k ∈ asiRegisters :=
  List.mem_append_left _ (List.mem_flatMap.2 ⟨k, List.mem_finRange k, .tail _ (.head _)⟩)

/-- At the address of a row the model reads and writes what the row says. -/
theorem asiReg_row (s : State) : ∀ row ∈ asiRegisters,
    readAsiReg s row.asi (BitVec.ofNat 64 row.va) = row.read s ∧
      ∀ v, writeAsiReg s row.asi (BitVec.ofNat 64 row.va) v = row.write s v := by
  refine List.forall_mem_append.2 ⟨fun row hrow => ?_, ?_⟩
  · obtain ⟨k, -, hk⟩ := List.mem_flatMap.1 hrow
    have hindex := scratchIndex_ofNat k
    simp only [List.mem_cons, List.not_mem_nil, or_false] at hk
    obtain rfl | rfl := hk <;> simp [readAsiReg, writeAsiReg, hindex]
  · simp only [List.forall_mem_cons]
    -- A queue's tail takes a store in hyperprivileged mode only.
    cases hhyper : s.hpstate.hpriv <;>
      simp [readAsiReg, Queues.read, readCmtShared, Config.strandAvailable, writeAsiReg, Queues.write, writeCmtShared,
        hhyper, Config.queueTailPrivWritable]

/-! ## An address with no register (D36) -/

/-- The addresses at which an ASI reaches a register. -/
def registerAddresses (asi : BitVec 8) : List Nat :=
  match asi.toNat with
  | 0x20 | 0x4F => [0x00, 0x08, 0x10, 0x18, 0x20, 0x28, 0x30, 0x38]
  | 0x21 => [0x08, 0x10]
  | 0x25 => [0x3C0, 0x3C8, 0x3D0, 0x3D8, 0x3E0, 0x3E8, 0x3F0, 0x3F8]
  | 0x41 => [0x00, 0x10, 0x20, 0x30, 0x50, 0x58, 0x60, 0x68]
  | 0x50 => [0x18, 0x30]
  | 0x58 => [0x18, 0x20, 0x30, 0x80]
  | 0x63 => [0x00, 0x10]
  | _ => []

theorem exists_row_of_mem_registerAddresses :
    ∀ asi ∈ registerAsis, ∀ n ∈ registerAddresses asi, ∃ row ∈ asiRegisters, row.asi = asi ∧ row.va = n := by decide

theorem scratchIndex_eq_none (h : va.toNat ∉ registerAddresses 0x20#8) : scratchIndex va = none := by
  have hscratch : ∀ k : Fin 8, 8 * k.val ∈ registerAddresses 0x20#8 := by decide
  exact Option.eq_none_iff_forall_ne_some.2 fun k hk => h (toNat_of_scratchIndex hk ▸ hscratch k)

/-- At any other address an ASI that reaches registers reads and writes nothing. -/
theorem asiReg_unlisted (s : State) (va : Word) : ∀ asi ∈ registerAsis, va.toNat ∉ registerAddresses asi →
    readAsiReg s asi va = none ∧ ∀ v, writeAsiReg s asi va v = none := by
  simp only [registerAsis, List.forall_mem_cons]
  refine ⟨fun h => ?privScratch, fun h => ?contexts, fun h => ?queues, fun h => ?cmt, fun h => ?hyperScratch,
    fun h => ?immu, fun h => ?dmmu, fun h => ?strandIntrId, nofun⟩
  case privScratch | hyperScratch => simp [readAsiReg, writeAsiReg, scratchIndex_eq_none h]
  all_goals
    simp only [registerAddresses, BitVec.reduceToNat, List.mem_cons, List.not_mem_nil, not_or] at h
    simp [readAsiReg, writeAsiReg, Queues.read, Queues.write, readCmtShared, writeCmtShared, h]

end Sys2Proof.Machine
end

section
/-!
PROOFS. LDXA and STXA with an ASI that reaches registers, and `ScratchpadWriteRead`.
-/

namespace Sys2Proof.Machine

/-! ## Loads and stores at a register -/

section Transfer

variable {s : State} {a : Access} {asi : BitVec 8} {va : Word} (hd : dataAccess s a = .register asi va)
include hd

theorem loadValue_register {v : Word} (hr : readAsiReg s asi va = some v) (k : Word → Result) :
    loadValue s a k = k v := by
  simp only [loadValue, withAccess_register hd, hr]

theorem loadValue_unreadable (hr : readAsiReg s asi va = none) (k : Word → Result) :
    loadValue s a k = .next (raiseData s a .dataAccessException) := by
  simp only [loadValue, withAccess_register hd, hr]

theorem storeValue_register {v : Word} {u : State} (hw : writeAsiReg s asi va v = some u) (k : State → Result) :
    storeValue s a v k = k u := by
  simp only [storeValue, withAccess_register hd, hw]

theorem storeValue_unwritable {v : Word} (hw : writeAsiReg s asi va v = none) (k : State → Result) :
    storeValue s a v k = .next (raiseData s a .dataAccessException) := by
  simp only [storeValue, withAccess_register hd, hw]

end Transfer

/-! ## LDXA and STXA -/

/-- LDXA gets the word `read` and STXA leaves the state `write`; where there is none, they raise data_access_exception
(D36). -/
structure RegisterAccess (s : State) (rd rs1 : RegField) (o : AsiOp2) (read : Option Word) (write : Option State) :
    Prop where
  loads : ∀ v, read = some v → ∃ t, exec (.ldxa rd rs1 o) s = .next t ∧ WritesR s.advance t rd v
  unreadable : read = none → ∃ t, exec (.ldxa rd rs1 o) s = .next t ∧ Takes s t .dataAccessException
  stores : ∀ u, write = some u → exec (.stxa rd rs1 o) s = .next u.advance
  unwritable : write = none → ∃ t, exec (.stxa rd rs1 o) s = .next t ∧ Takes s t .dataAccessException

section

variable {s : State} {rs1 : RegField} {o : AsiOp2}

theorem addr_aligned (ha : (s.amMask (effAddrA s rs1 o)).toNat % 8 = 0) : (effAddrA s rs1 o).toNat % 8 = 0 :=
  (toNat_amMask_mod s _ (by decide)).symm.trans ha

/-- Outside its modes an ASI is a privileged_action (20_memory.md R1308). -/
theorem exec_forbidden (rd : RegField) (ha : (s.amMask (effAddrA s rs1 o)).toNat % 8 = 0)
    (hp : ¬asiPermitted s.mode (asiOf s o)) :
    exec (.ldxa rd rs1 o) s = .next (raiseData s (altAccess s .loadX rs1 o 8) .privilegedAction) ∧
    exec (.stxa rd rs1 o) s = .next (raiseData s (altAccess s .storeX rs1 o 8) .privilegedAction) := by
  have hrefused : ∀ cls, 8 ∈ accessSizes cls → dataAccess s (altAccess s cls rs1 o 8) = .trap .privilegedAction :=
    fun cls hn => dataAccess_forbidden hn (addr_aligned ha) hp
  exact ⟨withAccess_trap (hrefused .loadX (by decide)) _ _, withAccess_trap (hrefused .storeX (by decide)) _ _⟩

theorem dataAccess_registerAsi (hasi : asiOf s o ∈ registerAsis) (ha : (s.amMask (effAddrA s rs1 o)).toNat % 8 = 0)
    (hp : asiPermitted s.mode (asiOf s o)) {cls : InstrClass} (hc : cls ∈ [InstrClass.loadX, .storeX]) :
    dataAccess s (altAccess s cls rs1 o 8) = .register (asiOf s o) (s.amMask (effAddrA s rs1 o)) := by
  have hrows : ∀ asi ∈ registerAsis, ∀ row ∈ asiRows, row.asi ≠ asi := by decide
  have hsize : ∀ cls ∈ [InstrClass.loadX, .storeX], 8 ∈ accessSizes cls := by decide
  exact (dataAccess_unlisted (hsize cls hc) (addr_aligned ha) (hrows _ hasi) hp).trans (if_pos ⟨hasi, hc⟩)

/-- In its modes an ASI that reaches registers reads and writes the one at the address. -/
theorem registerAccess (rd : RegField) (hasi : asiOf s o ∈ registerAsis)
    (ha : (s.amMask (effAddrA s rs1 o)).toNat % 8 = 0) (hp : asiPermitted s.mode (asiOf s o)) :
    RegisterAccess s rd rs1 o (readAsiReg s (asiOf s o) (s.amMask (effAddrA s rs1 o)))
      (writeAsiReg s (asiOf s o) (s.amMask (effAddrA s rs1 o)) (s.readR rd)) := by
  have hload := dataAccess_registerAsi hasi ha hp (cls := .loadX) (by decide)
  have hstore := dataAccess_registerAsi hasi ha hp (cls := .storeX) (by decide)
  constructor
  case loads =>
    intro v hr
    obtain ⟨t, hback, ht⟩ := writeBack_writes s rd v
    exact ⟨t, (loadValue_register hload hr _).trans hback, ht⟩
  case unreadable => exact fun hr => ⟨_, loadValue_unreadable hload hr _, raiseData_takes ..⟩
  case stores => exact fun u hw => storeValue_register hstore hw _
  case unwritable => exact fun hw => ⟨_, storeValue_unwritable hstore hw _, raiseData_takes ..⟩

/-- At the address of a listed register, by its rule. -/
theorem registerAccess_row (rd : RegField) {row : AsiRegister} (hrow : row ∈ asiRegisters) (hasi : row.asi = asiOf s o)
    (hva : row.va = (s.amMask (effAddrA s rs1 o)).toNat) (hp : asiPermitted s.mode (asiOf s o)) :
    RegisterAccess s rd rs1 o (row.read s) (row.write s (s.readR rd)) := by
  have hplaces : ∀ row ∈ asiRegisters, row.asi ∈ registerAsis ∧ row.va % 8 = 0 := by decide
  obtain ⟨hmem, haligned⟩ := hplaces row hrow
  obtain ⟨hread, hwrite⟩ := asiReg_row s row hrow
  have haddr : s.amMask (effAddrA s rs1 o) = BitVec.ofNat 64 row.va := BitVec.eq_of_toNat_eq (by simp [hva])
  have haccess := registerAccess (rs1 := rs1) rd (hasi ▸ hmem) (hva ▸ haligned) hp
  rwa [← hasi, haddr, hread, hwrite] at haccess

/-- At every other address, not at all (D36). -/
theorem registerAccess_unlisted (rd : RegField) (hasi : asiOf s o ∈ registerAsis)
    (ha : (s.amMask (effAddrA s rs1 o)).toNat % 8 = 0) (hp : asiPermitted s.mode (asiOf s o))
    (h : ∀ row ∈ asiRegisters, row.asi = asiOf s o → row.va ≠ (s.amMask (effAddrA s rs1 o)).toNat) :
    RegisterAccess s rd rs1 o none none := by
  obtain ⟨hread, hwrite⟩ := asiReg_unlisted s _ _ hasi fun hmem => by
    obtain ⟨row, hrow, hrasi, hrva⟩ := exists_row_of_mem_registerAddresses _ hasi _ hmem
    exact h row hrow hrasi hrva
  have haccess := registerAccess rd hasi ha hp
  rwa [hread, hwrite] at haccess

end

/-! ## The trap-stack entry of a refused access (60_exceptions.md R1040) -/

theorem takeTrap_trapEntry {s : State} (h6 : s.tl ≠ 6) (e : Exc) : (takeTrap e s).trapEntry = s.savedTrap e.tt := by
  have hnext := (trapIndex (nextLevel s.tl)).isLt
  obtain ⟨h, -⟩ | ⟨-, _, ht⟩ | ⟨-, -, ht⟩ := takeTrap_cases e s
  · exact absurd h h6
  · rw [ht]; exact get_set_same _ _ _ hnext
  · rw [ht]; exact get_set_same _ _ _ hnext

theorem raiseData_trapEntry {s : State} (h6 : s.tl ≠ 6) (a : Access) (e : Exc) :
    (raiseData s a e).trapEntry = s.savedTrap e.tt := by
  obtain ⟨_, _, _, -, ht⟩ := raiseData_below h6 a e
  rw [ht]
  exact takeTrap_trapEntry h6 e

theorem raiseData_scratchpad (s : State) (a : Access) (e : Exc) : (raiseData s a e).scratchpad = s.scratchpad := by
  simp [State.fields_of_trapKept (trapKept_raiseData s a e)]

/-! ## The scratchpads (21_asi.md R1420, R1421) -/

theorem asiPermitted_privScratch (s : State) : asiPermitted s.mode 0x20#8 ↔ s.isUser = false := by
  unfold State.mode State.isUser
  cases s.hpstate.hpriv <;> cases s.pstate.priv <;> decide

theorem asiPermitted_hyperScratch (s : State) : asiPermitted s.mode 0x4F#8 ↔ s.hpstate.hpriv = true := by
  unfold State.mode
  cases s.hpstate.hpriv <;> cases s.pstate.priv <;> decide

/-- PSTATE.am masks nothing of the address of a scratchpad register. -/
theorem toNat_scratchAddr {s : State} {rs1 : RegField} {k : Fin 8} (h : s.readR rs1 = BitVec.ofNat 64 (8 * k.val))
    (asi : BitVec 8) : (s.amMask (effAddrA s rs1 (.reg asi 0#5))).toNat = 8 * k.val := by
  have hmask : ∀ k : Fin 8, ((BitVec.ofNat 64 (8 * k.val)).setWidth 32).setWidth 64 = BitVec.ofNat 64 (8 * k.val) := by
    decide
  have hk : ∀ k : Fin 8, (BitVec.ofNat 64 (8 * k.val)).toNat = 8 * k.val := by decide
  rw [effAddrA, h, State.readR_zero, BitVec.add_zero, State.amMask, hmask, ite_self, hk]

/-- Settles O46: the rule of each register, which the scratchpads are among. -/
theorem scratchpadWriteRead : Obligations.ScratchpadWriteRead := by
  refine ⟨fun s rd rs1 k hk => ⟨fun hpriv => ?_, fun hhyper => ?_, fun huser => ?_⟩, fun s rd rs1 o hasi ha =>
    ⟨fun hp => ?_, fun hp => ⟨fun row hrow hrasi hrva => ?_, fun hnone => ?_⟩⟩⟩
  · have h := registerAccess_row rd (o := .reg 0x20#8 0#5) (privScratchRow_mem k) rfl (toNat_scratchAddr hk _).symm
      ((asiPermitted_privScratch s).2 hpriv)
    exact ⟨h.stores _ rfl, h.loads _ rfl⟩
  · have h := registerAccess_row rd (o := .reg 0x4F#8 0#5) (hyperScratchRow_mem k) rfl (toNat_scratchAddr hk _).symm
      ((asiPermitted_hyperScratch s).2 hhyper)
    exact ⟨h.stores _ rfl, h.loads _ rfl⟩
  · have hhyper : s.hpstate.hpriv = false := by
      simp only [State.isUser, Bool.and_eq_true, Bool.not_eq_true'] at huser
      exact huser.1
    have haligned : ∀ asi, (s.amMask (effAddrA s rs1 (.reg asi 0#5))).toNat % 8 = 0 := fun asi => by
      rw [toNat_scratchAddr hk]
      exact Nat.mul_mod_right 8 k
    obtain ⟨-, hstore⟩ := exec_forbidden rd (haligned 0x20#8) fun hp => by
      simp [(asiPermitted_privScratch s).1 hp] at huser
    obtain ⟨hload, -⟩ := exec_forbidden rd (haligned 0x4F#8) fun hp => by
      simp [(asiPermitted_hyperScratch s).1 hp] at hhyper
    exact ⟨_, _, hstore, hload, raiseData_scratchpad .., fun h6 =>
      ⟨raiseData_trapEntry h6 _ _, raiseData_trapEntry h6 _ _⟩⟩
  · obtain ⟨hload, hstore⟩ := exec_forbidden rd ha hp
    exact ⟨⟨_, hload, raiseData_takes ..⟩, _, hstore, raiseData_takes ..⟩
  · have h := registerAccess_row rd hrow hrasi hrva hp
    exact ⟨h.loads, h.unreadable, h.stores, h.unwritable⟩
  · have h := registerAccess_unlisted rd hasi ha hp hnone
    exact ⟨h.unreadable rfl, h.unwritable rfl⟩

end Sys2Proof.Machine
end

section
/-!
PROOFS. TLB entries that do not overlap (22_mmu.md R1486): no address matches two of them, so neither a fetch nor a data
access ends in a model fault, and an insertion keeps them so.
-/

namespace Sys2Proof.Machine

/-- The entries of both TLBs do not overlap (22_mmu.md R1486). -/
structure State.TlbsDisjoint (s : State) : Prop where
  itlb : tlbDisjoint s.mmu.itlb
  dtlb : tlbDisjoint s.mmu.dtlb

/-! ## A lookup among disjoint entries -/

/-- Addresses in one page are in one page of every larger size. -/
theorem div_two_pow_eq_of_le {a b m n : Nat} (hmn : m ≤ n) (h : a / 2 ^ m = b / 2 ^ m) : a / 2 ^ n = b / 2 ^ n := by
  rw [← Nat.add_sub_cancel' hmn, Nat.pow_add, ← Nat.div_div_eq_div_mul, h, Nat.div_div_eq_div_mul]

/-- What an entry that matches an address says of itself: its partition, its kind and context, and its page. -/
theorem TlbEntry.of_matchesAddr {e : TlbEntry} {m : MmuState} {k : AddrKind} {a : Word}
    (h : e.matchesAddr m k a = true) :
    e.pid = m.partitionId ∧
      (k = .real ∧ e.real = true ∨ ∃ c, k = .virtualIn c ∧ e.real = false ∧ e.ctx = contextId m c) ∧
      ∃ n, pageBits (TlbEntry.size e) = some n ∧ a.toNat / 2 ^ n = e.vpn.toNat / 2 ^ n := by
  unfold TlbEntry.matchesAddr at h
  cases hb : pageBits (TlbEntry.size e) <;> cases k <;> simp_all

/-- Two entries that match one address overlap: in the larger of their pages the address has the place of both. -/
theorem TlbEntry.overlaps_of_matchesAddr {e f : TlbEntry} {m : MmuState} {k : AddrKind} {a : Word}
    (he : e.matchesAddr m k a = true) (hf : f.matchesAddr m k a = true) : e.overlaps f = true := by
  obtain ⟨hpe, hke, i, hi, hai⟩ := TlbEntry.of_matchesAddr he
  obtain ⟨hpf, hkf, j, hj, haj⟩ := TlbEntry.of_matchesAddr hf
  have hpage : e.vpn.toNat / 2 ^ max i j = f.vpn.toNat / 2 ^ max i j :=
    calc e.vpn.toNat / 2 ^ max i j = a.toNat / 2 ^ max i j := (div_two_pow_eq_of_le (le_max_left i j) hai).symm
      _ = f.vpn.toNat / 2 ^ max i j := div_two_pow_eq_of_le (le_max_right i j) haj
  obtain ⟨rfl, hre⟩ | ⟨c, rfl, hre, hce⟩ := hke
  · obtain ⟨-, hrf⟩ | ⟨_, hc, -⟩ := hkf
    · simp [TlbEntry.overlaps, hi, hj, hpage, hpe, hpf, hre, hrf]
    · cases hc
  · obtain ⟨hc, -⟩ | ⟨d, hc, hrf, hcf⟩ := hkf
    · cases hc
    · cases hc
      simp [TlbEntry.overlaps, hi, hj, hpage, hpe, hpf, hre, hrf, hce, hcf]

/-- So among disjoint entries at most one matches (22_mmu.md R1452, R1486). -/
theorem tlbLookup_ne_multipleHit {tlb : List TlbEntry} (h : tlbDisjoint tlb) (m : MmuState) (k : AddrKind) (a : Word) :
    tlbLookup tlb m k a ≠ .multipleHit := by
  have hfound : tlbDisjoint (tlb.filter fun e => e.matchesAddr m k a) := List.Pairwise.filter _ h
  have hmatch : ∀ e ∈ tlb.filter fun e => e.matchesAddr m k a, e.matchesAddr m k a = true :=
    fun e he => (List.mem_filter.1 he).2
  unfold tlbLookup
  generalize tlb.filter (fun e => e.matchesAddr m k a) = found at hfound hmatch
  match found with
  | [] | [_] => nofun
  | e :: f :: _ =>
    have hno : e.overlaps f = false := (List.rel_of_pairwise_cons hfound (.head _)).1
    rw [TlbEntry.overlaps_of_matchesAddr (hmatch e (.head _)) (hmatch f (.tail _ (.head _)))] at hno
    cases hno

/-! ## Accesses that end in no model fault -/

variable {s t : State}

/-- The default platform gives every address to memory (20_memory.md R1302, D30). -/
theorem Access.finish_ne_fault (a : Access) (pa : Nat) (little : Bool) (f : Fault) :
    a.finish s pa little ≠ .fault f := by
  unfold Access.finish
  split
  · nofun
  · split
    · nofun
    · simp

theorem Access.translate_ne_fault (h : tlbDisjoint s.mmu.dtlb) (a : Access) (k : AddrKind) (f : Fault) :
    a.translate s k ≠ .fault f := by
  unfold Access.translate
  split
  next hm => exact absurd hm (tlbLookup_ne_multipleHit h _ _ _)
  · nofun
  · split
    · nofun
    · exact Access.finish_ne_fault _ _ _ _

theorem dataAccess_ne_fault (h : tlbDisjoint s.mmu.dtlb) (a : Access) (f : Fault) : dataAccess s a ≠ .fault f := by
  have hlegal : ∀ r, r ≠ .fault f → (if !a.legal then AccessResult.trap .dataAccessException else r) ≠ .fault f := by
    intro r hr
    split
    · nofun
    · exact hr
  unfold dataAccess
  split
  · nofun
  split
  · nofun
  split
  · nofun
  split
  · split
    · nofun
    · exact hlegal _ (Access.translate_ne_fault h a _ f)
  · exact hlegal _ (Access.translate_ne_fault h a _ f)
  · rw [Access.bypass_eq]
    exact hlegal _ (Access.finish_ne_fault a _ _ f)
  · exact hlegal _ nofun

theorem fetchFinish_ne_fault (a : Word) (pa : Nat) (f : Fault) : fetchFinish s a pa ≠ .fault f := by
  rw [fetchFinish_eq]
  split <;> nofun

theorem fetchAddress_ne_fault (h : tlbDisjoint s.mmu.itlb) (f : Fault) : fetchAddress s ≠ .fault f := by
  unfold fetchAddress
  split
  · exact fetchFinish_ne_fault _ _ f
  · exact fetchFinish_ne_fault _ _ f
  · split
    next hm => exact absurd hm (tlbLookup_ne_multipleHit h _ _ _)
    · nofun
    · split
      · nofun
      · exact fetchFinish_ne_fault _ _ f

/-! ## Insertion -/

theorem TlbEntry.overlaps_comm (e f : TlbEntry) : e.overlaps f = f.overlaps e := by
  unfold TlbEntry.overlaps
  have hreal : (e.real == f.real && e.pid == f.pid && (e.real || e.ctx == f.ctx)) =
      (f.real == e.real && f.pid == e.pid && (f.real || f.ctx == e.ctx)) := by
    rw [BEq.comm (a := f.real), BEq.comm (a := f.pid), BEq.comm (a := f.ctx)]
    cases e.real <;> cases f.real <;> rfl
  rw [hreal]
  cases pageBits (TlbEntry.size e) <;> cases pageBits (TlbEntry.size f) <;> simp [Nat.max_comm, BEq.comm]

theorem tlbDisjoint_cons {e : TlbEntry} {tlb : List TlbEntry} (h : tlbDisjoint tlb)
    (he : ∀ f ∈ tlb, e.overlaps f = false) : tlbDisjoint (e :: tlb) :=
  List.pairwise_cons.2 ⟨fun f hf => ⟨he f hf, e.overlaps_comm f ▸ he f hf⟩, h⟩

/-- An insertion is refused if the entry overlaps one of its TLB; the other TLB stays as it is. -/
theorem State.TlbsDisjoint.tlbInsert {w : WhichTlb} {e : TlbEntry} (h : s.TlbsDisjoint)
    (ht : s.tlbInsert w e = some t) : t.TlbsDisjoint := by
  obtain ⟨-, -, -, rfl, he⟩ := State.tlbInsert_some ht
  cases w with
  | itlb => exact ⟨tlbDisjoint_cons h.itlb he, h.dtlb⟩
  | dtlb => exact ⟨h.itlb, tlbDisjoint_cons h.dtlb he⟩

end Sys2Proof.Machine
end

section
/-!
PROOFS. While the entries of the data TLB do not overlap every instruction answers a next state: one rule for each way a
meaning is put together, then one line of `exec_completes` for each of them.
-/

namespace Sys2Proof.Machine

/-- A next state is answered: no model fault, no refusal. -/
def Completes (r : Result) : Prop := ∃ t, r = .next t

theorem completes_next (t : State) : Completes (.next t) := ⟨t, rfl⟩

section Rules

variable {c : Prop} [Decidable c] {j k : Result} {t u : State}

theorem completes_ite (hj : Completes j) (hk : Completes k) : Completes (if c then j else k) := by
  split
  · exact hj
  · exact hk

/-- One of two next states. -/
theorem completes_either : Completes (if c then .next t else .next u) :=
  completes_ite (completes_next t) (completes_next u)

/-- A check that must hold before the work. -/
theorem completes_check (hk : Completes k) : Completes (if c then k else .next t) :=
  completes_ite hk (completes_next t)

/-- A check that must fail before the work. -/
theorem completes_unless (hk : Completes k) : Completes (if c then .next t else k) :=
  completes_ite (completes_next t) hk

end Rules

/-! ## Data accesses -/

section Accesses

variable {s : State} (h : tlbDisjoint s.mmu.dtlb) (a : Access)
include h

theorem completes_withAccess {f : Nat → Bool → Result} {g : BitVec 8 → Word → Result}
    (hf : ∀ pa little, Completes (f pa little)) (hg : ∀ asi va, Completes (g asi va)) :
    Completes (withAccess s a f g) := by
  unfold withAccess
  split
  · exact completes_next _
  · exact absurd ‹_› (dataAccess_ne_fault h a _)
  · exact hf _ _
  · exact hg _ _

theorem completes_loadValue {k : Word → Result} (hk : ∀ v, Completes (k v)) : Completes (loadValue s a k) := by
  refine completes_withAccess h a (fun _ _ => hk _) fun _ _ => ?_
  split
  · exact hk _
  · exact completes_next _

theorem completes_storeValue {v : Word} {k : State → Result} (hk : ∀ u, Completes (k u)) :
    Completes (storeValue s a v k) := by
  refine completes_withAccess h a (fun _ _ => hk _) fun _ _ => ?_
  split
  · exact hk _
  · exact completes_next _

theorem completes_loadParts {part : Nat} {k : (Nat → Word) → Result} (hk : ∀ p, Completes (k p)) :
    Completes (loadParts s a part k) := completes_withAccess h a (fun _ _ => hk _) fun _ _ => completes_next _

theorem completes_storeParts {part : Nat} {vs : List Word} {k : State → Result} (hk : ∀ u, Completes (k u)) :
    Completes (storeParts s a part vs k) := completes_withAccess h a (fun _ _ => hk _) fun _ _ => completes_next _

variable (rd : RegField)

theorem completes_loadUnsigned : Completes (loadUnsigned s a rd) := completes_loadValue h a fun _ => completes_next _

theorem completes_loadSigned : Completes (loadSigned s a rd) := completes_loadValue h a fun _ => completes_next _

theorem completes_storeReg : Completes (storeReg s a rd) := completes_storeValue h a fun _ => completes_next _

theorem completes_atomicReg {f : Word → Word} : Completes (atomicReg s a f rd) :=
  completes_withAccess h a (fun _ _ => completes_next _) fun _ _ => completes_next _

theorem completes_loadPair (part : Nat) : Completes (loadPair s a part rd) :=
  completes_unless (completes_loadParts h a fun _ => completes_next _)

theorem completes_storePair : Completes (storePair s a rd) :=
  completes_unless (completes_storeParts h a fun _ => completes_next _)

theorem completes_loadSingle : Completes (loadSingle s a rd) :=
  completes_check (completes_loadValue h a fun _ => completes_next _)

theorem completes_loadDouble : Completes (loadDouble s a rd) :=
  completes_check (completes_loadValue h a fun _ => completes_next _)

theorem completes_storeSingle : Completes (storeSingle s a rd) :=
  completes_check (completes_storeValue h a fun _ => completes_next _)

theorem completes_storeDouble : Completes (storeDouble s a rd) :=
  completes_check (completes_storeValue h a fun _ => completes_next _)

theorem completes_loadBlock : Completes (loadBlock s a rd) :=
  completes_unless (completes_check (completes_loadParts h a fun _ => completes_next _))

theorem completes_storeBlock : Completes (storeBlock s a rd) :=
  completes_unless (completes_check (completes_storeParts h a fun _ => completes_next _))

end Accesses

section AlternateAccesses

variable {s : State} (h : tlbDisjoint s.mmu.dtlb) (rd rs1 : RegField) (o : AsiOp2)
include h

/-- LDTWA is LDTXA for a twin ASI of the ASI register (D21). -/
theorem completes_execLdtwa : Completes (execLdtwa rd rs1 o s) :=
  completes_ite (completes_loadPair h _ rd _) (completes_loadPair h _ rd _)

/-- LDDFA is LDBLOCKF for a block ASI. -/
theorem completes_execLddfa : Completes (execLddfa rd rs1 o s) :=
  completes_ite (completes_loadBlock h _ rd) (completes_loadDouble h _ rd)

/-- STDFA is STBLOCKF for a block ASI. -/
theorem completes_execStdfa : Completes (execStdfa rd rs1 o s) :=
  completes_unless (completes_ite (completes_storeBlock h _ rd) (completes_storeDouble h _ rd))

end AlternateAccesses

/-! ## Every instruction -/

/-- No instruction stops the machine while the data TLB's entries do not overlap. -/
theorem exec_completes {s : State} (h : tlbDisjoint s.mmu.dtlb) (i : Instr) : Completes (exec i s) := by
  cases i with
  -- Always one answer: a result, a trap, a move of the program counters.
  | illtrap | popc | allclean | otherw | normalw | invalw | impdep2a | impdep2b | ldqf | stqf | ldqfa | stqfa |
    pdist | fexpand | shutdown | fmul8x16 | fmul8x16au | fmul8x16al | fmul8sux16 | fmul8ulx16 | fmuld8sux16 |
    fmuld8ulx16 | fpack32 | fpack16 | fpackfix | fpmerge => exact completes_next _
  | nop | flush | membar | stbar | ta | tn | call => exact completes_next _
  | sethi | add | and | or | xor | sub | andn | orn | xnor | addc | mulx | subc | sll | srl | sra | sllx | srlx |
    srax | andcc | orcc | xorcc | andncc | orncc | xnorcc | addcc | addccc | subcc | subccc | taddcc | tsubcc |
    umul | smul | umulcc | smulcc | mulscc | mova | movn => exact completes_next _
  | rdy | rdccr | rdasi | rdpc | rdfprs | wry | wrccr | wrasi | wrfprs => exact completes_next _
  | edge8n | edge8ln | edge16n | edge16ln | edge32n | edge32ln | edge8cc | edge8lcc | edge16cc | edge16lcc |
    edge32cc | edge32lcc => exact completes_next _
  -- One condition between two answers.
  | bpa | ba | bpn | bn | prefetch | prefetcha | flushw | jmpl | restore | saved | restored => exact completes_either
  | tne | te | tg | tle | tge | tl | tgu | tleu | tcc | tcs | tpos | tneg | tvc | tvs => exact completes_either
  | taddcctv | tsubcctv | sdivx | udivx | udiv | sdiv | udivcc | sdivcc => exact completes_either
  | movne | move | movg | movle | movge | movl | movgu | movleu | movcc | movcs | movpos | movneg | movvc | movvs
    | movrz | movrlez | movrlz | movrnz | movrgz | movrgez | movfa | movfn => exact completes_either
  | rdtick | rdpic | rdstick | rdpcr | rdsoftint | rdtick_cmpr | rdstick_cmpr | rdgsr => exact completes_either
  | wrgsr | siam | wrpcr | wrsoftint_set | wrsoftint_clr | wrsoftint | wrtick_cmpr | wrstick_cmpr | wrpic | wrstick |
    sir => exact completes_either
  | array8 | array16 | array32 => exact completes_either
  | fcmple16 | fcmpne16 | fcmple32 | fcmpne32 | fcmpgt16 | fcmpeq16 | fcmpgt32 | fcmpeq32 | alignaddress |
    alignaddress_little | bmask => exact completes_either
  | fpadd16s | fpadd32s | fpsub16s | fpsub32s | fzeros | fnors | fandnot2s | fnot2s | fandnot1s | fnot1s | fxors |
    fnands | fands | fxnors | fsrc1s | fornot2s | fsrc2s | fornot1s | fors | fones => exact completes_either
  | faligndata | bshuffle | fpadd16 | fpadd32 | fpsub16 | fpsub32 | fzero | fnor | fandnot2 | fnot2 | fandnot1 |
    fnot1 | fxor | fnand | fand | fxnor | fsrc1 | fornot2 | fsrc2 | fornot1 | for_ | fone => exact completes_either
  | fmovs | fnegs | fabss | fmovd | fnegd | fabsd | fmovsicc | fmovsxcc | fmovsfcc | fmovrsz | fmovrslez | fmovrslz |
    fmovrsnz | fmovrsgz | fmovrsgez | fmovdicc | fmovdxcc | fmovdfcc | fmovrdz | fmovrdlez | fmovrdlz | fmovrdnz |
    fmovrdgz | fmovrdgez => exact completes_either
  | fsqrts | fqtos | fqtoi | fmovq | fnegq | fabsq | fsqrtd | fsqrtq | faddq | fsubq | fmulq | fdivq | fdmulq |
    fqtox | fxtoq | fqtod | fitoq | fstoq | fdtoq | fmovqicc | fmovqxcc | fmovqfcc | fmovrqz | fmovrqlez | fmovrqlz |
    fmovrqnz | fmovrqgz | fmovrqgez | fcmpq | fcmpeq => exact completes_either
  -- A check or two before such a condition.
  | bpne | bpe | bpg | bple | bpge | bpl | bpgu | bpleu | bpcc | bpcs | bppos | bpneg | bpvc | bpvs | bne | be |
    bg | ble | bge | bl | bgu | bleu | bcc | bcs | bpos | bneg | bvc | bvs | brz | brlez | brlz | brnz | brgz |
    brgez => exact completes_unless completes_either
  | fbpu | fbpg | fbpug | fbpl | fbpul | fbplg | fbpne | fbpe | fbpue | fbpge | fbpuge | fbple | fbpule | fbpo |
    fbu | fbg | fbug | fbl | fbul | fblg | fbne | fbe | fbue | fbge | fbuge | fble | fbule | fbo =>
    exact completes_check (completes_unless completes_either)
  | fbpa | fba | fbpn | fbn => exact completes_check completes_either
  | done | retry | return_ | save | rdpr => exact completes_unless completes_either
  | rdhpr => exact completes_check completes_either
  | wrpr => exact completes_unless (completes_unless completes_either)
  | wrhpr => exact completes_check (completes_unless completes_either)
  | movfu | movfg | movfug | movfl | movful | movflg | movfne | movfe | movfue | movfge | movfuge | movfle |
    movfule | movfo => exact completes_check completes_either
  | fcmps | fcmpd | fcmpes | fcmped | fstoi | fdtoi | fxtos | fitos | fstox | fdtox | fxtod | fitod =>
    exact completes_check completes_either
  | fadds | fsubs | fmuls | fdivs | fdtos | faddd | fsubd | fmuld | fdivd | fsmuld | fstod =>
    exact completes_check (completes_unless completes_either)
  -- Data accesses.
  | lduw | ldub | lduh | ldx | lduwa | lduba | lduha | ldxa => exact completes_loadUnsigned h _ _
  | ldsw | ldsb | ldsh | ldswa | ldsba | ldsha => exact completes_loadSigned h _ _
  | stw | stb | sth | stx | stwa | stba | stha | stxa => exact completes_storeReg h _ _
  | ldstub | ldstuba => exact completes_atomicReg (f := fun _ => 0xFF#64) h _ _
  | swap rd | swapa rd => exact completes_atomicReg (f := fun _ => s.readR rd) h _ _
  | casa | casxa => exact completes_atomicReg h _ _
  | ldtw | ldtxa => exact completes_loadPair h _ _ _
  | ldtwa => exact completes_execLdtwa h _ _ _
  | sttw | sttwa => exact completes_storePair h _ _
  | ldf | ldfa => exact completes_loadSingle h _ _
  | lddf | ldshortf => exact completes_loadDouble h _ _
  | lddfa => exact completes_execLddfa h _ _ _
  | ldblockf => exact completes_loadBlock h _ _
  | stf | stfa => exact completes_storeSingle h _ _
  | stdf | stpartialf | stshortf => exact completes_storeDouble h _ _
  | stdfa => exact completes_execStdfa h _ _ _
  | stblockf => exact completes_storeBlock h _ _
  | ldfsr | ldxfsr => exact completes_check (completes_loadValue h _ fun _ => completes_next _)
  | stfsr | stxfsr => exact completes_check (completes_storeValue h _ fun _ => completes_next _)

end Sys2Proof.Machine
end

section
/-!
PROOFS. What a step leaves in the TLBs (22_mmu.md R1452): what is in them, or nothing after a power-on reset; and
`EveryStepCompletes`.
-/

namespace Sys2Proof.Machine

variable {s t u : State}

/-- The TLBs hold the same entries in both states. -/
structure SameTlbs (s t : State) : Prop where
  itlb : t.mmu.itlb = s.mmu.itlb
  dtlb : t.mmu.dtlb = s.mmu.dtlb

theorem State.TlbsDisjoint.of_sameTlbs (h : s.TlbsDisjoint) (hst : SameTlbs s t) : t.TlbsDisjoint :=
  ⟨hst.itlb ▸ h.itlb, hst.dtlb ▸ h.dtlb⟩

theorem SameTlbs.trans (hst : SameTlbs s t) (htu : SameTlbs t u) : SameTlbs s u :=
  ⟨htu.itlb.trans hst.itlb, htu.dtlb.trans hst.dtlb⟩

theorem SameTlbs.of_mmu (h : t.mmu = s.mmu) : SameTlbs s t := ⟨by rw [h], by rw [h]⟩

theorem SameTlbs.of_trapKept (h : t.trapKept = s.trapKept) : SameTlbs s t :=
  ⟨(congrArg (fun u => u.mmu.itlb) h :), (congrArg (fun u => u.mmu.dtlb) h :)⟩

theorem takeTrap_sameTlbs (e : Exc) (s : State) : SameTlbs s (takeTrap e s) := .of_trapKept (trapKept_takeTrap e s)

/-- What a fetch that traps records goes to registers of the MMU, not to its TLB (22_mmu.md R1480). -/
theorem recordFetchFault_sameTlbs (s : State) (e : Exc) : SameTlbs s (recordFetchFault s e) := by
  unfold recordFetchFault
  split <;> exact ⟨rfl, rfl⟩

theorem raiseFetch_sameTlbs (s : State) (e : Exc) : SameTlbs s (raiseFetch s e) := by
  have hused : SameTlbs s (if e = .instructionAccessError then
      { s with requests := { s.requests with instructionAccessError := false } } else s) := by
    split <;> exact ⟨rfl, rfl⟩
  refine SameTlbs.trans ?_ (takeTrap_sameTlbs e _)
  split
  · exact hused
  · exact hused.trans (recordFetchFault_sameTlbs _ e)

/-- FpCheck before an exception: one of two traps (45_fp.md R800). -/
theorem withFpDest_raise_sameTlbs {mark : State → State} (hm : SameTlbs s (mark s)) (hu : SameTlbs s u) (x : Exc) :
    ∃ t, withFpDest s mark (raise x u) = .next t ∧ SameTlbs s t := by
  unfold withFpDest
  split
  · exact ⟨_, rfl, hu.trans (takeTrap_sameTlbs x u)⟩
  · exact ⟨_, rfl, hm.trans (takeTrap_sameTlbs .fpDisabled _)⟩

/-- A word that does not decode traps, perhaps with FSR.ftt or a dirty bit written before (30_encoding.md R330). -/
theorem undecodable_completes (s : State) (e : DecodeError) : ∃ t, undecodable s e = .next t ∧ SameTlbs s t := by
  have hfsr : SameTlbs s { s with fsr := { s.fsr with ftt := 3#3 } } := ⟨rfl, rfl⟩
  match e with
  | .illegalInstruction => exact ⟨_, rfl, takeTrap_sameTlbs .illegalInstruction s⟩
  | .unimplementedFPop => exact withFpDest_raise_sameTlbs (mark := id) ⟨rfl, rfl⟩ hfsr _
  | .unimplementedFMove false _ => exact withFpDest_raise_sameTlbs (mark := State.markLower) ⟨rfl, rfl⟩ hfsr _
  | .unimplementedFMove true rd =>
    have hmark : (s.markDouble rd).mmu = s.mmu := (congrArg State.mmu (State.kept_markDouble s rd) :)
    exact withFpDest_raise_sameTlbs (mark := fun u => u.markDouble rd) (.of_mmu hmark) hfsr _

/-- What comes before the fetch keeps the TLBs, or, for a power-on reset, empties them (22_mmu.md R1452,
70_reset_and_hazards.md R1255). -/
theorem State.TlbsDisjoint.beforeFetch (h : s.TlbsDisjoint) (ht : beforeFetch s = some t) : t.TlbsDisjoint := by
  rw [beforeFetch_eq] at ht
  split at ht
  · cases ht
    exact ⟨.nil, .nil⟩
  refine h.of_sameTlbs ?_
  split at ht
  · cases ht; exact ⟨rfl, rfl⟩
  split at ht
  · cases ht
    unfold State.xirReset
    split <;> exact ⟨rfl, rfl⟩
  split at ht
  · cases ht; exact ⟨rfl, rfl⟩
  split at ht
  · cases ht; exact .of_trapKept (trapKept_takeTrap .storeError _)
  split at ht
  · cases ht; exact .of_trapKept (trapKept_takeTrap .internalProcessorError _)
  split at ht
  · cases ht; exact takeTrap_sameTlbs .trapLevelZero s
  · obtain ⟨e, -, rfl⟩ := Option.map_eq_some_iff.1 ht
    exact takeTrap_sameTlbs e s

/-- One instruction: its fetch may trap, its word may not decode, and else it completes. -/
theorem State.TlbsDisjoint.attemptInstruction (h : s.TlbsDisjoint) :
    ∃ t, attemptInstruction s = .next t ∧ SameTlbs s t := by
  unfold Machine.attemptInstruction
  split
  · exact ⟨_, rfl, raiseFetch_sameTlbs s _⟩
  · exact absurd ‹_› (fetchAddress_ne_fault h.itlb _)
  · split
    · obtain ⟨t, ht⟩ := exec_completes h.dtlb _
      obtain ⟨-, hitlb, hdtlb, -⟩ := (exec_effect ht).asiRegisters
      exact ⟨t, ht, hitlb, hdtlb⟩
    · exact undecodable_completes s _

/-- The invariant of O6: counting touches no TLB, and then a reset, a trap or one instruction answers a next state. -/
theorem State.TlbsDisjoint.step (h : s.TlbsDisjoint) : ∃ t, step s = .next t ∧ t.TlbsDisjoint := by
  have hc : s.count.TlbsDisjoint := h.of_sameTlbs ⟨rfl, rfl⟩
  unfold Machine.step
  split
  · exact ⟨_, rfl, hc.beforeFetch ‹_›⟩
  · obtain ⟨t, ht, hst⟩ := hc.attemptInstruction
    exact ⟨t, ht, hc.of_sameTlbs hst⟩

/-- Settles O6: a fetch or a data access finds at most one entry, so every step completes, and neither a step nor an
insertion makes entries overlap. -/
theorem everyStepCompletes : Obligations.EveryStepCompletes := by
  refine ⟨fun s hi hd => ?_, fun s t which e hi hd ht => ?_⟩
  · obtain ⟨t, ht, hitlb, hdtlb⟩ := State.TlbsDisjoint.step ⟨hi, hd⟩
    exact ⟨t, ht, hitlb, hdtlb⟩
  · obtain ⟨hitlb, hdtlb⟩ := State.TlbsDisjoint.tlbInsert ⟨hi, hd⟩ ht
    exact ⟨hitlb, hdtlb⟩

end Sys2Proof.Machine
end

section
/-!
PROOFS. The reverse of Laws/Encoding.lean: the fields of a word, put together by the format they were read in, are the
word again, and an operand read from the low bits gives these bits back (30_encoding.md R302, R313 to R326).
-/

namespace Sys2Proof

open BitVec (extractLsb'_append_extractLsb'_eq_extractLsb' extractLsb'_eq_self)

/-! ## A vector from its parts -/

theorem append_parts2 (a b : Nat) (x : BitVec (a + b)) : x.extractLsb' b a ++ x.extractLsb' 0 b = x := by
  rw [extractLsb'_append_extractLsb'_eq_extractLsb' (Nat.zero_add b).symm, extractLsb'_eq_self]

theorem append_parts3 (a b c : Nat) (x : BitVec (a + b + c)) :
    x.extractLsb' (c + b) a ++ x.extractLsb' c b ++ x.extractLsb' 0 c = x := by
  rw [extractLsb'_append_extractLsb'_eq_extractLsb' rfl]
  exact append_parts2 _ _ x

theorem append_parts4 (a b c d : Nat) (x : BitVec (a + b + c + d)) :
    x.extractLsb' (d + c + b) a ++ x.extractLsb' (d + c) b ++ x.extractLsb' d c ++ x.extractLsb' 0 d = x := by
  rw [extractLsb'_append_extractLsb'_eq_extractLsb' rfl]
  exact append_parts3 _ _ _ x

theorem bit_getLsbD {n : Nat} (x : BitVec n) (k : Nat) : bit (x.getLsbD k) = x.extractLsb' k 1 := by
  ext i hi
  obtain rfl : i = 0 := by omega
  simp [bit]

theorem extractLsb'_one {n k : Nat} {x : BitVec n} {b : Bool} (h : x.getLsbD k = b) : x.extractLsb' k 1 = bit b := by
  rw [← h, bit_getLsbD]

/-- The bit above a condition in rs1 or rd (30_encoding.md R322, R323). -/
theorem one_append_low4 : ∀ r : RegField, r.getLsbD 4 = true → 1#1 ++ r.extractLsb' 0 4 = r := by decide

theorem zero_append_low4 : ∀ r : RegField, r.getLsbD 4 = false → 0#1 ++ r.extractLsb' 0 4 = r := by decide

/-- The bits above fcc in the rd of FCMP (30_encoding.md R325). -/
theorem zero_append_low2 : ∀ r : RegField, r.extractLsb' 2 3 = 0#3 → 0#3 ++ r.extractLsb' 0 2 = r := by decide

/-! ## Words -/

theorem f3_fields (w : HWord) : f3 (fOp w) (fRd w) (fOp3 w) (fRs1 w) (fLow14 w) = w := by
  simp (disch := rfl) only [f3, fOp, fRd, fOp3, fRs1, fLow14, extractLsb'_append_extractLsb'_eq_extractLsb']
  exact extractLsb'_eq_self

theorem f1_fields {w : HWord} (hop : fOp w = 1#2) : f1 (fDisp30 w) = w := by
  rw [f1, ← hop]
  exact append_parts2 2 30 w

theorem fSethi_fields {w : HWord} (hop : fOp w = 0#2) : fSethi (fRd w) (fOp2 w) (fImm22 w) = w := by
  rw [fSethi, ← hop]
  exact append_parts4 2 5 3 22 w

theorem fBicc_fields {w : HWord} (hop : fOp w = 0#2) : fBicc (fAnnul w) (fCond w) (fOp2 w) (fImm22 w) = w := by
  rw [fBicc, ← hop, fAnnul, bit_getLsbD]
  simp (disch := rfl) only [fOp, fCond, fOp2, fImm22, extractLsb'_append_extractLsb'_eq_extractLsb']
  exact extractLsb'_eq_self

theorem fBpcc_fields {w : HWord} (hop : fOp w = 0#2) :
    fBpcc (fAnnul w) (fCond w) (fOp2 w) (fCc w) (fPredict w) (fDisp19 w) = w := by
  rw [fBpcc, ← hop, fAnnul, fPredict, bit_getLsbD, bit_getLsbD]
  simp (disch := rfl) only [fOp, fCond, fOp2, fCc, fDisp19, extractLsb'_append_extractLsb'_eq_extractLsb']
  exact extractLsb'_eq_self

theorem fDisp16_high (w : HWord) : (fDisp16 w).extractLsb' 14 2 = w.extractLsb' 20 2 := by
  rw [fDisp16, BitVec.extractLsb'_append_eq_of_le (by decide)]
  exact extractLsb'_eq_self

theorem fDisp16_low (w : HWord) : (fDisp16 w).extractLsb' 0 14 = w.extractLsb' 0 14 := by
  rw [fDisp16, BitVec.extractLsb'_append_eq_of_add_le (by decide)]
  exact extractLsb'_eq_self

/-- Bit 28 of a BPr word is in no field, so that it must be known to be 0 (30_encoding.md R317). -/
theorem fBpr_fields {w : HWord} (hop : fOp w = 0#2) (hop2 : fOp2 w = 3#3) (h28 : w.getLsbD 28 = false) :
    fBpr (fAnnul w) (fRcond w) (fPredict w) (fRs1 w) (fDisp16 w) = w := by
  have hzero : w.extractLsb' 28 1 = 0#1 := extractLsb'_one h28
  rw [fBpr, ← hop, ← hop2, ← hzero, fAnnul, fPredict, bit_getLsbD, bit_getLsbD, fDisp16_high, fDisp16_low]
  simp (disch := rfl) only [fOp, fRcond, fOp2, fRs1, extractLsb'_append_extractLsb'_eq_extractLsb']
  exact extractLsb'_eq_self

/-! ## The low 14 bits -/

variable {l : BitVec 14}

theorem low14_i_one (h : lI l = true) : l.extractLsb' 13 1 = 1#1 := extractLsb'_one h

theorem low14_i_zero (h : ¬lI l = true) : l.extractLsb' 13 1 = 0#1 := extractLsb'_one (eq_false_of_ne_true h)

theorem low14_imm13 (h : lI l = true) : 1#1 ++ l.extractLsb' 0 13 = l := by
  rw [← low14_i_one h]
  exact append_parts2 1 13 l

/-- The low bits of a register form: i, then imm_asi or reserved bits, then rs2. -/
theorem low14_reg (l : BitVec 14) : l.extractLsb' 13 1 ++ lAsi l ++ lRs2 l = l := append_parts3 1 8 5 l

theorem low14_opf (l : BitVec 14) : lOpf l ++ lRs2 l = l := append_parts2 9 5 l

theorem lowOp2_of_op2Of {o : Op2} (h : op2Of l = some o) : lowOp2 o = l := by
  unfold op2Of at h
  split at h
  case isTrue hi => cases h; exact low14_imm13 hi
  case isFalse hi =>
    split at h
    case isTrue hzero => cases h; rw [lowOp2, ← low14_i_zero hi, ← hzero]; exact low14_reg l
    case isFalse => cases h

theorem lowAsi_asiOp2Of (l : BitVec 14) : lowAsi (asiOp2Of l) = l := by
  unfold asiOp2Of
  split
  case isTrue hi => exact low14_imm13 hi
  case isFalse hi => rw [lowAsi, ← low14_i_zero hi]; exact low14_reg l

theorem lowCas_of_casAsiOf {a : CasAsi} (h : casAsiOf l = some a) : lowCas a (lRs2 l) = l := by
  unfold casAsiOf at h
  split at h
  case isTrue hi =>
    split at h
    case isTrue hzero => cases h; rw [lowCas, ← low14_i_one hi, ← hzero]; exact low14_reg l
    case isFalse => cases h
  case isFalse hi => cases h; rw [lowCas, ← low14_i_zero hi]; exact low14_reg l

theorem lowShift32_of_shift32Of {c : Shift32} (hx : l.getLsbD 12 = false) (h : shift32Of l = some c) :
    lowShift32 c = l := by
  have hl : l.extractLsb' 13 1 ++ l.extractLsb' 12 1 ++ l.extractLsb' 5 7 ++ lRs2 l = l := append_parts4 1 1 7 5 l
  unfold shift32Of at h
  split at h
  case isFalse => cases h
  case isTrue hzero =>
    cases h
    rw [extractLsb'_one hx, hzero] at hl
    split
    case isTrue hi => rwa [low14_i_one hi] at hl
    case isFalse hi => rwa [low14_i_zero hi] at hl

theorem lowShift64_of_shift64Of {c : Shift64} (hx : l.getLsbD 12 = true) (h : shift64Of l = some c) :
    lowShift64 c = l := by
  have hreg : l.extractLsb' 13 1 ++ l.extractLsb' 12 1 ++ l.extractLsb' 5 7 ++ lRs2 l = l := append_parts4 1 1 7 5 l
  have himm : l.extractLsb' 13 1 ++ l.extractLsb' 12 1 ++ l.extractLsb' 6 6 ++ l.extractLsb' 0 6 = l :=
    append_parts4 1 1 6 6 l
  unfold shift64Of at h
  split at h <;> split at h
  next hi hzero => cases h; rwa [low14_i_one hi, extractLsb'_one hx, hzero] at himm
  next => cases h
  next hi hzero => cases h; rwa [low14_i_zero hi, extractLsb'_one hx, hzero] at hreg
  next => cases h

theorem lowCC11_of_op2x11Of {o : Op2x11} (h : op2x11Of l = some o) : lowCC11 (l.extractLsb' 11 2) o = l := by
  have hreg : l.extractLsb' 13 1 ++ l.extractLsb' 11 2 ++ l.extractLsb' 5 6 ++ lRs2 l = l := append_parts4 1 2 6 5 l
  have himm : l.extractLsb' 13 1 ++ l.extractLsb' 11 2 ++ l.extractLsb' 0 11 = l := append_parts3 1 2 11 l
  unfold op2x11Of at h
  split at h
  case isTrue hi => cases h; rwa [low14_i_one hi] at himm
  case isFalse hi =>
    split at h
    case isTrue hzero => cases h; rwa [low14_i_zero hi, hzero] at hreg
    case isFalse => cases h

theorem lowRcond10_of_op2x10Of {o : Op2x10} (h : op2x10Of l = some o) : lowRcond10 (l.extractLsb' 10 3) o = l := by
  have hreg : l.extractLsb' 13 1 ++ l.extractLsb' 10 3 ++ l.extractLsb' 5 5 ++ lRs2 l = l := append_parts4 1 3 5 5 l
  have himm : l.extractLsb' 13 1 ++ l.extractLsb' 10 3 ++ l.extractLsb' 0 10 = l := append_parts3 1 3 10 l
  unfold op2x10Of at h
  split at h
  case isTrue hi => cases h; rwa [low14_i_one hi] at himm
  case isFalse hi =>
    split at h
    case isTrue hzero => cases h; rwa [low14_i_zero hi, hzero] at hreg
    case isFalse => cases h

theorem lowTcc_of_op2x8Of {o : Op2x8} (h : op2x8Of l = some o) : lowTcc (l.extractLsb' 11 2) o = l := by
  have hreg : l.extractLsb' 13 1 ++ l.extractLsb' 11 2 ++ l.extractLsb' 5 6 ++ lRs2 l = l := append_parts4 1 2 6 5 l
  have himm : l.extractLsb' 13 1 ++ l.extractLsb' 11 2 ++ l.extractLsb' 8 3 ++ l.extractLsb' 0 8 = l :=
    append_parts4 1 2 3 8 l
  unfold op2x8Of at h
  split at h <;> split at h
  next hi hzero => cases h; rwa [low14_i_one hi, hzero] at himm
  next => cases h
  next hi hzero => cases h; rwa [low14_i_zero hi, hzero] at hreg
  next => cases h

/-! ## Words with an opf (30_encoding.md R325) -/

theorem fOpf_fields (rd : RegField) (op3 : BitVec 6) (rs1 : RegField) (l : BitVec 14) :
    fOpf rd op3 rs1 (lOpf l) (lRs2 l) = f3 2#2 rd op3 rs1 l := by
  rw [fOpf, low14_opf]

/-- The opf of FMOVcc on fccn: bit 13 is 0, then the selector, then opf_low. -/
theorem fOpf_fmovfcc_fields (rd rs1 : RegField) (h : ¬lI l = true) :
    fOpf rd 0x35#6 rs1 (0#1 ++ l.extractLsb' 11 2 ++ l.extractLsb' 5 6) (lRs2 l) = f3 2#2 rd 0x35#6 rs1 l := by
  have hl : l.extractLsb' 13 1 ++ l.extractLsb' 11 2 ++ l.extractLsb' 5 6 ++ lRs2 l = l := append_parts4 1 2 6 5 l
  rw [low14_i_zero h] at hl
  rw [fOpf, hl]

/-- IMPDEP2A and IMPDEP2B keep rs1 and bits 13:7 as one field. -/
theorem fImpdep2_fields (rd rs1 : RegField) (l : BitVec 14) :
    fImpdep2 rd (rs1 ++ l.extractLsb' 7 7) (l.extractLsb' 5 2) (lRs2 l) = f3 2#2 rd 0x37#6 rs1 l := by
  have hl : l.extractLsb' 7 7 ++ l.extractLsb' 5 2 ++ lRs2 l = l := append_parts3 7 2 5 l
  have hhigh : (rs1 ++ l.extractLsb' 7 7).extractLsb' 7 5 = rs1 := by
    rw [BitVec.extractLsb'_append_eq_of_le (by decide)]
    exact extractLsb'_eq_self
  have hlow : (rs1 ++ l.extractLsb' 7 7).extractLsb' 0 7 = l.extractLsb' 7 7 := by
    rw [BitVec.extractLsb'_append_eq_of_add_le (by decide)]
    exact extractLsb'_eq_self
  rw [fImpdep2, hhigh, hlow, hl]

/-! ## Selectors -/

theorem IntCC.bits_of_ofBits {b : BitVec 2} {cc : IntCC} (h : IntCC.ofBits b = some cc) : cc.bits = b := by
  unfold IntCC.ofBits at h
  split at h <;> cases h <;> rfl

theorem PrivReg.number_of_ofNumber {n : BitVec 5} {p : PrivReg} (h : PrivReg.ofNumber n = some p) : p.number = n := by
  unfold PrivReg.ofNumber at h
  split at h <;> cases h <;> rfl

theorem HyperReg.number_of_ofNumber {n : BitVec 5} {p : HyperReg} (h : HyperReg.ofNumber n = some p) :
    p.number = n := by
  unfold HyperReg.ofNumber at h
  split at h <;> cases h <;> rfl

end Sys2Proof
end

section
/-!
PROOFS. What a word decodes to encodes to the word: first for each opcode map of Decode.lean, then for each part of the
decoder, then for `decode`: `EncodeOfDecode`.
-/

namespace Sys2Proof

open BitVec (extractLsb'_append_extractLsb'_eq_extractLsb')

/-- `i` is a well-formed instruction with the encoding `w`. -/
structure Instr.EncodesTo (i : Instr) (w : HWord) : Prop where
  word : encode i = w
  wf : i.wellFormed = true

theorem Instr.EncodesTo.of_eq {i : Instr} {w w' : HWord} (h : i.EncodesTo w) (hw : w = w') : i.EncodesTo w' := hw ▸ h

section Maps

/-! ## Opcode maps: what a map selects has the selector in its encoding (30_encoding.md R340 to R349) -/

variable {rd rs1 rs2 : RegField}

theorem bpccOf_encodesTo (cond : BitVec 4) (a : Bool) (cc : IntCC) (p : Bool) (disp19 : BitVec 19) :
    (bpccOf cond a cc p disp19).EncodesTo (fBpcc a cond 1#3 cc.bits p disp19) := by
  obtain ⟨⟨n, hn⟩⟩ := cond
  interval_cases n <;> exact ⟨rfl, rfl⟩

theorem biccOf_encodesTo (cond : BitVec 4) (a : Bool) (disp22 : BitVec 22) :
    (biccOf cond a disp22).EncodesTo (fBicc a cond 2#3 disp22) := by
  obtain ⟨⟨n, hn⟩⟩ := cond
  interval_cases n <;> exact ⟨rfl, rfl⟩

theorem fbpfccOf_encodesTo (cond : BitVec 4) (a : Bool) (fcc : FccSel) (p : Bool) (disp19 : BitVec 19) :
    (fbpfccOf cond a fcc p disp19).EncodesTo (fBpcc a cond 5#3 fcc p disp19) := by
  obtain ⟨⟨n, hn⟩⟩ := cond
  interval_cases n <;> exact ⟨rfl, rfl⟩

theorem fbfccOf_encodesTo (cond : BitVec 4) (a : Bool) (disp22 : BitVec 22) :
    (fbfccOf cond a disp22).EncodesTo (fBicc a cond 6#3 disp22) := by
  obtain ⟨⟨n, hn⟩⟩ := cond
  interval_cases n <;> exact ⟨rfl, rfl⟩

theorem movccOf_encodesTo (cond : BitVec 4) (rd : RegField) (cc : IntCC) (o : Op2x11) :
    (movccOf cond rd cc o).EncodesTo (f3 2#2 rd 0x2C#6 (1#1 ++ cond) (lowCC11 cc.bits o)) := by
  obtain ⟨⟨n, hn⟩⟩ := cond
  interval_cases n <;> exact ⟨rfl, rfl⟩

theorem movfccOf_encodesTo (cond : BitVec 4) (rd : RegField) (fcc : FccSel) (o : Op2x11) :
    (movfccOf cond rd fcc o).EncodesTo (f3 2#2 rd 0x2C#6 (0#1 ++ cond) (lowCC11 fcc o)) := by
  obtain ⟨⟨n, hn⟩⟩ := cond
  interval_cases n <;> exact ⟨rfl, rfl⟩

theorem tccOf_encodesTo (cond : BitVec 4) (cc : IntCC) (rs1 : RegField) (o : Op2x8) :
    (tccOf cond cc rs1 o).EncodesTo (f3 2#2 (0#1 ++ cond) 0x3A#6 rs1 (lowTcc cc.bits o)) := by
  obtain ⟨⟨n, hn⟩⟩ := cond
  interval_cases n <;> exact ⟨rfl, rfl⟩

theorem encodesTo_of_bprOf {rcond : BitVec 3} {k : Bool → Bool → RegField → BitVec 16 → Instr}
    (h : bprOf rcond = some k) (a p : Bool) (rs1 : RegField) (disp16 : BitVec 16) :
    (k a p rs1 disp16).EncodesTo (fBpr a rcond p rs1 disp16) := by
  unfold bprOf at h
  split at h <;> cases h <;> exact ⟨rfl, rfl⟩

theorem encodesTo_of_aluOf {op3 : BitVec 6} {k : RegField → RegField → Op2 → Instr} (h : aluOf op3 = some k) (o : Op2) :
    (k rd rs1 o).EncodesTo (f3 2#2 rd op3 rs1 (lowOp2 o)) := by
  unfold aluOf at h
  split at h <;> cases h <;> exact ⟨rfl, rfl⟩

theorem encodesTo_of_shift32Op {op3 : BitVec 6} {k : RegField → RegField → Shift32 → Instr}
    (h : shift32Op op3 = some k) (c : Shift32) : (k rd rs1 c).EncodesTo (f3 2#2 rd op3 rs1 (lowShift32 c)) := by
  unfold shift32Op at h
  split at h <;> cases h <;> exact ⟨rfl, rfl⟩

theorem encodesTo_of_shift64Op {op3 : BitVec 6} {k : RegField → RegField → Shift64 → Instr}
    (h : shift64Op op3 = some k) (c : Shift64) : (k rd rs1 c).EncodesTo (f3 2#2 rd op3 rs1 (lowShift64 c)) := by
  unfold shift64Op at h
  split at h <;> cases h <;> exact ⟨rfl, rfl⟩

theorem encodesTo_of_rdasrOf {k : RegField → Instr} (h : rdasrOf rs1 = some k) :
    (k rd).EncodesTo (f3 2#2 rd 0x28#6 rs1 0#14) := by
  unfold rdasrOf at h
  split at h <;> cases h <;> exact ⟨rfl, rfl⟩

theorem encodesTo_of_wrasrOf {k : RegField → Op2 → Instr} (h : wrasrOf rd = some k) (o : Op2) :
    (k rs1 o).EncodesTo (f3 2#2 rd 0x30#6 rs1 (lowOp2 o)) := by
  unfold wrasrOf at h
  split at h <;> cases h <;> exact ⟨rfl, rfl⟩

theorem encodesTo_of_movrOf {rcond : BitVec 3} {k : RegField → RegField → Op2x10 → Instr} (h : movrOf rcond = some k)
    (o : Op2x10) : (k rd rs1 o).EncodesTo (f3 2#2 rd 0x2F#6 rs1 (lowRcond10 rcond o)) := by
  unfold movrOf at h
  split at h <;> cases h <;> exact ⟨rfl, rfl⟩

theorem encodesTo_of_windowOf {i : Instr} (h : windowOf rd = some i) : i.EncodesTo (f3 2#2 rd 0x31#6 0#5 0#14) := by
  unfold windowOf at h
  split at h <;> cases h <;> exact ⟨rfl, rfl⟩

theorem encodesTo_of_doneRetryOf {i : Instr} (h : doneRetryOf rd = some i) :
    i.EncodesTo (f3 2#2 rd 0x3E#6 0#5 0#14) := by
  unfold doneRetryOf at h
  split at h <;> cases h <;> exact ⟨rfl, rfl⟩

variable {opf : BitVec 9}

theorem encodesTo_of_fp1uOf {k : RegField → RegField → Instr} (h : fp1uOf opf = some k) :
    (k rd rs2).EncodesTo (fOpf rd 0x34#6 0#5 opf rs2) := by
  unfold fp1uOf at h
  split at h <;> cases h <;> exact ⟨rfl, rfl⟩

theorem encodesTo_of_fp1bOf {k : RegField → RegField → RegField → Instr} (h : fp1bOf opf = some k) :
    (k rd rs1 rs2).EncodesTo (fOpf rd 0x34#6 rs1 opf rs2) := by
  unfold fp1bOf at h
  split at h <;> cases h <;> exact ⟨rfl, rfl⟩

theorem encodesTo_of_fmoviccOf {k : RegField → BitVec 4 → RegField → Instr} (h : fmoviccOf opf = some k)
    (cond : BitVec 4) : (k rd cond rs2).EncodesTo (fOpf rd 0x35#6 (0#1 ++ cond) opf rs2) := by
  unfold fmoviccOf at h
  split at h <;> cases h <;> exact ⟨rfl, rfl⟩

theorem encodesTo_of_fmovfccOf {opfLow : BitVec 6} {k : RegField → FccSel → BitVec 4 → RegField → Instr}
    (h : fmovfccOf opfLow = some k) (fcc : FccSel) (cond : BitVec 4) :
    (k rd fcc cond rs2).EncodesTo (fOpf rd 0x35#6 (0#1 ++ cond) (0#1 ++ fcc ++ opfLow) rs2) := by
  unfold fmovfccOf at h
  split at h <;> cases h <;> exact ⟨rfl, rfl⟩

theorem encodesTo_of_fmovrOf {k : RegField → RegField → RegField → Instr} (h : fmovrOf opf = some k) :
    (k rd rs1 rs2).EncodesTo (fOpf rd 0x35#6 rs1 opf rs2) := by
  unfold fmovrOf at h
  split at h <;> cases h <;> exact ⟨rfl, rfl⟩

theorem encodesTo_of_fcmpOf {k : FccSel → RegField → RegField → Instr} (h : fcmpOf opf = some k) (fcc : FccSel) :
    (k fcc rs1 rs2).EncodesTo (fOpf (0#3 ++ fcc) 0x35#6 rs1 opf rs2) := by
  unfold fcmpOf at h
  split at h <;> cases h <;> exact ⟨rfl, rfl⟩

theorem encodesTo_of_visOf {k : RegField → RegField → RegField → Instr} (h : visOf opf = some k) :
    (k rd rs1 rs2).EncodesTo (fOpf rd 0x36#6 rs1 opf rs2) := by
  unfold visOf at h
  split at h <;> cases h <;> exact ⟨rfl, rfl⟩

theorem encodesTo_of_visRs1Of {k : RegField → RegField → Instr} (h : visRs1Of opf = some k) :
    (k rd rs1).EncodesTo (fOpf rd 0x36#6 rs1 opf 0#5) := by
  unfold visRs1Of at h
  split at h <;> cases h <;> exact ⟨rfl, rfl⟩

theorem encodesTo_of_visRs2Of {k : RegField → RegField → Instr} (h : visRs2Of opf = some k) :
    (k rd rs2).EncodesTo (fOpf rd 0x36#6 0#5 opf rs2) := by
  unfold visRs2Of at h
  split at h <;> cases h <;> exact ⟨rfl, rfl⟩

theorem encodesTo_of_visRdOf {k : RegField → Instr} (h : visRdOf opf = some k) :
    (k rd).EncodesTo (fOpf rd 0x36#6 0#5 opf 0#5) := by
  unfold visRdOf at h
  split at h <;> cases h <;> exact ⟨rfl, rfl⟩

/-! ### Memory instructions, whose operand checks are in part the decoder's (30_encoding.md R324, R343) -/

theorem encode_of_memOf {op3 : BitVec 6} {k : RegField → RegField → Op2 → Instr} (h : memOf op3 = some k) (o : Op2) :
    encode (k rd rs1 o) = f3 3#2 rd op3 rs1 (lowOp2 o) := by
  unfold memOf at h
  split at h <;> cases h <;> rfl

/-- The twin-word instructions alone have a check: an even rd. -/
theorem wellFormed_of_memOf {op3 : BitVec 6} {k : RegField → RegField → Op2 → Instr} (h : memOf op3 = some k)
    (o : Op2) : (k rd rs1 o).wellFormed = true ↔ (op3 = 0x03#6 ∨ op3 = 0x07#6 → isEven rd = true) := by
  unfold memOf at h
  split at h <;> cases h <;> simp [Instr.wellFormed]

theorem encode_of_altOf {op3 : BitVec 6} {k : RegField → RegField → AsiOp2 → Instr} (h : altOf op3 = some k)
    (o : AsiOp2) : encode (k rd rs1 o) = f3 3#2 rd op3 rs1 (lowAsi o) := by
  unfold altOf at h
  split at h <;> cases h <;> rfl

section AsiSelect

variable (rd rs1 rs2 : RegField) (asi : BitVec 8)

/-! Which ASIs make LDTWA, LDDFA and STDFA another instruction. -/

theorem asiSelect_ldtwa_eq_none : asiSelect 0x13#6 rd rs1 asi rs2 = none ↔ isTwinAsi asi = false := by
  simp [asiSelect]

theorem asiSelect_lddfa_eq_none :
    asiSelect 0x33#6 rd rs1 asi rs2 = none ↔ isBlockAsi asi = false ∧ isShortAsi asi = false := by
  by_cases hb : isBlockAsi asi <;> simp [asiSelect, hb]

theorem asiSelect_stdfa_eq_none :
    asiSelect 0x37#6 rd rs1 asi rs2 = none ↔
      (isBlockAsi asi = false ∧ isShortAsi asi = false) ∧ isPartialAsi asi = false := by
  by_cases hb : isBlockAsi asi <;> by_cases hs : isShortAsi asi <;> simp [asiSelect, hb, hs]

theorem asiSelect_eq_none {op3 : BitVec 6} (htwin : op3 ≠ 0x13#6) (hload : op3 ≠ 0x33#6) (hstore : op3 ≠ 0x37#6) :
    asiSelect op3 rd rs1 asi rs2 = none := by
  simp [asiSelect]

end AsiSelect

/-- An immediate ASI leaves the word the instruction that its op3 names. -/
def AsiOp2.SelectsNone (op3 : BitVec 6) (rd rs1 : RegField) : AsiOp2 → Prop
  | .reg asi rs2 => asiSelect op3 rd rs1 asi rs2 = none
  | .imm _ => True

theorem wellFormed_of_altOf {op3 : BitVec 6} {k : RegField → RegField → AsiOp2 → Instr} (h : altOf op3 = some k)
    (o : AsiOp2) :
    (k rd rs1 o).wellFormed = true ↔
      (op3 = 0x13#6 ∨ op3 = 0x17#6 → isEven rd = true) ∧ o.SelectsNone op3 rd rs1 := by
  unfold altOf at h
  split at h <;> cases h <;> cases o <;>
    simp [Instr.wellFormed, AsiOp2.immAsiOk, AsiOp2.SelectsNone, asiSelect_ldtwa_eq_none, asiSelect_lddfa_eq_none,
      asiSelect_stdfa_eq_none, asiSelect_eq_none]

theorem encodesTo_of_asiSelect {op3 : BitVec 6} {asi : BitVec 8} {i : Instr} (h : asiSelect op3 rd rs1 asi rs2 = some i)
    (heven : op3 = 0x13#6 ∨ op3 = 0x17#6 → isEven rd = true) : i.EncodesTo (f3 3#2 rd op3 rs1 (0#1 ++ asi ++ rs2)) := by
  unfold asiSelect at h
  split at h
  · split at h
    case isTrue htwin => cases h; exact ⟨rfl, by simp [Instr.wellFormed, htwin, heven (.inl rfl)]⟩
    case isFalse => cases h
  · split_ifs at h <;> cases h <;> exact ⟨rfl, ‹_›⟩
  · split_ifs at h <;> cases h <;> exact ⟨rfl, ‹_›⟩
  · cases h

theorem encodesTo_of_casOf {op3 : BitVec 6} {k : RegField → RegField → CasAsi → RegField → Instr}
    (h : casOf op3 = some k) (a : CasAsi) : (k rd rs1 a rs2).EncodesTo (f3 3#2 rd op3 rs1 (lowCas a rs2)) := by
  unfold casOf at h
  split at h <;> cases h <;> exact ⟨rfl, rfl⟩

theorem encodesTo_of_fsrMemOf {op3 : BitVec 6} {k : RegField → Op2 → Instr} (h : fsrMemOf op3 rd = some k) (o : Op2) :
    (k rs1 o).EncodesTo (f3 3#2 rd op3 rs1 (lowOp2 o)) := by
  unfold fsrMemOf at h
  split at h <;> cases h <;> exact ⟨rfl, rfl⟩

/-! ## The encodings of the instructions that no map selects -/

theorem encode_flushw (i : Bool) : encode (.flushw i) = f3 2#2 0#5 0x2B#6 0#5 (bit i ++ 0#13) := rfl

theorem encode_popc (rd : RegField) (op2 : Op2) : encode (.popc rd op2) = f3 2#2 rd 0x2E#6 0#5 (lowOp2 op2) := rfl

theorem encode_membar (cmask : BitVec 3) (mmask : BitVec 4) :
    encode (.membar cmask mmask) = f3 2#2 0#5 0x28#6 15#5 (1#1 ++ 0#6 ++ cmask ++ mmask) := rfl

theorem encode_rdhpr (rd : RegField) (hpr : HyperReg) :
    encode (.rdhpr rd hpr) = f3 2#2 rd 0x29#6 hpr.number 0#14 := rfl

theorem encode_rdpr (rd : RegField) (pr : PrivReg) : encode (.rdpr rd pr) = f3 2#2 rd 0x2A#6 pr.number 0#14 := rfl

theorem encode_sir (simm13 : BitVec 13) : encode (.sir simm13) = f3 2#2 15#5 0x30#6 0#5 (1#1 ++ simm13) := rfl

theorem encode_wrpr (pr : PrivReg) (rs1 : RegField) (op2 : Op2) :
    encode (.wrpr pr rs1 op2) = f3 2#2 pr.number 0x32#6 rs1 (lowOp2 op2) := rfl

theorem encode_wrhpr (hpr : HyperReg) (rs1 : RegField) (op2 : Op2) :
    encode (.wrhpr hpr rs1 op2) = f3 2#2 hpr.number 0x33#6 rs1 (lowOp2 op2) := rfl

theorem encode_siam (mode : BitVec 3) : encode (.siam mode) = fOpf 0#5 0x36#6 0#5 0x81#9 (0#2 ++ mode) := rfl

theorem encode_impdep2a (bits29_25 : RegField) (bits18_7 : BitVec 12) (bits4_0 : BitVec 5) :
    encode (.impdep2a bits29_25 bits18_7 bits4_0) = fImpdep2 bits29_25 bits18_7 0#2 bits4_0 := rfl

theorem encode_return_ (bits29_25 rs1 : RegField) (op2 : Op2) :
    encode (.return_ bits29_25 rs1 op2) = f3 2#2 bits29_25 0x39#6 rs1 (lowOp2 op2) := rfl

theorem encode_flush (rs1 : RegField) (op2 : AsiOp2) :
    encode (.flush rs1 op2) = f3 2#2 0#5 0x3B#6 rs1 (lowAsi op2) := rfl

theorem encode_prefetch (fcn : BitVec 5) (rs1 : RegField) (op2 : Op2) :
    encode (.prefetch fcn rs1 op2) = f3 3#2 fcn 0x2D#6 rs1 (lowOp2 op2) := rfl

theorem encode_prefetcha (fcn : BitVec 5) (rs1 : RegField) (op2 : AsiOp2) :
    encode (.prefetcha fcn rs1 op2) = f3 3#2 fcn 0x3D#6 rs1 (lowAsi op2) := rfl

end Maps

/-! ## The parts of the decoder -/

section Decoder

variable {i : Instr}

theorem orIllegal_eq_ok {o : Option Instr} : orIllegal o = .ok i ↔ o = some i := by
  cases o <;> simp [orIllegal]

/-- A check of the decoder, passed. -/
theorem ite_error_eq_ok {c : Prop} [Decidable c] {x : Except DecodeError Instr} {e : DecodeError} :
    (if c then x else .error e) = .ok i ↔ c ∧ x = .ok i := by
  by_cases hc : c <;> simp [hc]

theorem error_ite_eq_ok {c : Prop} [Decidable c] {x : Except DecodeError Instr} {e : DecodeError} :
    (if c then .error e else x) = .ok i ↔ ¬c ∧ x = .ok i := by
  by_cases hc : c <;> simp [hc]

theorem encodesTo_of_decodeOp0 {w : HWord} (hop : fOp w = 0#2) (h : decodeOp0 w = .ok i) : i.EncodesTo w := by
  have hsethi := fSethi_fields hop
  have hbicc := fBicc_fields hop
  have hbpcc := fBpcc_fields hop
  unfold decodeOp0 at h
  split at h <;> rename_i hop2
  -- ILLTRAP
  · cases h
    rw [hop2] at hsethi
    exact ⟨hsethi, rfl⟩
  -- BPcc
  · simp only [orIllegal_eq_ok, Option.map_eq_some_iff] at h
    obtain ⟨cc, hcc, rfl⟩ := h
    rw [hop2, ← IntCC.bits_of_ofBits hcc] at hbpcc
    exact (bpccOf_encodesTo ..).of_eq hbpcc
  -- Bicc
  · cases h
    rw [hop2] at hbicc
    exact (biccOf_encodesTo ..).of_eq hbicc
  -- BPr
  · simp only [error_ite_eq_ok, orIllegal_eq_ok, Option.map_eq_some_iff] at h
    obtain ⟨h28, k, hk, rfl⟩ := h
    exact (encodesTo_of_bprOf hk ..).of_eq (fBpr_fields hop hop2 (eq_false_of_ne_true h28))
  -- NOP and SETHI
  · rw [hop2] at hsethi
    cases h
    split
    case isTrue hzero =>
      obtain ⟨hrd, himm⟩ := hzero
      rw [hrd, himm] at hsethi
      exact ⟨hsethi, rfl⟩
    case isFalse hzero => exact ⟨hsethi, by simpa [Instr.wellFormed, or_iff_not_imp_left] using hzero⟩
  -- FBPfcc
  · cases h
    rw [hop2] at hbpcc
    exact (fbpfccOf_encodesTo ..).of_eq hbpcc
  -- FBfcc
  · cases h
    rw [hop2] at hbicc
    exact (fbfccOf_encodesTo ..).of_eq hbicc
  · cases h

variable {rd rs1 : RegField} {l : BitVec 14}

/-- The low bits of MEMBAR: i = 1, bits 12:7 zero, cmask, mmask (30_encoding.md R326). -/
theorem lowMembar_fields (hi : lI l = true) (hzero : l.extractLsb' 7 6 = 0#6) :
    1#1 ++ 0#6 ++ l.extractLsb' 4 3 ++ l.extractLsb' 0 4 = l := by
  rw [← low14_i_one hi, ← hzero]
  exact append_parts4 1 6 3 4 l

theorem encodesTo_of_decodeRdasr (h : decodeRdasr rd rs1 l = .ok i) : i.EncodesTo (f3 2#2 rd 0x28#6 rs1 l) := by
  unfold decodeRdasr at h
  split at h
  case isTrue h15 =>
    simp only [error_ite_eq_ok, not_not] at h
    obtain ⟨rfl, h⟩ := h
    subst h15
    split at h <;> simp only [ite_error_eq_ok] at h <;> obtain ⟨hzero, hi⟩ := h <;> cases hi
    case isTrue hi => exact ⟨by rw [encode_membar, lowMembar_fields hi hzero], rfl⟩
    case isFalse => subst hzero; exact ⟨rfl, rfl⟩
  case isFalse =>
    simp only [error_ite_eq_ok, not_not, orIllegal_eq_ok, Option.map_eq_some_iff] at h
    obtain ⟨rfl, k, hk, rfl⟩ := h
    exact encodesTo_of_rdasrOf hk

theorem encodesTo_of_decodeWrasr (h : decodeWrasr rd rs1 l = .ok i) : i.EncodesTo (f3 2#2 rd 0x30#6 rs1 l) := by
  unfold decodeWrasr at h
  split at h
  case isTrue h15 =>
    simp only [ite_error_eq_ok] at h
    obtain ⟨⟨rfl, hi⟩, h⟩ := h
    cases h
    exact ⟨by rw [encode_sir, low14_imm13 hi, h15], rfl⟩
  case isFalse =>
    simp only [orIllegal_eq_ok, Option.bind_eq_some_iff, Option.map_eq_some_iff] at h
    obtain ⟨k, hk, o, ho, rfl⟩ := h
    exact (encodesTo_of_wrasrOf hk o).of_eq (by rw [lowOp2_of_op2Of ho])

theorem encodesTo_of_decodeFpop1 (h : decodeFpop1 rd rs1 l = .ok i) : i.EncodesTo (f3 2#2 rd 0x34#6 rs1 l) := by
  rw [← fOpf_fields]
  unfold decodeFpop1 at h
  split at h
  case h_1 hk => cases h; exact encodesTo_of_fp1bOf hk
  case h_2 =>
    split at h
    case h_1 hk =>
      simp only [ite_error_eq_ok] at h
      obtain ⟨rfl, h⟩ := h
      cases h
      exact encodesTo_of_fp1uOf hk
    case h_2 => cases h

theorem encodesTo_of_decodeFpop2 (h : decodeFpop2 rd rs1 l = .ok i) : i.EncodesTo (f3 2#2 rd 0x35#6 rs1 l) := by
  unfold decodeFpop2 at h
  split at h
  · simp only [error_ite_eq_ok] at h
    obtain ⟨h4, h⟩ := h
    have hcond := zero_append_low4 rs1 (eq_false_of_ne_true h4)
    split at h
    case isTrue hi =>
      split at h
      case h_1 hk =>
        cases h
        exact (encodesTo_of_fmoviccOf hk _).of_eq (by rw [hcond, fOpf_fields])
      case h_2 => cases h
    case isFalse hi =>
      split at h
      case h_1 hk =>
        cases h
        exact (encodesTo_of_fmovfccOf hk _ _).of_eq (by rw [hcond, fOpf_fmovfcc_fields rd rs1 hi])
      case h_2 => cases h
  · rw [← fOpf_fields]
    split at h
    · simp only [error_ite_eq_ok] at h
      obtain ⟨-, h⟩ := h
      split at h
      case h_1 hk => cases h; exact encodesTo_of_fmovrOf hk
      case h_2 => cases h
    · split at h
      case h_1 hk =>
        simp only [ite_error_eq_ok] at h
        obtain ⟨hzero, h⟩ := h
        cases h
        exact (encodesTo_of_fcmpOf hk _).of_eq (by rw [zero_append_low2 rd hzero])
      case h_2 => cases h

/-- The low bits of SIAM: opf, bits 4:3 zero, mode (30_encoding.md R325). -/
theorem lowSiam_fields (hzero : l.extractLsb' 3 2 = 0#2) : lOpf l ++ (0#2 ++ l.extractLsb' 0 3) = l := by
  have hrs2 : l.extractLsb' 3 2 ++ l.extractLsb' 0 3 = lRs2 l := extractLsb'_append_extractLsb'_eq_extractLsb' rfl
  rw [← hzero, hrs2, low14_opf]

/-- The low bits of FLUSHW: i alone. -/
theorem lowFlushw_fields (hzero : l.extractLsb' 0 13 = 0#13) : bit (lI l) ++ 0#13 = l := by
  rw [lI, bit_getLsbD, ← hzero]
  exact append_parts2 1 13 l

theorem encodesTo_of_decodeVis (h : decodeVis rd rs1 l = .ok i) : i.EncodesTo (f3 2#2 rd 0x36#6 rs1 l) := by
  rw [← fOpf_fields]
  unfold decodeVis at h
  split at h
  case h_1 hk => cases h; exact encodesTo_of_visOf hk
  split at h
  case h_1 hk =>
    simp only [ite_error_eq_ok] at h
    obtain ⟨hrs2, h⟩ := h
    cases h
    exact (encodesTo_of_visRs1Of hk).of_eq (by rw [hrs2])
  split at h
  case h_1 hk =>
    simp only [ite_error_eq_ok] at h
    obtain ⟨rfl, h⟩ := h
    cases h
    exact encodesTo_of_visRs2Of hk
  split at h
  case h_1 hk =>
    simp only [ite_error_eq_ok] at h
    obtain ⟨⟨rfl, hrs2⟩, h⟩ := h
    cases h
    exact (encodesTo_of_visRdOf hk).of_eq (by rw [hrs2])
  · simp only [ite_error_eq_ok] at h
    obtain ⟨⟨hopf, rfl, rfl, hzero⟩, h⟩ := h
    cases h
    exact ⟨by rw [encode_siam, fOpf, fOpf, ← hopf, lowSiam_fields hzero, low14_opf], rfl⟩

theorem decodeImpdep2_encodesTo (rd rs1 : RegField) (l : BitVec 14) :
    (decodeImpdep2 rd rs1 l).EncodesTo (f3 2#2 rd 0x37#6 rs1 l) := by
  rw [← fImpdep2_fields]
  unfold decodeImpdep2
  split
  case isTrue hop4 => exact ⟨by rw [encode_impdep2a, hop4], rfl⟩
  case isFalse hop4 => exact ⟨rfl, by simpa [Instr.wellFormed] using hop4⟩

theorem encodesTo_of_shift {op3 : BitVec 6}
    (h : (if l.getLsbD 12 then
        orIllegal ((shift64Op op3).bind fun k => (shift64Of l).map fun c => k rd rs1 c)
      else orIllegal ((shift32Op op3).bind fun k => (shift32Of l).map fun c => k rd rs1 c)) = .ok i) :
    i.EncodesTo (f3 2#2 rd op3 rs1 l) := by
  split at h <;> simp only [orIllegal_eq_ok, Option.bind_eq_some_iff, Option.map_eq_some_iff] at h <;>
    obtain ⟨k, hk, c, hc, rfl⟩ := h
  case isTrue hx => exact (encodesTo_of_shift64Op hk c).of_eq (by rw [lowShift64_of_shift64Of hx hc])
  case isFalse hx =>
    exact (encodesTo_of_shift32Op hk c).of_eq (by rw [lowShift32_of_shift32Of (eq_false_of_ne_true hx) hc])

theorem encodesTo_of_fsrMem {op3 : BitVec 6}
    (h : orIllegal ((fsrMemOf op3 rd).bind fun k => (op2Of l).map fun o => k rs1 o) = .ok i) :
    i.EncodesTo (f3 3#2 rd op3 rs1 l) := by
  simp only [orIllegal_eq_ok, Option.bind_eq_some_iff, Option.map_eq_some_iff] at h
  obtain ⟨k, hk, o, ho, rfl⟩ := h
  exact (encodesTo_of_fsrMemOf hk o).of_eq (by rw [lowOp2_of_op2Of ho])

theorem encodesTo_of_decodeOp2 {w : HWord} (hop : fOp w = 2#2) (h : decodeOp2 w = .ok i) : i.EncodesTo w := by
  rw [← f3_fields w, hop]
  unfold decodeOp2 at h
  generalize fRd w = rd, fOp3 w = op3, fRs1 w = rs1, fLow14 w = l at h ⊢
  simp only at h
  split at h
  case h_1 hk =>
    simp only [orIllegal_eq_ok, Option.map_eq_some_iff] at h
    obtain ⟨o, ho, rfl⟩ := h
    exact (encodesTo_of_aluOf hk o).of_eq (by rw [lowOp2_of_op2Of ho])
  split at h
  -- The shifts
  · exact encodesTo_of_shift h
  · exact encodesTo_of_shift h
  · exact encodesTo_of_shift h
  -- RDasr, MEMBAR and STBAR
  · exact encodesTo_of_decodeRdasr h
  -- RDHPR
  · simp only [ite_error_eq_ok, orIllegal_eq_ok, Option.map_eq_some_iff] at h
    obtain ⟨rfl, r, hr, rfl⟩ := h
    exact ⟨by rw [encode_rdhpr, HyperReg.number_of_ofNumber hr], rfl⟩
  -- RDPR
  · simp only [ite_error_eq_ok, orIllegal_eq_ok, Option.map_eq_some_iff] at h
    obtain ⟨rfl, r, hr, rfl⟩ := h
    exact ⟨by rw [encode_rdpr, PrivReg.number_of_ofNumber hr], rfl⟩
  -- FLUSHW
  · simp only [ite_error_eq_ok] at h
    obtain ⟨⟨rfl, rfl, hzero⟩, h⟩ := h
    cases h
    exact ⟨by rw [encode_flushw, lowFlushw_fields hzero], rfl⟩
  -- MOVcc
  · split at h <;> rename_i h4
    · simp only [orIllegal_eq_ok, Option.bind_eq_some_iff, Option.map_eq_some_iff] at h
      obtain ⟨cc, hcc, o, ho, rfl⟩ := h
      exact (movccOf_encodesTo ..).of_eq
        (by rw [one_append_low4 rs1 h4, IntCC.bits_of_ofBits hcc, lowCC11_of_op2x11Of ho])
    · simp only [orIllegal_eq_ok, Option.map_eq_some_iff] at h
      obtain ⟨o, ho, rfl⟩ := h
      exact (movfccOf_encodesTo ..).of_eq
        (by rw [zero_append_low4 rs1 (eq_false_of_ne_true h4), lowCC11_of_op2x11Of ho])
  -- POPC
  · simp only [ite_error_eq_ok, orIllegal_eq_ok, Option.map_eq_some_iff] at h
    obtain ⟨rfl, o, ho, rfl⟩ := h
    exact ⟨by rw [encode_popc, lowOp2_of_op2Of ho], rfl⟩
  -- MOVr
  · simp only [orIllegal_eq_ok, Option.bind_eq_some_iff, Option.map_eq_some_iff] at h
    obtain ⟨k, hk, o, ho, rfl⟩ := h
    exact (encodesTo_of_movrOf hk o).of_eq (by rw [lowRcond10_of_op2x10Of ho])
  -- WRasr and SIR
  · exact encodesTo_of_decodeWrasr h
  -- The window-state group
  · simp only [ite_error_eq_ok, orIllegal_eq_ok] at h
    obtain ⟨⟨rfl, rfl⟩, h⟩ := h
    exact encodesTo_of_windowOf h
  -- WRPR
  · simp only [orIllegal_eq_ok, Option.bind_eq_some_iff, Option.map_eq_some_iff] at h
    obtain ⟨r, hr, o, ho, rfl⟩ := h
    exact ⟨by rw [encode_wrpr, PrivReg.number_of_ofNumber hr, lowOp2_of_op2Of ho], rfl⟩
  -- WRHPR
  · simp only [orIllegal_eq_ok, Option.bind_eq_some_iff] at h
    obtain ⟨r, hr, h⟩ := h
    split at h
    case isTrue => cases h
    case isFalse hver =>
      obtain ⟨o, ho, rfl⟩ := Option.map_eq_some_iff.1 h
      exact ⟨by rw [encode_wrhpr, HyperReg.number_of_ofNumber hr, lowOp2_of_op2Of ho],
        by simpa [Instr.wellFormed] using hver⟩
  -- FPop1, FPop2, IMPDEP1, IMPDEP2
  · exact encodesTo_of_decodeFpop1 h
  · exact encodesTo_of_decodeFpop2 h
  · exact encodesTo_of_decodeVis h
  · cases h
    exact decodeImpdep2_encodesTo rd rs1 l
  -- RETURN
  · simp only [orIllegal_eq_ok, Option.map_eq_some_iff] at h
    obtain ⟨o, ho, rfl⟩ := h
    exact ⟨by rw [encode_return_, lowOp2_of_op2Of ho], rfl⟩
  -- Tcc
  · simp only [error_ite_eq_ok, orIllegal_eq_ok, Option.bind_eq_some_iff, Option.map_eq_some_iff] at h
    obtain ⟨h4, cc, hcc, o, ho, rfl⟩ := h
    exact (tccOf_encodesTo ..).of_eq
      (by rw [zero_append_low4 rd (eq_false_of_ne_true h4), IntCC.bits_of_ofBits hcc, lowTcc_of_op2x8Of ho])
  -- FLUSH
  · simp only [ite_error_eq_ok] at h
    obtain ⟨rfl, h⟩ := h
    cases h
    exact ⟨by rw [encode_flush, lowAsi_asiOp2Of], rfl⟩
  -- DONE and RETRY
  · simp only [ite_error_eq_ok, orIllegal_eq_ok] at h
    obtain ⟨⟨rfl, rfl⟩, h⟩ := h
    exact encodesTo_of_doneRetryOf h
  · cases h

theorem encodesTo_of_decodeAlt {op3 : BitVec 6} {k : RegField → RegField → AsiOp2 → Instr} (hk : altOf op3 = some k)
    (h : decodeAlt op3 k rd rs1 l = .ok i) : i.EncodesTo (f3 3#2 rd op3 rs1 l) := by
  unfold decodeAlt at h
  simp only [error_ite_eq_ok, not_and, Bool.not_eq_false] at h
  obtain ⟨heven, h⟩ := h
  have hself (hnone : (asiOp2Of l).SelectsNone op3 rd rs1) : (k rd rs1 (asiOp2Of l)).EncodesTo (f3 3#2 rd op3 rs1 l) :=
    ⟨by rw [encode_of_altOf hk, lowAsi_asiOp2Of], (wellFormed_of_altOf hk _).2 ⟨heven, hnone⟩⟩
  split at h
  case isTrue hi => cases h; exact hself (by simp [asiOp2Of, hi, AsiOp2.SelectsNone])
  case isFalse hi =>
    split at h
    case h_1 hs =>
      cases h
      exact (encodesTo_of_asiSelect hs heven).of_eq (by rw [← low14_i_zero hi, low14_reg])
    case h_2 hs => cases h; exact hself (by simpa [asiOp2Of, hi, AsiOp2.SelectsNone] using hs)

theorem encodesTo_of_decodeOp3 {w : HWord} (hop : fOp w = 3#2) (h : decodeOp3 w = .ok i) : i.EncodesTo w := by
  rw [← f3_fields w, hop]
  unfold decodeOp3 at h
  generalize fRd w = rd, fOp3 w = op3, fRs1 w = rs1, fLow14 w = l at h ⊢
  simp only at h
  split at h
  case h_1 hk =>
    simp only [error_ite_eq_ok, not_and, Bool.not_eq_false, orIllegal_eq_ok, Option.map_eq_some_iff] at h
    obtain ⟨heven, o, ho, rfl⟩ := h
    exact ⟨by rw [encode_of_memOf hk, lowOp2_of_op2Of ho], (wellFormed_of_memOf hk o).2 heven⟩
  split at h
  case h_1 hk => exact encodesTo_of_decodeAlt hk h
  split at h
  case h_1 hk =>
    simp only [orIllegal_eq_ok, Option.map_eq_some_iff] at h
    obtain ⟨a, ha, rfl⟩ := h
    exact (encodesTo_of_casOf hk a).of_eq (by rw [lowCas_of_casAsiOf ha])
  split at h
  -- The loads and stores of FSR
  · exact encodesTo_of_fsrMem h
  · exact encodesTo_of_fsrMem h
  -- PREFETCH
  · simp only [ite_error_eq_ok, orIllegal_eq_ok, Option.map_eq_some_iff] at h
    obtain ⟨hfcn, o, ho, rfl⟩ := h
    exact ⟨by rw [encode_prefetch, lowOp2_of_op2Of ho], hfcn⟩
  -- PREFETCHA
  · simp only [ite_error_eq_ok] at h
    obtain ⟨hfcn, h⟩ := h
    cases h
    exact ⟨by rw [encode_prefetcha, lowAsi_asiOp2Of], hfcn⟩
  · cases h

end Decoder

/-- By the part of the decoder that op selects (30_encoding.md R340). -/
theorem encodesTo_of_decode {w : HWord} {i : Instr} (h : decode w = .ok i) : i.EncodesTo w := by
  have hop3 : ∀ op : BitVec 2, op ≠ 0#2 → op ≠ 1#2 → op ≠ 2#2 → op = 3#2 := by decide
  unfold decode at h
  split at h
  case h_1 hop => exact encodesTo_of_decodeOp0 hop h
  case h_2 hop => cases h; exact ⟨f1_fields hop, rfl⟩
  case h_3 hop => exact encodesTo_of_decodeOp2 hop h
  case h_4 h0 h1 h2 => exact encodesTo_of_decodeOp3 (hop3 _ h0 h1 h2) h

/-- Settles O2: each part of the decoder keeps every bit of its word in the instruction or finds it to be fixed. -/
theorem encodeOfDecode : Obligations.EncodeOfDecode := fun _ _ h =>
  have henc := encodesTo_of_decode h
  ⟨henc.word, henc.wf⟩

end Sys2Proof
end

section
/-!
PROOFS. The word of a well-formed instruction decodes to it: first for each format and opcode map, then, by the format
that encodes it, for each instruction: `DecodeOfEncode`.
-/

namespace Sys2Proof

open BitVec (extractLsb'_append_eq_of_le extractLsb'_append_eq_of_add_le extractLsb'_eq_self)

/-! ## Fields of the low 14 bits -/

theorem getLsbD_lowShift32 (c : Shift32) : (lowShift32 c).getLsbD 12 = false := by
  cases c <;> simp only [lowShift32, BitVec.getLsbD_append] <;> simp

theorem getLsbD_lowShift64 (c : Shift64) : (lowShift64 c).getLsbD 12 = true := by
  cases c <;> simp only [lowShift64, BitVec.getLsbD_append] <;> simp

theorem cc_lowCC11 (cc : BitVec 2) (o : Op2x11) : (lowCC11 cc o).extractLsb' 11 2 = cc := by
  cases o <;> simp (disch := decide) only [lowCC11, extractLsb'_append_eq_of_le, extractLsb'_append_eq_of_add_le] <;>
    exact extractLsb'_eq_self

theorem cc_lowTcc (cc : BitVec 2) (o : Op2x8) : (lowTcc cc o).extractLsb' 11 2 = cc := by
  cases o <;> simp (disch := decide) only [lowTcc, extractLsb'_append_eq_of_le, extractLsb'_append_eq_of_add_le] <;>
    exact extractLsb'_eq_self

theorem rcond_lowRcond10 (rcond : BitVec 3) (o : Op2x10) : (lowRcond10 rcond o).extractLsb' 10 3 = rcond := by
  cases o <;> simp (disch := decide) only [lowRcond10, extractLsb'_append_eq_of_le, extractLsb'_append_eq_of_add_le] <;>
    exact extractLsb'_eq_self

theorem lI_lowAsi_reg (asi : BitVec 8) (rs2 : RegField) : lI (lowAsi (.reg asi rs2)) = false := by
  simp only [lowAsi, lI, BitVec.getLsbD_append]; simp

theorem lI_lowAsi_imm (v : BitVec 13) : lI (lowAsi (.imm v)) = true := by
  simp only [lowAsi, lI, BitVec.getLsbD_append]; simp

theorem lAsi_lowAsi_reg (asi : BitVec 8) (rs2 : RegField) : lAsi (lowAsi (.reg asi rs2)) = asi := by
  simp (disch := decide) only [lowAsi, lAsi, extractLsb'_append_eq_of_le, extractLsb'_append_eq_of_add_le]
  exact extractLsb'_eq_self

theorem lRs2_lowAsi_reg (asi : BitVec 8) (rs2 : RegField) : lRs2 (lowAsi (.reg asi rs2)) = rs2 := by
  simp (disch := decide) only [lowAsi, lRs2, extractLsb'_append_eq_of_add_le]
  exact extractLsb'_eq_self

theorem getLsbD28_fBpr (a : Bool) (rcond : BitVec 3) (p : Bool) (rs1 : RegField) (disp16 : BitVec 16) :
    (fBpr a rcond p rs1 disp16).getLsbD 28 = false := by
  simp only [fBpr, BitVec.getLsbD_append]; simp

/-- The bit above a condition, and the condition below it. -/
theorem append_cond : ∀ (b : BitVec 1) (cond : BitVec 4),
    (b ++ cond : RegField).getLsbD 4 = b.getLsbD 0 ∧ (b ++ cond : RegField).extractLsb' 0 4 = cond := by
  decide

theorem append_fcc : ∀ fcc : FccSel,
    (0#3 ++ fcc : RegField).extractLsb' 2 3 = 0#3 ∧ (0#3 ++ fcc : RegField).extractLsb' 0 2 = fcc := by
  decide

/-! ## op = 00 and op = 01 -/

theorem decode_illtrap (bits : RegField) (const22 : BitVec 22) :
    decode (fSethi bits 0#3 const22) = .ok (.illtrap bits const22) := by
  simp [decode, decodeOp0]

theorem decode_bpcc (cond : BitVec 4) (a : Bool) (cc : IntCC) (p : Bool) (disp19 : BitVec 19) :
    decode (fBpcc a cond 1#3 cc.bits p disp19) = .ok (bpccOf cond a cc p disp19) := by
  simp [decode, decodeOp0, orIllegal]

theorem decode_bicc (cond : BitVec 4) (a : Bool) (disp22 : BitVec 22) :
    decode (fBicc a cond 2#3 disp22) = .ok (biccOf cond a disp22) := by
  simp [decode, decodeOp0]

theorem decode_bpr {rcond : BitVec 3} {k : Bool → Bool → RegField → BitVec 16 → Instr} (hk : bprOf rcond = some k)
    (a p : Bool) (rs1 : RegField) (disp16 : BitVec 16) :
    decode (fBpr a rcond p rs1 disp16) = .ok (k a p rs1 disp16) := by
  have h28 := getLsbD28_fBpr a rcond p rs1 disp16
  simp [decode, decodeOp0, orIllegal, hk, -BitVec.getLsbD_eq_getElem, h28]

theorem decode_sethi {rd : RegField} {imm22 : BitVec 22} (h : (Instr.sethi rd imm22).wellFormed = true) :
    decode (fSethi rd 4#3 imm22) = .ok (.sethi rd imm22) := by
  have hnop : ¬(rd = 0#5 ∧ imm22 = 0#22) := by simpa [Instr.wellFormed, or_iff_not_imp_left] using h
  simp [decode, decodeOp0, hnop]

theorem decode_nop : decode (fSethi 0#5 4#3 0#22) = .ok .nop := by
  simp [decode, decodeOp0]

theorem decode_fbpfcc (cond : BitVec 4) (a : Bool) (fcc : FccSel) (p : Bool) (disp19 : BitVec 19) :
    decode (fBpcc a cond 5#3 fcc p disp19) = .ok (fbpfccOf cond a fcc p disp19) := by
  simp [decode, decodeOp0]

theorem decode_fbfcc (cond : BitVec 4) (a : Bool) (disp22 : BitVec 22) :
    decode (fBicc a cond 6#3 disp22) = .ok (fbfccOf cond a disp22) := by
  simp [decode, decodeOp0]

theorem decode_call (disp30 : BitVec 30) : decode (f1 disp30) = .ok (.call disp30) := by
  simp [decode]

/-! ## op = 10 -/

section Op2

variable {rd rs1 rs2 : RegField}

theorem decode_alu {op3 : BitVec 6} {k : RegField → RegField → Op2 → Instr} (hk : aluOf op3 = some k) (o : Op2) :
    decode (f3 2#2 rd op3 rs1 (lowOp2 o)) = .ok (k rd rs1 o) := by
  simp [decode, decodeOp2, orIllegal, hk]

theorem decode_shift32 {op3 : BitVec 6} {k : RegField → RegField → Shift32 → Instr} (hk : shift32Op op3 = some k)
    (c : Shift32) : decode (f3 2#2 rd op3 rs1 (lowShift32 c)) = .ok (k rd rs1 c) := by
  have hx := getLsbD_lowShift32 c
  unfold shift32Op at hk
  split at hk <;> cases hk <;>
    simp [decode, decodeOp2, aluOf, orIllegal, shift32Op, -BitVec.getLsbD_eq_getElem, hx]

theorem decode_shift64 {op3 : BitVec 6} {k : RegField → RegField → Shift64 → Instr} (hk : shift64Op op3 = some k)
    (c : Shift64) : decode (f3 2#2 rd op3 rs1 (lowShift64 c)) = .ok (k rd rs1 c) := by
  have hx := getLsbD_lowShift64 c
  unfold shift64Op at hk
  split at hk <;> cases hk <;>
    simp [decode, decodeOp2, aluOf, orIllegal, shift64Op, -BitVec.getLsbD_eq_getElem, hx]

/-! ### RDasr, RDHPR, RDPR and FLUSHW -/

theorem decode_f3_rdasr (rd rs1 : RegField) (l : BitVec 14) :
    decode (f3 2#2 rd 0x28#6 rs1 l) = decodeRdasr rd rs1 l := by
  have halu : aluOf 0x28#6 = none := rfl
  simp [decode, decodeOp2, halu]

theorem decode_rdasr {k : RegField → Instr} (h15 : rs1 ≠ 15#5) (hk : rdasrOf rs1 = some k) :
    decode (f3 2#2 rd 0x28#6 rs1 0#14) = .ok (k rd) := by
  simp [decode_f3_rdasr, decodeRdasr, orIllegal, h15, hk]

theorem decode_membar (cmask : BitVec 3) (mmask : BitVec 4) :
    decode (f3 2#2 0#5 0x28#6 15#5 (1#1 ++ 0#6 ++ cmask ++ mmask)) = .ok (.membar cmask mmask) := by
  have hfields : ∀ (cmask : BitVec 3) (mmask : BitVec 4), let l := 1#1 ++ 0#6 ++ cmask ++ mmask
      lI l = true ∧ l.extractLsb' 7 6 = 0#6 ∧ l.extractLsb' 4 3 = cmask ∧ l.extractLsb' 0 4 = mmask := by
    decide
  obtain ⟨hi, hzero, hcmask, hmmask⟩ := hfields cmask mmask
  rw [decode_f3_rdasr, decodeRdasr, if_pos rfl, if_neg (by decide), if_pos hi, if_pos hzero, hcmask, hmmask]

theorem decode_stbar : decode (f3 2#2 0#5 0x28#6 15#5 0#14) = .ok .stbar := by
  rw [decode_f3_rdasr]
  rfl

theorem decode_rdhpr (rd : RegField) (r : HyperReg) : decode (f3 2#2 rd 0x29#6 r.number 0#14) = .ok (.rdhpr rd r) := by
  have halu : aluOf 0x29#6 = none := rfl
  simp [decode, decodeOp2, halu, orIllegal]

theorem decode_rdpr (rd : RegField) (r : PrivReg) : decode (f3 2#2 rd 0x2A#6 r.number 0#14) = .ok (.rdpr rd r) := by
  have halu : aluOf 0x2A#6 = none := rfl
  simp [decode, decodeOp2, halu, orIllegal]

theorem decode_flushw (i : Bool) : decode (f3 2#2 0#5 0x2B#6 0#5 (bit i ++ 0#13)) = .ok (.flushw i) := by
  have halu : aluOf 0x2B#6 = none := rfl
  have hfields : ∀ i : Bool, (bit i ++ 0#13).extractLsb' 0 13 = 0#13 ∧ lI (bit i ++ 0#13) = i := by decide
  simp [decode, decodeOp2, halu, hfields]

/-! ### MOVcc, MOVr, POPC -/

theorem decode_movcc (cond : BitVec 4) (rd : RegField) (cc : IntCC) (o : Op2x11) :
    decode (f3 2#2 rd 0x2C#6 (1#1 ++ cond) (lowCC11 cc.bits o)) = .ok (movccOf cond rd cc o) := by
  have halu : aluOf 0x2C#6 = none := rfl
  have hrs1 := append_cond 1#1 cond
  simp [decode, decodeOp2, halu, orIllegal, cc_lowCC11, hrs1, -BitVec.getLsbD_eq_getElem]

theorem decode_movfcc (cond : BitVec 4) (rd : RegField) (fcc : FccSel) (o : Op2x11) :
    decode (f3 2#2 rd 0x2C#6 (0#1 ++ cond) (lowCC11 fcc o)) = .ok (movfccOf cond rd fcc o) := by
  have halu : aluOf 0x2C#6 = none := rfl
  have hrs1 := append_cond 0#1 cond
  simp [decode, decodeOp2, halu, orIllegal, cc_lowCC11, hrs1, -BitVec.getLsbD_eq_getElem]

theorem decode_popc (rd : RegField) (o : Op2) : decode (f3 2#2 rd 0x2E#6 0#5 (lowOp2 o)) = .ok (.popc rd o) := by
  have halu : aluOf 0x2E#6 = none := rfl
  simp [decode, decodeOp2, halu, orIllegal]

theorem decode_movr {rcond : BitVec 3} {k : RegField → RegField → Op2x10 → Instr} (hk : movrOf rcond = some k)
    (o : Op2x10) : decode (f3 2#2 rd 0x2F#6 rs1 (lowRcond10 rcond o)) = .ok (k rd rs1 o) := by
  have halu : aluOf 0x2F#6 = none := rfl
  simp [decode, decodeOp2, halu, orIllegal, rcond_lowRcond10, hk]

/-! ### WRasr, SIR, WRPR, WRHPR, the window-state group -/

theorem decode_f3_wrasr (rd rs1 : RegField) (l : BitVec 14) :
    decode (f3 2#2 rd 0x30#6 rs1 l) = decodeWrasr rd rs1 l := by
  have halu : aluOf 0x30#6 = none := rfl
  simp [decode, decodeOp2, halu]

theorem decode_wrasr {k : RegField → Op2 → Instr} (h15 : rd ≠ 15#5) (hk : wrasrOf rd = some k) (o : Op2) :
    decode (f3 2#2 rd 0x30#6 rs1 (lowOp2 o)) = .ok (k rs1 o) := by
  simp [decode_f3_wrasr, decodeWrasr, orIllegal, h15, hk]

theorem decode_sir (simm13 : BitVec 13) : decode (f3 2#2 15#5 0x30#6 0#5 (1#1 ++ simm13)) = .ok (.sir simm13) := by
  have himm : (1#1 ++ simm13).extractLsb' 0 13 = simm13 := by
    rw [extractLsb'_append_eq_of_add_le (by decide)]
    exact extractLsb'_eq_self
  rw [decode_f3_wrasr, decodeWrasr, if_pos rfl, if_pos ⟨rfl, lI_lowAsi_imm simm13⟩, himm]

theorem decode_window (fcn : RegField) : decode (f3 2#2 fcn 0x31#6 0#5 0#14) = orIllegal (windowOf fcn) := by
  have halu : aluOf 0x31#6 = none := rfl
  simp [decode, decodeOp2, halu]

theorem decode_wrpr (r : PrivReg) (rs1 : RegField) (o : Op2) :
    decode (f3 2#2 r.number 0x32#6 rs1 (lowOp2 o)) = .ok (.wrpr r rs1 o) := by
  have halu : aluOf 0x32#6 = none := rfl
  simp [decode, decodeOp2, halu, orIllegal]

theorem decode_wrhpr {r : HyperReg} {rs1 : RegField} {o : Op2} (h : (Instr.wrhpr r rs1 o).wellFormed = true) :
    decode (f3 2#2 r.number 0x33#6 rs1 (lowOp2 o)) = .ok (.wrhpr r rs1 o) := by
  have halu : aluOf 0x33#6 = none := rfl
  have hver : r ≠ .hver := by simpa [Instr.wellFormed] using h
  simp [decode, decodeOp2, halu, orIllegal, hver]

/-! ### FPop1 -/

variable {opf : BitVec 9}

theorem decode_f3_fpop1 (rd rs1 : RegField) (l : BitVec 14) :
    decode (f3 2#2 rd 0x34#6 rs1 l) = decodeFpop1 rd rs1 l := by
  have halu : aluOf 0x34#6 = none := rfl
  simp [decode, decodeOp2, halu]

theorem decode_fp1b {k : RegField → RegField → RegField → Instr} (hk : fp1bOf opf = some k) :
    decode (fOpf rd 0x34#6 rs1 opf rs2) = .ok (k rd rs1 rs2) := by
  simp [fOpf, decode_f3_fpop1, decodeFpop1, hk]

theorem decode_fp1u {k : RegField → RegField → Instr} (hb : fp1bOf opf = none) (hk : fp1uOf opf = some k) :
    decode (fOpf rd 0x34#6 0#5 opf rs2) = .ok (k rd rs2) := by
  simp [fOpf, decode_f3_fpop1, decodeFpop1, hb, hk]

/-! ### FPop2 -/

theorem decode_f3_fpop2 (rd rs1 : RegField) (l : BitVec 14) :
    decode (f3 2#2 rd 0x35#6 rs1 l) = decodeFpop2 rd rs1 l := by
  have halu : aluOf 0x35#6 = none := rfl
  simp [decode, decodeOp2, halu]

/-- What FPop2 reads of opf before opf as a whole: opf_low of FMOVcc and of FMOVr, and bit 13. -/
theorem fpop2_selectors_append (opf : BitVec 9) (rs2 : RegField) :
    (opf ++ rs2).extractLsb' 5 6 = opf.extractLsb' 0 6 ∧ (opf ++ rs2).extractLsb' 5 5 = opf.extractLsb' 0 5 ∧
      lI (opf ++ rs2) = opf.getLsbD 8 := by
  refine ⟨extractLsb'_append_eq_of_le (by decide), extractLsb'_append_eq_of_le (by decide), ?_⟩
  simp only [lI, BitVec.getLsbD_append]
  rfl

theorem decode_fmovicc {k : RegField → BitVec 4 → RegField → Instr} (hk : fmoviccOf opf = some k) (cond : BitVec 4) :
    decode (fOpf rd 0x35#6 (0#1 ++ cond) opf rs2) = .ok (k rd cond rs2) := by
  obtain ⟨hlow6, -, hi⟩ := fpop2_selectors_append opf rs2
  have hrs1 := append_cond 0#1 cond
  rw [fOpf, decode_f3_fpop2]
  unfold fmoviccOf at hk
  split at hk <;> cases hk <;>
    simp [decodeFpop2, isFmovccLow, hlow6, hi, hrs1, fmoviccOf, -BitVec.getLsbD_eq_getElem]

theorem decode_fmovfcc {opfLow : BitVec 6} {k : RegField → FccSel → BitVec 4 → RegField → Instr}
    (hk : fmovfccOf opfLow = some k) (fcc : FccSel) (cond : BitVec 4) :
    decode (fOpf rd 0x35#6 (0#1 ++ cond) (0#1 ++ fcc ++ opfLow) rs2) = .ok (k rd fcc cond rs2) := by
  have hrs1 := append_cond 0#1 cond
  have hlow : (0#1 ++ fcc ++ opfLow ++ rs2).extractLsb' 5 6 = opfLow := by
    simp (disch := decide) only [extractLsb'_append_eq_of_le, extractLsb'_append_eq_of_add_le]
    exact extractLsb'_eq_self
  have hfcc : (0#1 ++ fcc ++ opfLow ++ rs2).extractLsb' 11 2 = fcc := by
    simp (disch := decide) only [extractLsb'_append_eq_of_le, extractLsb'_append_eq_of_add_le]
    exact extractLsb'_eq_self
  have hi : lI (0#1 ++ fcc ++ opfLow ++ rs2) = false := by
    simp only [lI, BitVec.getLsbD_append]
    rfl
  rw [fOpf, decode_f3_fpop2]
  unfold fmovfccOf at hk
  split at hk <;> cases hk <;>
    simp [decodeFpop2, isFmovccLow, hlow, hfcc, hi, hrs1, fmovfccOf, -BitVec.getLsbD_eq_getElem]

theorem decode_fmovr {k : RegField → RegField → RegField → Instr} (hk : fmovrOf opf = some k) :
    decode (fOpf rd 0x35#6 rs1 opf rs2) = .ok (k rd rs1 rs2) := by
  obtain ⟨hlow6, hlow5, hi⟩ := fpop2_selectors_append opf rs2
  rw [fOpf, decode_f3_fpop2]
  unfold fmovrOf at hk
  split at hk <;> cases hk <;> simp [decodeFpop2, isFmovccLow, isFmovrLow, hlow6, hlow5, hi, fmovrOf]

theorem decode_fcmp {k : FccSel → RegField → RegField → Instr} (hk : fcmpOf opf = some k) (fcc : FccSel) :
    decode (fOpf (0#3 ++ fcc) 0x35#6 rs1 opf rs2) = .ok (k fcc rs1 rs2) := by
  obtain ⟨hlow6, hlow5, hi⟩ := fpop2_selectors_append opf rs2
  have hrd := append_fcc fcc
  rw [fOpf, decode_f3_fpop2]
  unfold fcmpOf at hk
  split at hk <;> cases hk <;> simp [decodeFpop2, isFmovccLow, isFmovrLow, hlow6, hlow5, hrd, fcmpOf]

/-! ### IMPDEP1 and IMPDEP2 -/

theorem decode_f3_impdep1 (rd rs1 : RegField) (l : BitVec 14) :
    decode (f3 2#2 rd 0x36#6 rs1 l) = decodeVis rd rs1 l := by
  have halu : aluOf 0x36#6 = none := rfl
  simp [decode, decodeOp2, halu]

theorem decode_vis {k : RegField → RegField → RegField → Instr} (hk : visOf opf = some k) :
    decode (fOpf rd 0x36#6 rs1 opf rs2) = .ok (k rd rs1 rs2) := by
  simp [fOpf, decode_f3_impdep1, decodeVis, hk]

theorem decode_visRs1 {k : RegField → RegField → Instr} (hvis : visOf opf = none) (hk : visRs1Of opf = some k) :
    decode (fOpf rd 0x36#6 rs1 opf 0#5) = .ok (k rd rs1) := by
  simp [fOpf, decode_f3_impdep1, decodeVis, hvis, hk]

theorem decode_visRs2 {k : RegField → RegField → Instr} (hvis : visOf opf = none) (hrs1 : visRs1Of opf = none)
    (hk : visRs2Of opf = some k) : decode (fOpf rd 0x36#6 0#5 opf rs2) = .ok (k rd rs2) := by
  simp [fOpf, decode_f3_impdep1, decodeVis, hvis, hrs1, hk]

theorem decode_visRd {k : RegField → Instr} (hvis : visOf opf = none) (hrs1 : visRs1Of opf = none)
    (hrs2 : visRs2Of opf = none) (hk : visRdOf opf = some k) : decode (fOpf rd 0x36#6 0#5 opf 0#5) = .ok (k rd) := by
  simp [fOpf, decode_f3_impdep1, decodeVis, hvis, hrs1, hrs2, hk]

theorem decode_siam (mode : BitVec 3) : decode (fOpf 0#5 0x36#6 0#5 0x81#9 (0#2 ++ mode)) = .ok (.siam mode) := by
  rw [fOpf, decode_f3_impdep1]
  revert mode
  decide

theorem decode_f3_impdep2 (rd rs1 : RegField) (l : BitVec 14) :
    decode (f3 2#2 rd 0x37#6 rs1 l) = .ok (decodeImpdep2 rd rs1 l) := by
  have halu : aluOf 0x37#6 = none := rfl
  simp [decode, decodeOp2, halu]

theorem decode_impdep2 (rd : RegField) (bits18_7 : BitVec 12) (op4 : BitVec 2) (bits4_0 : BitVec 5) :
    decode (fImpdep2 rd bits18_7 op4 bits4_0) =
      .ok (if op4 = 0#2 then .impdep2a rd bits18_7 bits4_0 else .impdep2b rd bits18_7 op4 bits4_0) := by
  have hhigh (b : BitVec 7) : (b ++ op4 ++ bits4_0).extractLsb' 7 7 = b := by
    simp (disch := decide) only [extractLsb'_append_eq_of_le]
    exact extractLsb'_eq_self
  have hop4 (b : BitVec 7) : (b ++ op4 ++ bits4_0).extractLsb' 5 2 = op4 := by
    simp (disch := decide) only [extractLsb'_append_eq_of_le, extractLsb'_append_eq_of_add_le]
    exact extractLsb'_eq_self
  have hlow (b : BitVec 7) : lRs2 (b ++ op4 ++ bits4_0) = bits4_0 := by
    simp (disch := decide) only [lRs2, extractLsb'_append_eq_of_add_le]
    exact extractLsb'_eq_self
  have hbits : bits18_7.extractLsb' 7 5 ++ bits18_7.extractLsb' 0 7 = bits18_7 := append_parts2 5 7 bits18_7
  rw [fImpdep2, decode_f3_impdep2, decodeImpdep2, hop4, hhigh, hlow, hbits]

theorem decode_impdep2b {rd : RegField} {bits18_7 : BitVec 12} {op4 : BitVec 2} {bits4_0 : BitVec 5}
    (h : (Instr.impdep2b rd bits18_7 op4 bits4_0).wellFormed = true) :
    decode (fImpdep2 rd bits18_7 op4 bits4_0) = .ok (.impdep2b rd bits18_7 op4 bits4_0) := by
  have hop4 : op4 ≠ 0#2 := by simpa [Instr.wellFormed] using h
  rw [decode_impdep2, if_neg hop4]

/-! ### RETURN, Tcc, FLUSH, DONE and RETRY -/

theorem decode_return_ (rd rs1 : RegField) (o : Op2) :
    decode (f3 2#2 rd 0x39#6 rs1 (lowOp2 o)) = .ok (.return_ rd rs1 o) := by
  have halu : aluOf 0x39#6 = none := rfl
  simp [decode, decodeOp2, halu, orIllegal]

theorem decode_tcc (cond : BitVec 4) (cc : IntCC) (rs1 : RegField) (o : Op2x8) :
    decode (f3 2#2 (0#1 ++ cond) 0x3A#6 rs1 (lowTcc cc.bits o)) = .ok (tccOf cond cc rs1 o) := by
  have halu : aluOf 0x3A#6 = none := rfl
  have hrd := append_cond 0#1 cond
  simp [decode, decodeOp2, halu, orIllegal, cc_lowTcc, hrd, -BitVec.getLsbD_eq_getElem]

theorem decode_flush (rs1 : RegField) (o : AsiOp2) :
    decode (f3 2#2 0#5 0x3B#6 rs1 (lowAsi o)) = .ok (.flush rs1 o) := by
  have halu : aluOf 0x3B#6 = none := rfl
  simp [decode, decodeOp2, halu]

theorem decode_doneRetry (fcn : RegField) : decode (f3 2#2 fcn 0x3E#6 0#5 0#14) = orIllegal (doneRetryOf fcn) := by
  have halu : aluOf 0x3E#6 = none := rfl
  simp [decode, decodeOp2, halu]

end Op2

/-! ## op = 11 -/

section Op3

variable {rd rs1 rs2 : RegField}

theorem decode_mem {op3 : BitVec 6} {k : RegField → RegField → Op2 → Instr} {o : Op2} (hk : memOf op3 = some k)
    (hwf : (k rd rs1 o).wellFormed = true) : decode (f3 3#2 rd op3 rs1 (lowOp2 o)) = .ok (k rd rs1 o) := by
  have heven := (wellFormed_of_memOf hk o).1 hwf
  have hpass : ¬((op3 = 0x03#6 ∨ op3 = 0x07#6) ∧ isEven rd = false) := by simpa using heven
  simp [decode, decodeOp3, orIllegal, hk, if_neg hpass]

theorem decode_f3_alt {op3 : BitVec 6} {k : RegField → RegField → AsiOp2 → Instr} (hmem : memOf op3 = none)
    (hk : altOf op3 = some k) (l : BitVec 14) : decode (f3 3#2 rd op3 rs1 l) = decodeAlt op3 k rd rs1 l := by
  simp [decode, decodeOp3, hmem, hk]

theorem decode_alt {op3 : BitVec 6} {k : RegField → RegField → AsiOp2 → Instr} {o : AsiOp2} (hmem : memOf op3 = none)
    (hk : altOf op3 = some k) (hwf : (k rd rs1 o).wellFormed = true) :
    decode (f3 3#2 rd op3 rs1 (lowAsi o)) = .ok (k rd rs1 o) := by
  obtain ⟨heven, hnone⟩ := (wellFormed_of_altOf hk o).1 hwf
  have hpass : ¬((op3 = 0x13#6 ∨ op3 = 0x17#6) ∧ isEven rd = false) := by simpa using heven
  rw [decode_f3_alt hmem hk, decodeAlt, if_neg hpass, asiOp2Of_lowAsi]
  cases o with
  | reg asi rs2 =>
    have hnone : asiSelect op3 rd rs1 asi rs2 = none := hnone
    simp [lI_lowAsi_reg, lAsi_lowAsi_reg, lRs2_lowAsi_reg, hnone]
  | imm v => rw [if_pos (lI_lowAsi_imm v)]

theorem decode_asiSelect {op3 : BitVec 6} {k : RegField → RegField → AsiOp2 → Instr} {asi : BitVec 8} {i : Instr}
    (hmem : memOf op3 = none) (hk : altOf op3 = some k) (heven : op3 = 0x13#6 ∨ op3 = 0x17#6 → isEven rd = true)
    (hs : asiSelect op3 rd rs1 asi rs2 = some i) : decode (f3 3#2 rd op3 rs1 (lowAsi (.reg asi rs2))) = .ok i := by
  have hpass : ¬((op3 = 0x13#6 ∨ op3 = 0x17#6) ∧ isEven rd = false) := by simpa using heven
  rw [decode_f3_alt hmem hk, decodeAlt, if_neg hpass]
  simp [lI_lowAsi_reg, lAsi_lowAsi_reg, lRs2_lowAsi_reg, hs]

theorem decode_cas {op3 : BitVec 6} {k : RegField → RegField → CasAsi → RegField → Instr} (hmem : memOf op3 = none)
    (halt : altOf op3 = none) (hk : casOf op3 = some k) (a : CasAsi) :
    decode (f3 3#2 rd op3 rs1 (lowCas a rs2)) = .ok (k rd rs1 a rs2) := by
  simp [decode, decodeOp3, orIllegal, hmem, halt, hk]

theorem decode_fsrMem {op3 : BitVec 6} {k : RegField → Op2 → Instr} (hk : fsrMemOf op3 rd = some k) (o : Op2) :
    decode (f3 3#2 rd op3 rs1 (lowOp2 o)) = .ok (k rs1 o) := by
  unfold fsrMemOf at hk
  split at hk <;> cases hk <;> simp [decode, decodeOp3, orIllegal, memOf, altOf, casOf, fsrMemOf]

theorem decode_prefetch {fcn rs1 : RegField} {o : Op2} (h : (Instr.prefetch fcn rs1 o).wellFormed = true) :
    decode (f3 3#2 fcn 0x2D#6 rs1 (lowOp2 o)) = .ok (.prefetch fcn rs1 o) := by
  have hfcn : prefetchFcnOk fcn = true := h
  simp [decode, decodeOp3, orIllegal, memOf, altOf, casOf, hfcn]

theorem decode_prefetcha {fcn rs1 : RegField} {o : AsiOp2} (h : (Instr.prefetcha fcn rs1 o).wellFormed = true) :
    decode (f3 3#2 fcn 0x3D#6 rs1 (lowAsi o)) = .ok (.prefetcha fcn rs1 o) := by
  have hfcn : prefetchFcnOk fcn = true := h
  simp [decode, decodeOp3, memOf, altOf, casOf, hfcn]

/-! ### The instructions that an immediate ASI selects (30_encoding.md R343) -/

theorem not_isBlockAsi_of_isShortAsi : ∀ asi : BitVec 8, isShortAsi asi = true → isBlockAsi asi = false := by decide

theorem not_isBlockAsi_isShortAsi_of_isPartialAsi :
    ∀ asi : BitVec 8, isPartialAsi asi = true → isBlockAsi asi = false ∧ isShortAsi asi = false := by decide

variable {asi : BitVec 8}

theorem decode_ldtxa (h : (Instr.ldtxa rd rs1 asi rs2).wellFormed = true) :
    decode (f3 3#2 rd 0x13#6 rs1 (lowAsi (.reg asi rs2))) = .ok (.ldtxa rd rs1 asi rs2) := by
  obtain ⟨heven, htwin⟩ : isEven rd = true ∧ isTwinAsi asi = true := by simpa [Instr.wellFormed] using h
  exact decode_asiSelect rfl rfl (fun _ => heven) (by simp [asiSelect, htwin])

theorem decode_ldblockf (h : isBlockAsi asi = true) :
    decode (f3 3#2 rd 0x33#6 rs1 (lowAsi (.reg asi rs2))) = .ok (.ldblockf rd rs1 asi rs2) :=
  decode_asiSelect rfl rfl (by simp) (by simp [asiSelect, h])

theorem decode_ldshortf (h : isShortAsi asi = true) :
    decode (f3 3#2 rd 0x33#6 rs1 (lowAsi (.reg asi rs2))) = .ok (.ldshortf rd rs1 asi rs2) :=
  decode_asiSelect rfl rfl (by simp) (by simp [asiSelect, h, not_isBlockAsi_of_isShortAsi])

theorem decode_stblockf (h : isBlockAsi asi = true) :
    decode (f3 3#2 rd 0x37#6 rs1 (lowAsi (.reg asi rs2))) = .ok (.stblockf rd rs1 asi rs2) :=
  decode_asiSelect rfl rfl (by simp) (by simp [asiSelect, h])

theorem decode_stshortf (h : isShortAsi asi = true) :
    decode (f3 3#2 rd 0x37#6 rs1 (lowAsi (.reg asi rs2))) = .ok (.stshortf rd rs1 asi rs2) :=
  decode_asiSelect rfl rfl (by simp) (by simp [asiSelect, h, not_isBlockAsi_of_isShortAsi])

theorem decode_stpartialf (h : isPartialAsi asi = true) :
    decode (f3 3#2 rd 0x37#6 rs1 (lowAsi (.reg asi rs2))) = .ok (.stpartialf rd rs1 asi rs2) :=
  decode_asiSelect rfl rfl (by simp) (by simp [asiSelect, h, not_isBlockAsi_isShortAsi_of_isPartialAsi])

end Op3

/-! ## Every instruction -/

/-- By the format and the opcode map of each instruction; the checks of `wellFormed` are those the decoder makes. -/
theorem decode_encode {i : Instr} (h : i.wellFormed = true) : decode (encode i) = .ok i := by
  cases i with
  | illtrap => exact decode_illtrap ..
  | bpn | bpe | bple | bpl | bpleu | bpcs | bpneg | bpvs | bpa | bpne | bpg | bpge | bpgu | bpcc | bppos | bpvc =>
    exact decode_bpcc ..
  | bn | be | ble | bl | bleu | bcs | bneg | bvs | ba | bne | bg | bge | bgu | bcc | bpos | bvc =>
    exact decode_bicc ..
  | brz | brlez | brlz | brnz | brgz | brgez => exact decode_bpr rfl ..
  | sethi => exact decode_sethi h
  | nop => exact decode_nop
  | fbpn | fbpne | fbplg | fbpul | fbpl | fbpug | fbpg | fbpu | fbpa | fbpe | fbpue | fbpge | fbpuge | fbple
  | fbpule | fbpo => exact decode_fbpfcc ..
  | fbn | fbne | fblg | fbul | fbl | fbug | fbg | fbu | fba | fbe | fbue | fbge | fbuge | fble | fbule | fbo =>
    exact decode_fbfcc ..
  | call => exact decode_call ..
  | add | and | or | xor | sub | andn | orn | xnor | addc | mulx | umul | smul | subc | udivx | udiv | sdiv
  | addcc | andcc | orcc | xorcc | subcc | andncc | orncc | xnorcc | addccc | umulcc | smulcc | subccc | udivcc
  | sdivcc | taddcc | tsubcc | taddcctv | tsubcctv | mulscc | sdivx | jmpl | save | restore => exact decode_alu rfl _
  | sll | srl | sra => exact decode_shift32 rfl _
  | sllx | srlx | srax => exact decode_shift64 rfl _
  | rdy | rdccr | rdasi | rdtick | rdpc | rdfprs | rdpcr | rdpic | rdgsr | rdsoftint | rdtick_cmpr | rdstick
  | rdstick_cmpr => exact decode_rdasr (by decide) rfl
  | membar => exact decode_membar ..
  | stbar => exact decode_stbar
  | rdhpr => exact decode_rdhpr ..
  | rdpr => exact decode_rdpr ..
  | flushw => exact decode_flushw _
  | movn | move | movle | movl | movleu | movcs | movneg | movvs | mova | movne | movg | movge | movgu | movcc
  | movpos | movvc => exact decode_movcc ..
  | movfn | movfne | movflg | movful | movfl | movfug | movfg | movfu | movfa | movfe | movfue | movfge
  | movfuge | movfle | movfule | movfo => exact decode_movfcc ..
  | popc => exact decode_popc ..
  | movrz | movrlez | movrlz | movrnz | movrgz | movrgez => exact decode_movr rfl _
  | wry | wrccr | wrasi | wrfprs | wrpcr | wrpic | wrgsr | wrsoftint_set | wrsoftint_clr | wrsoftint
  | wrtick_cmpr | wrstick | wrstick_cmpr => exact decode_wrasr (by decide) rfl _
  | sir => exact decode_sir _
  | saved | restored | allclean | otherw | normalw | invalw => exact decode_window _
  | wrpr => exact decode_wrpr ..
  | wrhpr => exact decode_wrhpr h
  | fadds | faddd | faddq | fsubs | fsubd | fsubq | fmuls | fmuld | fmulq | fdivs | fdivd | fdivq | fsmuld
  | fdmulq => exact decode_fp1b rfl
  | fmovs | fmovd | fmovq | fnegs | fnegd | fnegq | fabss | fabsd | fabsq | fsqrts | fsqrtd | fsqrtq | fstox
  | fdtox | fqtox | fxtos | fxtod | fxtoq | fitos | fdtos | fqtos | fitod | fstod | fqtod | fitoq | fstoq
  | fdtoq | fstoi | fdtoi | fqtoi => exact decode_fp1u rfl rfl
  | fmovsicc | fmovdicc | fmovqicc | fmovsxcc | fmovdxcc | fmovqxcc => exact decode_fmovicc rfl _
  | fmovsfcc | fmovdfcc | fmovqfcc => exact decode_fmovfcc rfl ..
  | fmovrsz | fmovrdz | fmovrqz | fmovrslez | fmovrdlez | fmovrqlez | fmovrslz | fmovrdlz | fmovrqlz | fmovrsnz
  | fmovrdnz | fmovrqnz | fmovrsgz | fmovrdgz | fmovrqgz | fmovrsgez | fmovrdgez | fmovrqgez => exact decode_fmovr rfl
  | fcmps | fcmpd | fcmpq | fcmpes | fcmped | fcmpeq => exact decode_fcmp rfl _
  | edge8cc | edge8n | edge8lcc | edge8ln | edge16cc | edge16n | edge16lcc | edge16ln | edge32cc | edge32n
  | edge32lcc | edge32ln | array8 | array16 | array32 | alignaddress | bmask | alignaddress_little | fcmple16
  | fcmpne16 | fcmple32 | fcmpne32 | fcmpgt16 | fcmpeq16 | fcmpgt32 | fcmpeq32 | fmul8x16 | fmul8x16au
  | fmul8x16al | fmul8sux16 | fmul8ulx16 | fmuld8sux16 | fmuld8ulx16 | fpack32 | fpack16 | fpackfix | pdist
  | faligndata | fpmerge | bshuffle | fexpand | fpadd16 | fpadd16s | fpadd32 | fpadd32s | fpsub16 | fpsub16s
  | fpsub32 | fpsub32s | fnor | fnors | fandnot2 | fandnot2s | fandnot1 | fandnot1s | fxor | fxors | fnand
  | fnands | fand | fands | fxnor | fxnors | fornot2 | fornot2s | fornot1 | fornot1s | for_ | fors | shutdown =>
    exact decode_vis rfl
  | fnot1 | fnot1s | fsrc1 | fsrc1s => exact decode_visRs1 rfl rfl
  | fnot2 | fnot2s | fsrc2 | fsrc2s => exact decode_visRs2 rfl rfl rfl
  | fzero | fzeros | fone | fones => exact decode_visRd rfl rfl rfl rfl
  | siam => exact decode_siam _
  | impdep2a => exact decode_impdep2 ..
  | impdep2b => exact decode_impdep2b h
  | return_ => exact decode_return_ ..
  | tn | te | tle | tl | tleu | tcs | tneg | tvs | ta | tne | tg | tge | tgu | tcc | tpos | tvc => exact decode_tcc ..
  | flush => exact decode_flush ..
  | done | retry => exact decode_doneRetry _
  | lduw | ldub | lduh | ldtw | stw | stb | sth | sttw | ldsw | ldsb | ldsh | ldx | ldstub | stx | swap | ldf
  | ldqf | lddf | stf | stqf | stdf => exact decode_mem rfl h
  | lduwa | lduba | lduha | ldtwa | stwa | stba | stha | sttwa | ldswa | ldsba | ldsha | ldxa | ldstuba | stxa
  | swapa | ldfa | ldqfa | lddfa | stfa | stqfa | stdfa => exact decode_alt rfl rfl h
  | ldtxa => exact decode_ldtxa h
  | ldblockf => exact decode_ldblockf h
  | ldshortf => exact decode_ldshortf h
  | stblockf => exact decode_stblockf h
  | stshortf => exact decode_stshortf h
  | stpartialf => exact decode_stpartialf h
  | casa | casxa => exact decode_cas rfl rfl rfl _
  | ldfsr | ldxfsr | stfsr | stxfsr => exact decode_fsrMem rfl _
  | prefetch => exact decode_prefetch h
  | prefetcha => exact decode_prefetcha h

/-- Settles O1: every instruction is encoded by a format that the decoder reads back. -/
theorem decodeOfEncode : Obligations.DecodeOfEncode := fun _ h => decode_encode h

end Sys2Proof
end

section
/-!
PROOFS. A word that is no instruction (30_encoding.md R330): `UndecodableWordTraps`.
-/

namespace Sys2Proof.Machine

/-! ## FpCheck (45_fp.md R800) -/

variable {s : State} {mark : State → State} {k : Result}

theorem withFp_of_enabled (h : s.fpEnabled = true) : withFp s k = k := if_pos h

theorem withFp_of_disabled (h : s.fpEnabled = false) : withFp s k = .next (takeTrap .fpDisabled s) :=
  if_neg (Bool.not_eq_true _ ▸ h)

theorem withFpDest_of_enabled (h : s.fpEnabled = true) : withFpDest s mark k = k := if_pos h

theorem withFpDest_of_disabled (h : s.fpEnabled = false) :
    withFpDest s mark k = .next (takeTrap .fpDisabled (mark s)) :=
  if_neg (Bool.not_eq_true _ ▸ h)

/-! ## What an undecodable word does -/

/-- Counting changes neither memory nor the FPU, so the word and the check are those of the state before. -/
theorem step_of_decode_error {pa : Nat} {e : DecodeError} (hbefore : beforeFetch s.count = none)
    (hfetch : fetchAddress s.count = .word pa) (hdecode : decode (fetchWord s.mem pa) = .error e) :
    step s = undecodable s.count e := by
  have hcount : decode (fetchWord s.count.mem pa) = .error e := hdecode
  simp only [step, hbefore, runInstruction_eq, attemptInstruction, hfetch, hcount]

variable (s)

theorem undecodable_fpop_disabled (h : s.fpEnabled = false) :
    undecodable s .unimplementedFPop = .next (takeTrap .fpDisabled s) :=
  withFp_of_disabled h

theorem undecodable_fpop_enabled (h : s.fpEnabled = true) :
    undecodable s .unimplementedFPop =
      .next (takeTrap .fpExceptionOther { s with fsr := { s.fsr with ftt := 3#3 } }) :=
  withFp_of_enabled h

/-- The half of the F registers that holds the destination is marked: the upper one only for an odd double field. -/
theorem undecodable_fmove_disabled (double : Bool) (rd : RegField) (h : s.fpEnabled = false) :
    undecodable s (.unimplementedFMove double rd) =
      .next (takeTrap .fpDisabled
        { s with
          fprs :=
            if double = true ∧ rd.toNat % 2 = 1 then { s.fprs with du := true } else { s.fprs with dl := true } }) := by
  cases double with
  | false => exact withFpDest_of_disabled h
  | true =>
    rw [undecodable, withFpDest_of_disabled h, State.markDouble, getLsbD_zero_eq_odd]
    by_cases hodd : rd.toNat % 2 = 1 <;> simp [hodd, State.markLower]

theorem undecodable_fmove_enabled (double : Bool) (rd : RegField) (h : s.fpEnabled = true) :
    undecodable s (.unimplementedFMove double rd) =
      .next (takeTrap .fpExceptionOther { s with fsr := { s.fsr with ftt := 3#3 } }) := by
  cases double <;> rw [undecodable, withFpDest_of_enabled h, raise_eq]

/-- Settles O5: the step runs `undecodable`, by the kind of refusal and FpCheck. -/
theorem undecodableWordTraps : Obligations.UndecodableWordTraps := by
  intro s pa hbefore hfetch
  refine ⟨fun hd => ?_, fun hd => ?_, fun double rd hd => ?_⟩ <;> rw [step_of_decode_error hbefore hfetch hd]
  · rfl
  · exact ⟨undecodable_fpop_disabled s.count, undecodable_fpop_enabled s.count⟩
  · exact ⟨undecodable_fmove_disabled s.count double rd, undecodable_fmove_enabled s.count double rd⟩

end Sys2Proof.Machine
end

section
/-!
PROOFS. The condition codes that the model reads off sign bits (40_integer.md R400 to R402) are those of the exact results.
-/

namespace Sys2Proof.Machine

/-! ## Exact integers modulo a power of two -/

theorem ofInt_sub {w : Nat} (x y : Int) : BitVec.ofInt w (x - y) = BitVec.ofInt w x - BitVec.ofInt w y := by
  rw [Int.sub_eq_add_neg, BitVec.ofInt_add, BitVec.ofInt_neg, BitVec.sub_eq_add_neg]

theorem ofInt_carry {w : Nat} (hw : 0 < w) (c : Bool) :
    BitVec.ofInt w (c.toNat : Int) = (BitVec.ofBool c).setWidth w := by
  obtain ⟨n, rfl⟩ : ∃ n, w = n + 1 := ⟨w - 1, by omega⟩
  rw [BitVec.ofInt_natCast]
  cases c <;> simp

/-- A sum of words with a carry is the exact sum modulo 2^w. -/
theorem ofInt_sum {w : Nat} (hw : 0 < w) (a b : BitVec w) (c : Bool) :
    BitVec.ofInt w (a.toInt + b.toInt + c.toNat) = a + b + (BitVec.ofBool c).setWidth w := by
  rw [BitVec.ofInt_add, BitVec.ofInt_add, BitVec.ofInt_toInt, BitVec.ofInt_toInt, ofInt_carry hw]

/-- A difference of words with a borrow is the exact difference modulo 2^w. -/
theorem ofInt_difference {w : Nat} (hw : 0 < w) (a b : BitVec w) (c : Bool) :
    BitVec.ofInt w (a.toInt - b.toInt - c.toNat) = a - b - (BitVec.ofBool c).setWidth w := by
  rw [ofInt_sub, ofInt_sub, BitVec.ofInt_toInt, BitVec.ofInt_toInt, ofInt_carry hw]

theorem setWidth_sum {v w : Nat} (h : v ≤ w) (a b : BitVec w) (c : Bool) :
    (a + b + (BitVec.ofBool c).setWidth w).setWidth v =
      a.setWidth v + b.setWidth v + (BitVec.ofBool c).setWidth v := by
  rw [BitVec.setWidth_add _ _ h, BitVec.setWidth_add _ _ h, BitVec.setWidth_setWidth_of_le _ h]

theorem setWidth_difference {v w : Nat} (h : v ≤ w) (a b : BitVec w) (c : Bool) :
    (a - b - (BitVec.ofBool c).setWidth w).setWidth v =
      a.setWidth v - b.setWidth v - (BitVec.ofBool c).setWidth v := by
  simp only [BitVec.sub_eq_add_neg, BitVec.setWidth_add _ _ h, BitVec.setWidth_neg_of_le h,
    BitVec.setWidth_setWidth_of_le _ h]

/-! ## Signs and overflow -/

/-- The w-bit sign of a number of w + 1 bits: it differs from the number's own sign exactly when the number does not fit. -/
theorem toInt_ofInt_neg_iff {w : Nat} (hw : 0 < w) {x : Int} (hlo : -2 ^ w ≤ x) (hhi : x < 2 ^ w) :
    (BitVec.ofInt w x).toInt < 0 ↔ -2 ^ (w - 1) ≤ x ∧ x < 0 ∨ 2 ^ (w - 1) ≤ x := by
  obtain ⟨n, rfl⟩ : ∃ n, w = n + 1 := ⟨w - 1, by omega⟩
  have hpow : (2 : Int) ^ (n + 1) = 2 * 2 ^ n := by ring
  rw [BitVec.toInt_ofInt, Int.bmod_neg_iff (by push_cast; exact hlo) (by push_cast; exact hhi)]
  push_cast
  rw [hpow]
  omega

theorem toInt_bounds {w : Nat} (hw : 0 < w) (a : BitVec w) :
    -2 ^ (w - 1) ≤ a.toInt ∧ a.toInt < 2 ^ (w - 1) ∧ (2 : Int) ^ w = 2 * 2 ^ (w - 1) := by
  refine ⟨a.le_toInt, a.toInt_lt, ?_⟩
  obtain ⟨n, rfl⟩ : ∃ n, w = n + 1 := ⟨w - 1, by omega⟩
  rw [Nat.add_sub_cancel]
  ring

/-- Operands of one sign with a sum of the other: the exact sum does not fit (40_integer.md R400). -/
theorem overflow_sum {w : Nat} (hw : 0 < w) (a b : BitVec w) (c : Bool) :
    ((a.msb == b.msb) && ((BitVec.ofInt w (a.toInt + b.toInt + c.toNat)).msb != a.msb)) =
      decide (a.toInt + b.toInt + c.toNat < -(2 ^ (w - 1)) ∨ 2 ^ (w - 1) ≤ a.toInt + b.toInt + c.toNat) := by
  obtain ⟨halo, hahi, hpow⟩ := toInt_bounds hw a
  obtain ⟨hblo, hbhi, -⟩ := toInt_bounds hw b
  have hc : c.toNat ≤ 1 := Bool.toNat_le c
  have hsign := toInt_ofInt_neg_iff hw (x := a.toInt + b.toInt + c.toNat) (by omega) (by omega)
  rw [Bool.eq_iff_iff]
  simp only [BitVec.msb_eq_toInt, Bool.and_eq_true, beq_iff_eq, bne_iff_ne, ne_eq, decide_eq_decide, decide_eq_true_eq,
    hsign]
  omega

/-- Operands of different signs with a difference of the subtrahend's sign: the exact difference does not fit
(40_integer.md R401). -/
theorem overflow_difference {w : Nat} (hw : 0 < w) (a b : BitVec w) (c : Bool) :
    ((a.msb != b.msb) && ((BitVec.ofInt w (a.toInt - b.toInt - c.toNat)).msb != a.msb)) =
      decide (a.toInt - b.toInt - c.toNat < -(2 ^ (w - 1)) ∨ 2 ^ (w - 1) ≤ a.toInt - b.toInt - c.toNat) := by
  obtain ⟨halo, hahi, hpow⟩ := toInt_bounds hw a
  obtain ⟨hblo, hbhi, -⟩ := toInt_bounds hw b
  have hc : c.toNat ≤ 1 := Bool.toNat_le c
  have hsign := toInt_ofInt_neg_iff hw (x := a.toInt - b.toInt - c.toNat) (by omega) (by omega)
  rw [Bool.eq_iff_iff]
  simp only [BitVec.msb_eq_toInt, Bool.and_eq_true, bne_iff_ne, ne_eq, decide_eq_decide, decide_eq_true_eq,
    hsign]
  omega

/-! ## The condition codes -/

theorem beq_zero_eq_toInt {w : Nat} (r : BitVec w) : (r == 0#w) = decide (r.toInt = 0) := by
  rw [Bool.eq_iff_iff, beq_iff_eq, decide_eq_true_iff, ← BitVec.toInt_zero (w := w), BitVec.toInt_inj]

theorem addCodes_eq_exactCodes {w : Nat} (hw : 0 < w) {a b r : BitVec w} {c : Bool}
    (hr : r = a + b + (BitVec.ofBool c).setWidth w) :
    addCodes a b c r =
      exactCodes r (a.toInt + b.toInt + c.toNat) (decide (2 ^ w ≤ a.toNat + b.toNat + c.toNat)) := by
  rw [addCodes, exactCodes, hr, ← ofInt_sum hw, overflow_sum hw, BitVec.msb_eq_toInt, beq_zero_eq_toInt]

theorem subCodes_eq_exactCodes {w : Nat} (hw : 0 < w) {a b r : BitVec w} {c : Bool}
    (hr : r = a - b - (BitVec.ofBool c).setWidth w) :
    subCodes a b c r = exactCodes r (a.toInt - b.toInt - c.toNat) (decide (a.toNat < b.toNat + c.toNat)) := by
  rw [subCodes, exactCodes, hr, ← ofInt_difference hw, overflow_difference hw, BitVec.msb_eq_toInt, beq_zero_eq_toInt]

theorem addCC_eq_exactAddCC {a b r : Word} {c : Bool} (hr : r = a + b + (BitVec.ofBool c).setWidth 64) :
    addCC a b c r = exactAddCC a b c.toNat r := by
  rw [addCC, exactAddCC, addCodes_eq_exactCodes (by decide) hr,
    addCodes_eq_exactCodes (by decide) (hr ▸ setWidth_sum (by decide) a b c)]

theorem subCC_eq_exactSubCC {a b r : Word} {c : Bool} (hr : r = a - b - (BitVec.ofBool c).setWidth 64) :
    subCC a b c r = exactSubCC a b c.toNat r := by
  rw [subCC, exactSubCC, subCodes_eq_exactCodes (by decide) hr,
    subCodes_eq_exactCodes (by decide) (hr ▸ setWidth_difference (by decide) a b c)]

/-- The codes of a result whose exact value fits: v and c clear. -/
theorem exactCodes_zero {w : Nat} (r : BitVec w) : exactCodes r 0 false = nzvc r.msb (r == 0#w) false false := by
  have hpow : (0 : Int) < 2 ^ (w - 1) := by positivity
  rw [exactCodes, ← BitVec.msb_eq_toInt, ← beq_zero_eq_toInt, decide_eq_false (by omega)]

theorem logicCC_eq_exactLogicCC (r : Word) : logicCC r = exactLogicCC r := by
  rw [logicCC, exactLogicCC, exactCodes_zero, exactCodes_zero, BitVec.msb_setWidth]
  rfl

end Sys2Proof.Machine
end

section
/-!
PROOFS. Additions and subtractions against exact arithmetic (40_integer.md R405 to R408, R470 to R477):
`AdditionAndSubtraction`.
-/

namespace Sys2Proof.Machine

/-! ## Instructions that write back -/

section WriteBack

variable {r : Result} {u u' : State} {rd : RegField} {v w : Word}

/-- An instruction that writes back `v` in a state that advances to `u'` writes R[rd] there and nothing else. -/
theorem writes_of_writeBack (hr : r = writeBack u rd v) (hu : u.advance = u') (hv : v = w) :
    ∃ t, r = .next t ∧ WritesR u' t rd w := by
  subst hr hu hv
  exact writeBack_writes u rd v

theorem writes_of_writeBackCC {c c' : BitVec 8} (hr : r = writeBackCC u rd v c) (hv : v = w) (hc : c = c') :
    ∃ t, r = .next t ∧ WritesR { u.advance with ccr := c' } t rd w := by
  subst hr hv hc
  exact writeBackCC_writes u rd v c

end WriteBack

/-! ## Instructions that write back a sum or a difference with its codes -/

section Codes

variable {r : Result} {s : State} {rd : RegField} {a b w : Word} {c : Bool}

theorem writes_of_addBack (hr : r = addBack s rd a b c) (hw : BitVec.ofInt 64 (a.toInt + b.toInt + c.toNat) = w) :
    ∃ t, r = .next t ∧ WritesR { s.advance with ccr := exactAddCC a b c.toNat w } t rd w := by
  rw [ofInt_sum (by decide)] at hw
  exact writes_of_writeBackCC hr hw (hw ▸ addCC_eq_exactAddCC rfl)

theorem writes_of_subBack (hr : r = subBack s rd a b c) (hw : BitVec.ofInt 64 (a.toInt - b.toInt - c.toNat) = w) :
    ∃ t, r = .next t ∧ WritesR { s.advance with ccr := exactSubCC a b c.toNat w } t rd w := by
  rw [ofInt_difference (by decide)] at hw
  exact writes_of_writeBackCC hr hw (hw ▸ subCC_eq_exactSubCC rfl)

end Codes

/-! ## Tag overflow -/

theorem tag_ne_zero (a : Word) : (a.extractLsb' 0 2 != 0#2) = decide (a.toNat % 4 ≠ 0) := by
  rw [Bool.eq_iff_iff, bne_iff_ne, decide_eq_true_iff, ne_eq, ← BitVec.toNat_inj, BitVec.extractLsb'_toNat]
  rfl

theorem getLsbD_31_eq_msb (a : Word) : a.getLsbD 31 = (a.setWidth 32).msb := by
  rw [BitVec.msb_setWidth]
  rfl

/-- Two tags and an overflow flag, put together as the spec does (40_integer.md R474, R475). -/
theorem tagOverflows_eq (a b : Word) {overflow : Bool} {x : Int}
    (h : overflow = decide (x < -(2 ^ 31) ∨ 2 ^ 31 ≤ x)) :
    (a.extractLsb' 0 2 != 0#2 || b.extractLsb' 0 2 != 0#2 || overflow) = tagOverflows a b x := by
  simp only [h, tag_ne_zero, tagOverflows, Bool.decide_or, Bool.or_assoc]

theorem tagOverflowAdd_eq (a b : Word) :
    tagOverflowAdd a b (a + b) = tagOverflows a b ((a.setWidth 32).toInt + (b.setWidth 32).toInt) := by
  have hsum : (a + b).setWidth 32 =
      BitVec.ofInt 32 ((a.setWidth 32).toInt + (b.setWidth 32).toInt + (false.toNat : Nat)) := by
    rw [ofInt_sum (by decide), BitVec.setWidth_add _ _ (by decide)]
    simp
  rw [tagOverflowAdd, getLsbD_31_eq_msb, getLsbD_31_eq_msb, getLsbD_31_eq_msb, hsum, overflow_sum (by decide)]
  exact tagOverflows_eq a b (by simp)

theorem tagOverflowSub_eq (a b : Word) :
    tagOverflowSub a b (a - b) = tagOverflows a b ((a.setWidth 32).toInt - (b.setWidth 32).toInt) := by
  have hdiff : (a - b).setWidth 32 =
      BitVec.ofInt 32 ((a.setWidth 32).toInt - (b.setWidth 32).toInt - (false.toNat : Nat)) := by
    have h := setWidth_difference (v := 32) (by decide) a b false
    rw [ofInt_difference (by decide), ← h]
    simp
  rw [tagOverflowSub, getLsbD_31_eq_msb, getLsbD_31_eq_msb, getLsbD_31_eq_msb, hdiff,
    overflow_difference (by decide)]
  exact tagOverflows_eq a b (by simp)

/-- TADDccTV traps where TADDcc would set icc.v, and otherwise is TADDcc (40_integer.md R475). -/
theorem exec_taddcctv (s : State) (rd rs1 : RegField) (o : Op2) :
    exec (.taddcctv rd rs1 o) s =
      if tagOverflowAdd (s.readR rs1) (op2Value s o) (s.readR rs1 + op2Value s o) then .next (takeTrap .tagOverflow s)
      else exec (.taddcc rd rs1 o) s := by
  show execTaddcctv rd rs1 o s = if _ then _ else execTaddcc rd rs1 o s
  unfold execTaddcctv execTaddcc
  dsimp only
  split
  · rfl
  · simp [*]

/-- TSUBccTV traps where TSUBcc would set icc.v, and otherwise is TSUBcc (40_integer.md R477). -/
theorem exec_tsubcctv (s : State) (rd rs1 : RegField) (o : Op2) :
    exec (.tsubcctv rd rs1 o) s =
      if tagOverflowSub (s.readR rs1) (op2Value s o) (s.readR rs1 - op2Value s o) then .next (takeTrap .tagOverflow s)
      else exec (.tsubcc rd rs1 o) s := by
  show execTsubcctv rd rs1 o s = if _ then _ else execTsubcc rd rs1 o s
  unfold execTsubcctv execTsubcc
  dsimp only
  split
  · rfl
  · simp [*]

/-- Settles O24: a word operation is the exact one modulo 2^64, the codes read off the signs are the exact ones, and the
tagged forms add their tags to the 32-bit overflow. -/
theorem additionAndSubtraction : Obligations.AdditionAndSubtraction := by
  refine ⟨fun s rd rs1 o => ?_, fun s rd rs1 o => ?_⟩
  · intro a b c add addc sub subc
    have hadd : a + b = add := by simp [add, BitVec.ofInt_add]
    have haddc : a + b + s.carry = addc := (ofInt_sum (by decide) a b s.iccC).symm
    have hsub : a - b = sub := by simp [sub, ofInt_sub]
    have hsubc : a - b - s.carry = subc := (ofInt_difference (by decide) a b s.iccC).symm
    exact ⟨writes_of_writeBack rfl rfl hadd, writes_of_writeBack rfl rfl haddc, writes_of_writeBack rfl rfl hsub,
      writes_of_writeBack rfl rfl hsubc, writes_of_addBack (c := false) rfl (by simp [add]),
      writes_of_addBack (c := s.iccC) rfl rfl, writes_of_subBack (c := false) rfl (by simp [sub]),
      writes_of_subBack (c := s.iccC) rfl rfl⟩
  · intro a b vAdd vSub
    have hvAdd : tagOverflowAdd a b (a + b) = vAdd := tagOverflowAdd_eq a b
    have hvSub : tagOverflowSub a b (a - b) = vSub := tagOverflowSub_eq a b
    have haddCC : addCC a b false (a + b) = exactAddCC a b 0 (a + b) := addCC_eq_exactAddCC (by simp)
    have hsubCC : subCC a b false (a - b) = exactSubCC a b 0 (a - b) := subCC_eq_exactSubCC (by simp)
    refine ⟨writes_of_writeBackCC rfl rfl (congrArg₂ setIccV haddCC hvAdd),
      writes_of_writeBackCC rfl rfl (congrArg₂ setIccV hsubCC hvSub), fun h => ?_, fun h => ?_, fun h => ?_,
      fun h => ?_⟩
    · rw [exec_taddcctv, hvAdd, h]; rfl
    · rw [exec_taddcctv, hvAdd, h]; rfl
    · rw [exec_tsubcctv, hvSub, h]; rfl
    · rw [exec_tsubcctv, hvSub, h]; rfl

end Sys2Proof.Machine
end

section
/-!
PROOFS. The logical instructions bit by bit (40_integer.md R409 to R412, R432 to R435, R482 to R485): `LogicalOperations`;
the shifts by exact multiplication and division (R440 to R448): `Shifts`; SETHI and the hints (R431, R439, R615 to R622):
`SethiAndHints`.
-/

namespace Sys2Proof.Machine

/-! ## Logical operations -/

/-- `w` is the word whose bits are `f` of the bits of `x` and `y`. -/
def BitByBit (f : Bool → Bool → Bool) (x y w : Word) : Prop :=
  ∀ k, k < 64 → w.getLsbD k = f (x.getLsbD k) (y.getLsbD k)

theorem bitByBit_and (x y : Word) : BitByBit (fun x y => x && y) x y (x &&& y) := fun _ _ => BitVec.getLsbD_and

theorem bitByBit_or (x y : Word) : BitByBit (fun x y => x || y) x y (x ||| y) := fun _ _ => BitVec.getLsbD_or

theorem bitByBit_xor (x y : Word) : BitByBit (fun x y => x != y) x y (x ^^^ y) := fun _ _ => by
  rw [BitVec.getLsbD_xor]

theorem bitByBit_andn (x y : Word) : BitByBit (fun x y => x && !y) x y (x &&& ~~~y) := fun _ h => by
  simp [h]

theorem bitByBit_orn (x y : Word) : BitByBit (fun x y => x || !y) x y (x ||| ~~~y) := fun _ h => by
  simp [h]

theorem bitByBit_xnor (x y : Word) : BitByBit (fun x y => x == y) x y (~~~(x ^^^ y)) := fun k h => by
  rw [BitVec.getLsbD_not, BitVec.getLsbD_xor]
  cases x.getLsbD k <;> cases y.getLsbD k <;> simp [h]

/-- An instruction that writes back `op` of its operands, and its cc form, do what the spec says of `f` if `op` is `f`
bit by bit. -/
theorem logical_of_bitByBit {i icc : RegField → RegField → Op2 → Instr} {f : Bool → Bool → Bool}
    {op : Word → Word → Word} (hf : ∀ x y, BitByBit f x y (op x y))
    (hi : ∀ s rd rs1 o, exec (i rd rs1 o) s = writeBack s rd (op (s.readR rs1) (op2Value s o)))
    (hcc : ∀ s rd rs1 o, exec (icc rd rs1 o) s = logicBack s rd (op (s.readR rs1) (op2Value s o)))
    (s : State) (rd rs1 : RegField) (o : Op2) : ∃ r : Word,
      BitByBit f (s.readR rs1) (op2Value s o) r ∧
      (∃ t, exec (i rd rs1 o) s = .next t ∧ WritesR s.advance t rd r) ∧
      ∃ t, exec (icc rd rs1 o) s = .next t ∧ WritesR { s.advance with ccr := exactLogicCC r } t rd r :=
  ⟨_, hf _ _, writes_of_writeBack (hi s rd rs1 o) rfl rfl,
    writes_of_writeBackCC (hcc s rd rs1 o) rfl (logicCC_eq_exactLogicCC _)⟩

/-- Settles O25: each of the six operations is its bit function. -/
theorem logicalOperations : Obligations.LogicalOperations := by
  simp only [Obligations.LogicalOperations, List.forall_mem_cons]
  refine ⟨?_, ?_, ?_, ?_, ?_, ?_, nofun⟩
  · exact logical_of_bitByBit bitByBit_and (fun _ _ _ _ => rfl) fun _ _ _ _ => rfl
  · exact logical_of_bitByBit bitByBit_andn (fun _ _ _ _ => rfl) fun _ _ _ _ => rfl
  · exact logical_of_bitByBit bitByBit_or (fun _ _ _ _ => rfl) fun _ _ _ _ => rfl
  · exact logical_of_bitByBit bitByBit_orn (fun _ _ _ _ => rfl) fun _ _ _ _ => rfl
  · exact logical_of_bitByBit bitByBit_xor (fun _ _ _ _ => rfl) fun _ _ _ _ => rfl
  · exact logical_of_bitByBit bitByBit_xnor (fun _ _ _ _ => rfl) fun _ _ _ _ => rfl

/-! ## Shifts -/

/-- A count in a register is its low five bits (40_integer.md R448). -/
theorem shift32Count_reg (s : State) (rs2 : RegField) : shift32Count s (.reg rs2) = (s.readR rs2).toNat % 32 :=
  BitVec.extractLsb'_toNat 0 5 _

/-- A count in a register is its low six bits (40_integer.md R448). -/
theorem shift64Count_reg (s : State) (rs2 : RegField) : shift64Count s (.reg rs2) = (s.readR rs2).toNat % 64 :=
  BitVec.extractLsb'_toNat 0 6 _

theorem shiftLeft_eq_ofNat {w : Nat} (a : BitVec w) (n : Nat) : a <<< n = BitVec.ofNat w (a.toNat * 2 ^ n) := by
  apply BitVec.eq_of_toNat_eq
  rw [BitVec.toNat_shiftLeft, BitVec.toNat_ofNat, Nat.shiftLeft_eq]

theorem ushiftRight_eq_ofNat {w : Nat} (a : BitVec w) (n : Nat) : a >>> n = BitVec.ofNat w (a.toNat / 2 ^ n) := by
  apply BitVec.eq_of_toNat_eq
  have h : a.toNat / 2 ^ n < 2 ^ w := (Nat.div_le_self _ _).trans_lt a.isLt
  rw [BitVec.toNat_ushiftRight, BitVec.toNat_ofNat, Nat.shiftRight_eq_div_pow, Nat.mod_eq_of_lt h]

theorem sshiftRight_eq_ofInt {w : Nat} (a : BitVec w) (n : Nat) :
    a.sshiftRight n = BitVec.ofInt w (a.toInt / 2 ^ n) := by
  rw [BitVec.sshiftRight_eq, Int.shiftRight_eq_div_pow]
  norm_cast

/-- The low word shifted right, then extended with zeros. -/
theorem setWidth_ushiftRight_low32 (a : Word) (n : Nat) :
    (low32 a >>> n).setWidth 64 = BitVec.ofNat 64 (a.toNat % 2 ^ 32 / 2 ^ n) := by
  apply BitVec.eq_of_toNat_eq
  rw [BitVec.toNat_setWidth, BitVec.toNat_ushiftRight, BitVec.toNat_ofNat, Nat.shiftRight_eq_div_pow, low32,
    BitVec.toNat_setWidth]

/-- The low word shifted right arithmetically, then extended with its sign. -/
theorem signExtend_sshiftRight_low32 (a : Word) (n : Nat) :
    ((low32 a).sshiftRight n).signExtend 64 = BitVec.ofInt 64 ((a.setWidth 32).toInt / 2 ^ n) := by
  rw [BitVec.signExtend, BitVec.toInt_sshiftRight, Int.shiftRight_eq_div_pow, low32]
  norm_cast

/-- Settles O26: a shift multiplies or divides by the power of two of its count. -/
theorem shifts : Obligations.Shifts := by
  refine ⟨fun s rd rs1 o => ?_, fun s rd rs1 o => ?_⟩
  · intro n
    have hn : shift32Count s o = n := by
      cases o with
      | reg rs2 => exact shift32Count_reg s rs2
      | imm c => rfl
    exact ⟨writes_of_writeBack rfl rfl (hn ▸ shiftLeft_eq_ofNat _ _),
      writes_of_writeBack rfl rfl (hn ▸ setWidth_ushiftRight_low32 _ _),
      writes_of_writeBack rfl rfl (hn ▸ signExtend_sshiftRight_low32 _ _)⟩
  · intro n
    have hn : shift64Count s o = n := by
      cases o with
      | reg rs2 => exact shift64Count_reg s rs2
      | imm c => rfl
    exact ⟨writes_of_writeBack rfl rfl (hn ▸ shiftLeft_eq_ofNat _ _),
      writes_of_writeBack rfl rfl (hn ▸ ushiftRight_eq_ofNat _ _),
      writes_of_writeBack rfl rfl (hn ▸ sshiftRight_eq_ofInt _ _)⟩

/-! ## SETHI and hints -/

/-- imm22 above ten zeros is imm22 times 2^10 (40_integer.md R439). -/
theorem sethi_value (imm : BitVec 22) :
    (imm ++ 0#10 : BitVec 32).setWidth 64 = BitVec.ofNat 64 (imm.toNat * 1024) := by
  apply BitVec.eq_of_toNat_eq
  rw [BitVec.toNat_setWidth, BitVec.toNat_append, BitVec.toNat_ofNat, Nat.shiftLeft_eq]
  simp

theorem prefetchHint_of_ok {s : State} {fcn : BitVec 5} (h : fcn.toNat ≤ 4 ∨ 16 ≤ fcn.toNat) :
    prefetchHint s fcn = .next s.advance :=
  if_pos (decide_eq_true (by omega))

/-- Settles O29: the hints complete, SETHI writes its immediate back, and a kind of PREFETCH that is not reserved passes
its check. -/
theorem sethiAndHints : Obligations.SethiAndHints := fun _ =>
  ⟨fun _ imm => writes_of_writeBack rfl rfl (sethi_value imm), rfl, rfl, fun _ _ => rfl, fun _ _ => rfl,
    fun _ _ h => ⟨fun _ => prefetchHint_of_ok h, fun _ => prefetchHint_of_ok h⟩⟩

end Sys2Proof.Machine
end

section
/-!
PROOFS. The multiplies by exact products, and the multiply step (40_integer.md R427, R428, R446, R447, R480, R481):
`Multiplication`. The divides by exact quotients toward zero (R429, R430, R437, R438, R478, R479): `Division`.
-/

namespace Sys2Proof.Machine

/-! ## Products -/

theorem mul_eq_ofInt {w : Nat} (a b : BitVec w) : a * b = BitVec.ofInt w (a.toInt * b.toInt) := by
  rw [BitVec.ofInt_mul, BitVec.ofInt_toInt, BitVec.ofInt_toInt]

theorem signedProduct_low32 (a b : Word) :
    signedProduct (low32 a) (low32 b) = BitVec.ofInt 64 ((a.setWidth 32).toInt * (b.setWidth 32).toInt) :=
  (BitVec.ofInt_mul _ _).symm

theorem unsignedProduct_low32 (a b : Word) :
    unsignedProduct (low32 a) (low32 b) = BitVec.ofNat 64 (a.toNat % 2 ^ 32 * (b.toNat % 2 ^ 32)) := by
  apply BitVec.eq_of_toNat_eq
  simp only [unsignedProduct, low32, BitVec.toNat_mul, BitVec.toNat_setWidth, BitVec.toNat_ofNat, ← Nat.mul_mod]

theorem high32_eq_ofNat (p : Word) : high32 p = BitVec.ofNat 32 (p.toNat / 2 ^ 32) := by
  apply BitVec.eq_of_toNat_eq
  rw [high32, BitVec.extractLsb'_toNat, Nat.shiftRight_eq_div_pow, BitVec.toNat_ofNat]

/-- An instruction that writes back a product and its high word in Y. -/
theorem writes_of_multiply {r : Result} {s : State} {rd : RegField} {p w : Word}
    (hr : r = writeBack (s.setY (high32 p)) rd p) (hp : p = w) :
    ∃ t, r = .next t ∧ WritesR { s.advance with y := BitVec.ofNat 32 (w.toNat / 2 ^ 32) } t rd w := by
  subst hp
  exact high32_eq_ofNat p ▸ writes_of_writeBack hr rfl rfl

/-- The same with the condition codes of the product. -/
theorem writes_of_multiplyCC {r : Result} {s : State} {rd : RegField} {p w : Word}
    (hr : r = logicBack (s.setY (high32 p)) rd p) (hp : p = w) :
    ∃ t, r = .next t ∧
      WritesR { s.advance with y := BitVec.ofNat 32 (w.toNat / 2 ^ 32), ccr := exactLogicCC w } t rd w := by
  subst hp
  exact high32_eq_ofNat p ▸ writes_of_writeBackCC hr rfl (logicCC_eq_exactLogicCC p)

/-! ## The multiply step -/

/-- A word shifted right by one with a bit put in at the top. -/
theorem bit_append_eq_ofNat (b : Bool) (x : BitVec 31) :
    (BitVec.ofBool b ++ x : HWord) = BitVec.ofNat 32 (b.toNat * 2 ^ 31 + x.toNat) := by
  apply BitVec.eq_of_toNat_eq
  have hx : x.toNat < 2 ^ 31 := x.isLt
  have hb : b.toNat ≤ 1 := Bool.toNat_le b
  rw [BitVec.toNat_append, BitVec.toNat_ofBool, ← Nat.shiftLeft_add_eq_or_of_lt hx, Nat.shiftLeft_eq, BitVec.toNat_ofNat,
    Nat.mod_eq_of_lt (by omega)]

theorem getLsbD_zero_eq_decide {w : Nat} (x : BitVec w) : x.getLsbD 0 = decide (x.toNat % 2 = 1) := by
  rw [BitVec.getLsbD, Nat.testBit_zero]

theorem multiplicand_shifted (s : State) (a : Word) :
    (BitVec.ofBool (s.ccr.getLsbD 3 ^^ s.ccr.getLsbD 1) ++ a.extractLsb' 1 31 : HWord) =
      BitVec.ofNat 32
        ((if s.ccr.getLsbD 3 = s.ccr.getLsbD 1 then 0 else 2 ^ 31) + a.toNat % 2 ^ 32 / 2) := by
  have hbit : (s.ccr.getLsbD 3 ^^ s.ccr.getLsbD 1).toNat * 2 ^ 31 =
      if s.ccr.getLsbD 3 = s.ccr.getLsbD 1 then 0 else 2 ^ 31 := by
    cases s.ccr.getLsbD 3 <;> cases s.ccr.getLsbD 1 <;> rfl
  have hlow : (a.extractLsb' 1 31).toNat = a.toNat % 2 ^ 32 / 2 := by
    rw [BitVec.extractLsb'_toNat, Nat.shiftRight_eq_div_pow]
    omega
  rw [bit_append_eq_ofNat, hbit, hlow]

theorem multiplier_shifted (a : Word) (y : BitVec 32) :
    (a.extractLsb' 0 1 ++ y.extractLsb' 1 31 : BitVec 32) =
      BitVec.ofNat 32 (a.toNat % 2 * 2 ^ 31 + y.toNat / 2) := by
  have hbit : a.extractLsb' 0 1 = BitVec.ofBool (a.getLsbD 0) := by
    rw [← bit_getLsbD]
    rfl
  have hy : (y.extractLsb' 1 31).toNat = y.toNat / 2 := by
    rw [BitVec.extractLsb'_toNat, Nat.shiftRight_eq_div_pow]
    omega
  have ha : (a.getLsbD 0).toNat = a.toNat % 2 := by
    rw [getLsbD_zero_eq_decide]
    rcases Nat.mod_two_eq_zero_or_one a.toNat with h | h <;> simp [h]
  rw [hbit, bit_append_eq_ofNat, ha, hy]

theorem addCodes_no_carry {w : Nat} (hw : 0 < w) (a b : BitVec w) :
    addCodes a b false (a + b) = exactCodes (a + b) (a.toInt + b.toInt) (decide (2 ^ w ≤ a.toNat + b.toNat)) := by
  rw [addCodes_eq_exactCodes hw (by simp)]
  simp

/-- The codes of the step: xcc is the free value (40_integer.md R427). -/
theorem mulsccCC_eq (sh add : HWord) (free : BitVec 4) :
    mulsccCC sh add free =
      free ++ exactCodes (sh + add) (sh.toInt + add.toInt) (decide (2 ^ 32 ≤ sh.toNat + add.toNat)) := by
  rw [mulsccCC, addCodes_no_carry (by decide)]

/-- The step adds the second operand, or nothing, to the shifted word (40_integer.md R427). -/
theorem exec_mulscc (s : State) (rd rs1 : RegField) (o : Op2) :
    let sh : HWord := BitVec.ofBool (s.ccr.getLsbD 3 ^^ s.ccr.getLsbD 1) ++ (s.readR rs1).extractLsb' 1 31
    let add : HWord := if s.y.getLsbD 0 then low32 (op2Value s o) else 0#32
    exec (.mulscc rd rs1 o) s =
      writeBackCC (s.drawn.setY ((s.readR rs1).extractLsb' 0 1 ++ s.y.extractLsb' 1 31)) rd
        (s.freeWord.extractLsb' 32 32 ++ (sh + add)) (mulsccCC sh add (s.freeWord.extractLsb' 0 4)) :=
  rfl

/-- An instruction that writes back with a new Y after a free value was drawn. Y is a variable here, so that comparing the two
forms of the state evaluates no arithmetic. -/
theorem writes_of_multiplyStep {r : Result} {s : State} {rd : RegField} {v : Word} {y : BitVec 32} {c c' : BitVec 8}
    (hr : r = writeBackCC (s.drawn.setY y) rd v c) (hc : c = c') :
    ∃ t, r = .next t ∧
      WritesR { s.advance with ccr := c', y := y, freeCount := s.freeCount + 1 } t rd v :=
  writes_of_writeBackCC hr rfl hc

/-- Settles O27: a word product is the exact one modulo 2^64, and one step adds the multiplicand to the shifted word. -/
theorem multiplication : Obligations.Multiplication := by
  intro s rd rs1 o a b u p
  have hu : unsignedProduct (low32 a) (low32 b) = u := unsignedProduct_low32 a b
  have hp : signedProduct (low32 a) (low32 b) = p := signedProduct_low32 a b
  refine ⟨writes_of_writeBack rfl rfl (mul_eq_ofInt a b), writes_of_multiply rfl hu, writes_of_multiply rfl hp,
    writes_of_multiplyCC rfl hu, writes_of_multiplyCC rfl hp, ?_⟩
  intro sh add
  have hsh : (BitVec.ofBool (s.ccr.getLsbD 3 ^^ s.ccr.getLsbD 1) ++ a.extractLsb' 1 31 : HWord) = sh :=
    multiplicand_shifted s a
  have hadd : (if s.y.getLsbD 0 then low32 b else 0#32) = add :=
    if_congr (by rw [getLsbD_zero_eq_decide, decide_eq_true_iff]) rfl rfl
  have hx := exec_mulscc s rd rs1 o
  rw [hsh, hadd, multiplier_shifted] at hx
  obtain ⟨t, ht, hw⟩ := writes_of_multiplyStep hx (mulsccCC_eq sh add _)
  exact ⟨t, _, _, ht, hw⟩

/-! ## Quotients -/

theorem divisor_eq_zero_iff (b : Word) : low32 b = 0#32 ↔ b.toNat % 2 ^ 32 = 0 := by
  rw [← BitVec.toNat_inj, low32, BitVec.toNat_setWidth]
  rfl

theorem dividend_toNat (y : BitVec 32) (a : Word) :
    (y ++ low32 a).toNat = y.toNat * 2 ^ 32 + a.toNat % 2 ^ 32 := by
  rw [BitVec.toNat_append, ← Nat.shiftLeft_add_eq_or_of_lt (low32 a).isLt, Nat.shiftLeft_eq, low32,
    BitVec.toNat_setWidth]

theorem dividend_toInt (y : BitVec 32) (a : Word) :
    (y ++ low32 a).toInt = y.toInt * 2 ^ 32 + (a.toNat % 2 ^ 32 : Nat) := by
  rw [BitVec.toInt_append, if_neg (by decide), Int.mul_comm, low32, BitVec.toNat_setWidth]

/-- The unsigned quotient, saturated, and whether it was (40_integer.md R478). -/
theorem unsignedQuotient_eq (y : BitVec 32) (a b : Word) :
    let q := (y.toNat * 2 ^ 32 + a.toNat % 2 ^ 32) / (b.toNat % 2 ^ 32)
    unsignedQuotient y (low32 a) (low32 b) = (BitVec.ofNat 64 (min q (2 ^ 32 - 1)), decide (2 ^ 32 ≤ q)) := by
  intro q
  have hq : (y ++ low32 a).toNat / (low32 b).toNat = q := by
    rw [dividend_toNat, low32, BitVec.toNat_setWidth]
  rw [unsignedQuotient, hq]
  by_cases h : 2 ^ 32 ≤ q
  · have hmin : min q (2 ^ 32 - 1) = 2 ^ 32 - 1 := by omega
    simp only [h, hmin, if_true, decide_true]
    rfl
  · have hmin : min q (2 ^ 32 - 1) = q := by omega
    simp only [h, hmin, if_false, decide_false]

/-- The signed quotient, rounded toward zero and saturated, and whether it was (40_integer.md R437). -/
theorem signedQuotient_eq (y : BitVec 32) (a b : Word) :
    let q := (y.toInt * 2 ^ 32 + (a.toNat % 2 ^ 32 : Nat)).tdiv (b.setWidth 32).toInt
    signedQuotient y (low32 a) (low32 b) =
      (BitVec.ofInt 64 (max (-(2 ^ 31)) (min q (2 ^ 31 - 1))), decide (2 ^ 31 ≤ q ∨ q < -(2 ^ 31))) := by
  intro q
  have hq : (y ++ low32 a).toInt.tdiv (low32 b).toInt = q := by rw [dividend_toInt, low32]
  rw [signedQuotient, hq]
  by_cases hhi : 2 ^ 31 ≤ q
  · have hsat : max (-(2 ^ 31)) (min q (2 ^ 31 - 1)) = 2 ^ 31 - 1 := by omega
    simp only [hhi, hsat, if_true, true_or, decide_true]
    rfl
  · by_cases hlo : q < -(2 ^ 31)
    · have hsat : max (-(2 ^ 31)) (min q (2 ^ 31 - 1)) = -(2 ^ 31) := by omega
      simp only [hhi, Int.le_sub_one_of_lt hlo, hlo, hsat, if_true, if_false, or_true, decide_true]
      rfl
    · have hsat : max (-(2 ^ 31)) (min q (2 ^ 31 - 1)) = q := by omega
      have hlo' : ¬q ≤ -(2 ^ 31) - 1 := by omega
      simp only [hhi, hlo', hlo, hsat, if_false, or_false, decide_false]

/-! ## The divides -/

section Divides

variable {r : Result} {s : State} {rd : RegField} {b : Word} {q : Word × Bool}

theorem divBack_of_zero (h : low32 b = 0#32) : divBack s rd (low32 b) q = .next (takeTrap .divisionByZero s) := if_pos h

theorem divBackCC_of_zero (h : low32 b = 0#32) : divBackCC s rd (low32 b) q = .next (takeTrap .divisionByZero s) :=
  if_pos h

/-- A divide by a word other than 0 leaves some value in Y. -/
theorem writes_of_divBack (hr : r = divBack s rd (low32 b) q) (hb : low32 b ≠ 0#32) {w : Word} {v : Bool}
    (hq : q = (w, v)) :
    ∃ t, r = .next t ∧ WritesR { s.advance with y := t.y, freeCount := s.freeCount + 1 } t rd w := by
  rw [divBack, if_neg hb, hq] at hr
  obtain ⟨t, ht, hw⟩ := writes_of_writeBack hr rfl rfl
  have hy : t.y = s.undefinedY.y := by rw [hw.rest]; rfl
  exact ⟨t, ht, hy ▸ hw⟩

theorem writes_of_divBackCC (hr : r = divBackCC s rd (low32 b) q) (hb : low32 b ≠ 0#32) {w : Word} {v : Bool}
    (hq : q = (w, v)) :
    ∃ t, r = .next t ∧
      WritesR { s.advance with y := t.y, freeCount := s.freeCount + 1, ccr := setIccV (exactLogicCC w) v } t rd w := by
  rw [divBackCC, if_neg hb, hq] at hr
  obtain ⟨t, ht, hw⟩ := writes_of_writeBackCC hr rfl (congrArg (setIccV · v) (logicCC_eq_exactLogicCC w))
  have hy : t.y = s.undefinedY.y := by rw [hw.rest]; rfl
  exact ⟨t, ht, hy ▸ hw⟩

end Divides

/-- Settles O28: a quotient of the exact dividend, saturated to 32 bits for the divides of Y :: R[rs1], or the trap. -/
theorem division : Obligations.Division := by
  intro s rd rs1 o a b uq sq u q
  have hu := unsignedQuotient_eq s.y a b
  have hq := signedQuotient_eq s.y a b
  refine ⟨fun hb => ⟨writes_of_writeBack (if_neg hb) rfl rfl, writes_of_writeBack (if_neg hb) rfl rfl⟩, fun hb => ?_,
    fun hb => ⟨if_pos hb, if_pos hb⟩, fun hb => ?_⟩
  · have hb' := mt (divisor_eq_zero_iff b).1 hb
    exact ⟨writes_of_divBack rfl hb' hu, writes_of_divBack rfl hb' hq, writes_of_divBackCC rfl hb' hu,
      writes_of_divBackCC rfl hb' hq⟩
  · have hb' := (divisor_eq_zero_iff b).2 hb
    exact ⟨divBack_of_zero hb', divBack_of_zero hb', divBackCC_of_zero hb', divBackCC_of_zero hb'⟩

end Sys2Proof.Machine
end

section
/-!
PROOFS. The model's tests of the integer, floating-point and register conditions against the rows of 41_control.md R501 to
R503, and the moves that make them (40_integer.md R413 to R426): `ConditionalMoves`.
-/

namespace Sys2Proof.Machine

/-! ## Integer conditions -/

theorem iccTest_of_row : ∀ row ∈ integerConditions, ∀ cc : BitVec 4,
    iccTest row.cond cc = row.test (cc.getLsbD 3) (cc.getLsbD 2) (cc.getLsbD 1) (cc.getLsbD 0) := by
  simp only [integerConditions, List.forall_mem_cons, List.not_mem_nil, false_implies, implies_true, and_true]
  and_intros <;> decide

theorem IccRow.holds_eq_iccTest {row : IccRow} (h : row ∈ integerConditions) (s : State) (cc : IntCC) :
    row.holds s cc = iccTest row.cond (intCC s cc) := by
  rw [iccTest_of_row row h]
  cases cc <;> simp [IccRow.holds, intCC]

theorem exec_move_of_iccRow : ∀ row ∈ integerConditions, ∀ (rd : RegField) (cc : IntCC) (o : Op2x11) (s : State),
    exec (row.move rd cc o) s = moveIf s (iccTest row.cond (intCC s cc)) rd (op2Value s o) := by
  simp only [integerConditions, List.forall_mem_cons, List.not_mem_nil, false_implies, implies_true, and_true]
  and_intros <;> exact fun _ _ _ _ => rfl

/-! ## Floating-point conditions -/

theorem fccTest_of_row : ∀ row ∈ fpConditions, ∀ v : BitVec 2, fccTest row.cond v = decide (v ∈ row.accepts) := by
  simp only [fpConditions, List.forall_mem_cons, List.not_mem_nil, false_implies, implies_true, and_true]
  and_intros <;> decide

theorem fccOf_eq_fccValue (s : State) (n : FccSel) : fccOf s n = fccValue s n := by
  have hn : ∀ n : BitVec 2, n = 0#2 ∨ n = 1#2 ∨ n = 2#2 ∨ n = 3#2 := by decide
  obtain rfl | rfl | rfl | rfl := hn n <;> rfl

theorem exec_move_of_fccRow : ∀ row ∈ fpConditions, ∀ (rd : RegField) (n : FccSel) (o : Op2x11) (s : State),
    exec (row.move rd n o) s = withFp s (moveIf s (fccTest row.cond (fccOf s n)) rd (op2Value s o)) := by
  simp only [fpConditions, List.forall_mem_cons, List.not_mem_nil, false_implies, implies_true, and_true]
  and_intros <;> exact fun _ _ _ _ => rfl

/-! ## Register conditions -/

section RegTest

variable (v : Word)

theorem sign_eq_toInt_neg : v.getLsbD 63 = decide (v.toInt < 0) := by
  rw [← BitVec.msb_eq_toInt, BitVec.msb_eq_getLsbD_last]

theorem eq_zero_iff_toInt : v = 0#64 ↔ v.toInt = 0 := by rw [← BitVec.toInt_inj, BitVec.toInt_zero]

theorem regTest_z : regTest 0b001#3 v = decide (v.toInt = 0) := decide_eq_decide.2 (eq_zero_iff_toInt v)

theorem regTest_lez : regTest 0b010#3 v = decide (v.toInt ≤ 0) := by
  simp only [regTest, sign_eq_toInt_neg, eq_zero_iff_toInt, ← Bool.decide_or, Int.le_iff_lt_or_eq]

theorem regTest_lz : regTest 0b011#3 v = decide (v.toInt < 0) := sign_eq_toInt_neg v

theorem regTest_nz : regTest 0b101#3 v = decide (v.toInt ≠ 0) := by
  simp only [regTest, eq_zero_iff_toInt, ne_eq, decide_not]

theorem regTest_gz : regTest 0b110#3 v = decide (0 < v.toInt) := by
  simp only [regTest, sign_eq_toInt_neg, eq_zero_iff_toInt, ← Bool.decide_or, ← decide_not, decide_eq_decide]
  omega

theorem regTest_gez : regTest 0b111#3 v = decide (0 ≤ v.toInt) := by
  simp only [regTest, sign_eq_toInt_neg, ← decide_not, Int.not_lt]

end RegTest

theorem exec_move_of_regRow : ∀ row ∈ registerConditions, ∀ (rd rs1 : RegField) (o : Op2x10) (s : State),
    exec (row.move rd rs1 o) s = moveIf s (row.test (s.readR rs1).toInt) rd (op2Value s o) := by
  simp only [registerConditions, List.forall_mem_cons, List.not_mem_nil, false_implies, implies_true, and_true,
    ← regTest_z, ← regTest_lez, ← regTest_lz, ← regTest_nz, ← regTest_gz, ← regTest_gez]
  and_intros <;> exact fun _ _ _ _ => rfl

/-! ## The moves -/

/-- A move happens if its condition holds, and otherwise the instruction only advances (40_integer.md R413, R420). -/
theorem moves_of_moveIf {r : Result} {s : State} {b : Bool} {rd : RegField} {v : Word} (hr : r = moveIf s b rd v) :
    (b = true → ∃ t, r = .next t ∧ WritesR s.advance t rd v) ∧ (b = false → r = .next s.advance) := by
  subst hr
  exact ⟨fun hb => hb ▸ writeBack_writes s rd v, fun hb => hb ▸ rfl⟩

/-- Settles O30: each instruction tests the condition of its row, a floating-point one after FpCheck. -/
theorem conditionalMoves : Obligations.ConditionalMoves := by
  intro s
  refine ⟨fun row hrow rd cc o => ?_, fun row hrow rd n o => ?_, fun row hrow rd rs1 o => ?_⟩
  · rw [row.holds_eq_iccTest hrow]
    exact moves_of_moveIf (exec_move_of_iccRow row hrow rd cc o s)
  · have htest : fccTest row.cond (fccOf s n) = decide (fccValue s n ∈ row.accepts) := by
      rw [fccTest_of_row row hrow, fccOf_eq_fccValue]
    have hx := exec_move_of_fccRow row hrow rd n o s
    rw [htest] at hx
    refine ⟨fun hfp hmem => ?_, fun hfp hmem => ?_, fun hfp => ?_⟩
    · exact (moves_of_moveIf (hx.trans (withFp_of_enabled hfp))).1 (decide_eq_true hmem)
    · exact (moves_of_moveIf (hx.trans (withFp_of_enabled hfp))).2 (decide_eq_false hmem)
    · exact hx.trans (withFp_of_disabled hfp)
  · exact moves_of_moveIf (exec_move_of_regRow row hrow rd rs1 o s)

end Sys2Proof.Machine
end

section
/-!
PROOFS. The branches (41_control.md R500 to R504, R510 to R516, R519 to R524): `Branches`.
-/

namespace Sys2Proof.Machine

variable {cond : BitVec 4}

/-! ## Targets (41_control.md R504) -/

theorem branchTarget_eq_targetOf {n : Nat} (s : State) (d : BitVec n) : branchTarget s d = targetOf s d.toInt := by
  have hdisp : d.signExtend 64 <<< 2 = BitVec.ofInt 64 (4 * d.toInt) := by
    rw [BitVec.shiftLeft_eq_mul_twoPow, BitVec.ofInt_mul, BitVec.mul_comm]
    rfl
  rw [branchTarget, targetOf, BitVec.ofInt_add, BitVec.ofInt_natCast, BitVec.ofNat_toNat, BitVec.setWidth_eq, hdisp]

/-! ## Outcomes (41_control.md R500) -/

/-- What a branch on the condition `cond` leaves: branch always with a = 1 has no delay instruction. -/
def branchOnOutcome (s : State) (cond : BitVec 4) (taken a : Bool) (ea : Word) : State :=
  if cond = 8#4 ∧ a = true then s.transferAnnul ea else branchOutcome s taken a ea

theorem branchOnOutcome_always (s : State) (a : Bool) (ea : Word) :
    branchOnOutcome s 8#4 true a ea = if a then s.transferAnnul ea else s.delayedTransfer ea := by
  cases a <;> rfl

theorem branchOnOutcome_other (h : cond ≠ 8#4) (s : State) (taken a : Bool) (ea : Word) :
    branchOnOutcome s cond taken a ea = branchOutcome s taken a ea :=
  if_neg fun hc => h hc.1

theorem branchIf_eq (s : State) (taken a : Bool) (ea : Word) :
    branchIf s taken a ea = .next (branchOutcome s taken a ea) := by
  cases taken <;> cases a <;> rfl

theorem branchAlways_eq (s : State) (a : Bool) (ea : Word) :
    branchAlways s a ea = .next (branchOnOutcome s 8#4 true a ea) := by
  rw [branchOnOutcome_always]
  cases a <;> rfl

/-- Branch never is a branch that is not taken, to any target. -/
theorem branchNever_eq (s : State) (a : Bool) (ea : Word) :
    branchNever s a = .next (branchOnOutcome s 0#4 false a ea) := by
  rw [branchOnOutcome_other (by decide), ← branchIf_eq]
  rfl

theorem branchIf_of_conditional (h : cond ≠ 8#4) (s : State) (taken a : Bool) (ea : Word) :
    branchIf s taken a ea = .next (branchOnOutcome s cond taken a ea) := by
  rw [branchIf_eq, branchOnOutcome_other h]

/-! ## The instructions of each row -/

theorem exec_branches_of_iccRow (s : State) (a : Bool) : ∀ row ∈ integerConditions,
    (∀ d : BitVec 22, exec (row.branch a d) s =
      .next (branchOnOutcome s row.cond (iccTest row.cond (intCC s .icc)) a (branchTarget s d))) ∧
    ∀ (cc : IntCC) (p : Bool) (d : BitVec 19), exec (row.predicted a cc p d) s =
      .next (branchOnOutcome s row.cond (iccTest row.cond (intCC s cc)) a (branchTarget s d)) := by
  simp only [integerConditions, List.forall_mem_cons, List.not_mem_nil, false_implies, implies_true, and_true]
  refine ⟨⟨fun _ => branchAlways_eq _ _ _, fun _ _ _ => branchAlways_eq _ _ _⟩,
    ⟨fun _ => branchNever_eq _ _ _, fun _ _ _ => branchNever_eq _ _ _⟩, ?_⟩
  and_intros <;> intros <;> exact branchIf_of_conditional (by decide) _ _ _ _

theorem exec_branch_of_regRow : ∀ row ∈ registerConditions,
    ∀ (a p : Bool) (rs1 : RegField) (d : BitVec 16) (s : State),
      exec (row.branch a p rs1 d) s =
        .next (branchOutcome s (row.test (s.readR rs1).toInt) a (branchTarget s d)) := by
  simp only [registerConditions, List.forall_mem_cons, List.not_mem_nil, false_implies, implies_true, and_true,
    ← regTest_z, ← regTest_lez, ← regTest_lz, ← regTest_nz, ← regTest_gz, ← regTest_gez]
  and_intros <;> exact fun _ _ _ _ _ => branchIf_eq _ _ _ _

theorem exec_branches_of_fccRow (s : State) (a : Bool) : ∀ row ∈ fpConditions,
    (∀ d : BitVec 22, exec (row.branch a d) s =
      withFp s (.next (branchOnOutcome s row.cond (fccTest row.cond (fccOf s 0#2)) a (branchTarget s d)))) ∧
    ∀ (n : FccSel) (p : Bool) (d : BitVec 19), exec (row.predicted a n p d) s =
      withFp s (.next (branchOnOutcome s row.cond (fccTest row.cond (fccOf s n)) a (branchTarget s d))) := by
  simp only [fpConditions, List.forall_mem_cons, List.not_mem_nil, false_implies, implies_true, and_true]
  refine ⟨⟨fun _ => congrArg (withFp s) (branchAlways_eq _ _ _),
      fun _ _ _ => congrArg (withFp s) (branchAlways_eq _ _ _)⟩,
    ⟨fun _ => congrArg (withFp s) (branchNever_eq _ _ _), fun _ _ _ => congrArg (withFp s) (branchNever_eq _ _ _)⟩, ?_⟩
  and_intros <;> intros <;> exact congrArg (withFp s) (branchIf_of_conditional (by decide) _ _ _ _)

/-- Settles O31: each branch tests the condition of its row, a floating-point one after FpCheck, and leaves the outcome
of that test. -/
theorem branches : Obligations.Branches := by
  intro s a
  refine ⟨fun row hrow => ?_, fun row hrow p rs1 d => ?_, fun row hrow => ?_⟩
  · have hx := exec_branches_of_iccRow s a row hrow
    simp only [← row.holds_eq_iccTest hrow, branchTarget_eq_targetOf] at hx
    exact hx
  · rw [← branchTarget_eq_targetOf]
    exact exec_branch_of_regRow row hrow a p rs1 d s
  · have hx := exec_branches_of_fccRow s a row hrow
    simp only [fccTest_of_row row hrow, fccOf_eq_fccValue, branchTarget_eq_targetOf] at hx
    obtain ⟨hbranch, hpredicted⟩ := hx
    exact ⟨fun hfp => ⟨fun d => (hbranch d).trans (withFp_of_enabled hfp),
        fun n p d => (hpredicted n p d).trans (withFp_of_enabled hfp)⟩,
      fun hfp => ⟨fun d => (hbranch d).trans (withFp_of_disabled hfp),
        fun n p d => (hpredicted n p d).trans (withFp_of_disabled hfp)⟩⟩

end Sys2Proof.Machine
end

section
/-!
PROOFS. Tcc (41_control.md R529 to R532): `TrapOnCondition`.
-/

namespace Sys2Proof.Machine

variable {s : State}

/-! ## The privilege modes (60_exceptions.md R1002, 62_exception_list.md R1093) -/

theorem State.mode_nonprivileged_iff : s.mode = .nonprivileged ↔ s.hpstate.hpriv = false ∧ s.isUser = true := by
  unfold State.mode State.isUser
  cases s.hpstate.hpriv <;> cases s.pstate.priv <;> decide

theorem State.mode_privileged_iff : s.mode = .privileged ↔ s.hpstate.hpriv = false ∧ s.isUser = false := by
  unfold State.mode State.isUser
  cases s.hpstate.hpriv <;> cases s.pstate.priv <;> decide

theorem State.mode_hyperprivileged_iff : s.mode = .hyperprivileged ↔ s.hpstate.hpriv = true := by
  unfold State.mode
  cases s.hpstate.hpriv <;> cases s.pstate.priv <;> decide

theorem State.isUser_of_hpriv (h : s.hpstate.hpriv = true) : s.isUser = false := by simp [State.isUser, h]

/-! ## The software trap number (41_control.md R529) -/

theorem swTrapNumber_user (h : s.isUser = true) (v : Word) :
    swTrapNumber s v = BitVec.ofNat 8 (v.toNat % 128) := by
  rw [swTrapNumber, if_pos h]
  apply BitVec.eq_of_toNat_eq
  rw [BitVec.toNat_setWidth, BitVec.extractLsb'_toNat, BitVec.toNat_ofNat]
  rfl

theorem swTrapNumber_above (h : s.isUser = false) (v : Word) : swTrapNumber s v = BitVec.ofNat 8 v.toNat := by
  rw [swTrapNumber, h]
  exact BitVec.eq_of_toNat_eq (BitVec.extractLsb'_toNat 0 8 v)

theorem swTrap_hyper (h : s.hpstate.hpriv = true) (v : Word) :
    swTrap s v = .htrapInstruction (BitVec.ofNat 8 v.toNat) := by
  rw [swTrap, swTrapNumber_above (State.isUser_of_hpriv h), h]
  rfl

/-- Below hyperprivileged mode the number decides where the trap goes. -/
theorem swTrap_below (h : s.hpstate.hpriv = false) (v : Word) :
    swTrap s v =
      if 128 ≤ (swTrapNumber s v).toNat then .htrapInstruction (swTrapNumber s v)
      else .trapInstruction (swTrapNumber s v) := by
  simp [swTrap, h]

theorem swTrap_user (hh : s.hpstate.hpriv = false) (hu : s.isUser = true) (v : Word) :
    swTrap s v = .trapInstruction (BitVec.ofNat 8 (v.toNat % 128)) := by
  rw [swTrap_below hh, swTrapNumber_user hu, if_neg]
  rw [BitVec.toNat_ofNat]
  omega

theorem swTrap_privileged_low (hh : s.hpstate.hpriv = false) (hu : s.isUser = false) {v : Word}
    (hv : v.toNat % 256 < 128) : swTrap s v = .trapInstruction (BitVec.ofNat 8 v.toNat) := by
  rw [swTrap_below hh, swTrapNumber_above hu, if_neg]
  rw [BitVec.toNat_ofNat]
  omega

theorem swTrap_privileged_high (hh : s.hpstate.hpriv = false) (hu : s.isUser = false) {v : Word}
    (hv : 128 ≤ v.toNat % 256) : swTrap s v = .htrapInstruction (BitVec.ofNat 8 v.toNat) := by
  rw [swTrap_below hh, swTrapNumber_above hu, if_pos]
  rwa [BitVec.toNat_ofNat]

/-! ## The sum (41_control.md R529, D18) -/

/-- The exact sum of the operands, imm_trap_# unsigned. -/
def exactTrapSum (s : State) (rs1 : RegField) (o : Op2x8) : Nat :=
  (s.readR rs1).toNat + (match o with | .reg rs2 => (s.readR rs2).toNat | .imm v => v.toNat)

theorem toNat_trapSum (s : State) (rs1 : RegField) (o : Op2x8) :
    (trapSum s rs1 o).toNat = exactTrapSum s rs1 o % 2 ^ 64 := by
  cases o with
  | reg rs2 => exact BitVec.toNat_add _ _
  | imm v => rw [trapSum, BitVec.toNat_add, BitVec.toNat_setWidth_of_le (by decide)]; rfl

/-- The low bits of the sum are those of the exact sum. -/
theorem toNat_trapSum_mod (s : State) (rs1 : RegField) (o : Op2x8) {m : Nat} (hm : m ∣ 2 ^ 64) :
    (trapSum s rs1 o).toNat % m = exactTrapSum s rs1 o % m := by
  rw [toNat_trapSum, Nat.mod_mod_of_dvd _ hm]

theorem ofNat_trapSum (s : State) (rs1 : RegField) (o : Op2x8) :
    BitVec.ofNat 8 (trapSum s rs1 o).toNat = BitVec.ofNat 8 (exactTrapSum s rs1 o) :=
  BitVec.eq_of_toNat_eq (by simpa only [BitVec.toNat_ofNat] using toNat_trapSum_mod s rs1 o (by decide))

/-! ## The instructions -/

theorem exec_trap_of_iccRow : ∀ row ∈ integerConditions,
    ∀ (cc : IntCC) (rs1 : RegField) (o : Op2x8) (s : State),
      exec (row.trap cc rs1 o) s = trapIcc s row.cond cc rs1 o := by
  simp only [integerConditions, List.forall_mem_cons, List.not_mem_nil, false_implies, implies_true, and_true]
  and_intros <;> exact fun _ _ _ _ => rfl

/-- Settles O33: where the condition of the row holds, the exception is `swTrap` of the sum, by the mode. -/
theorem trapOnCondition : Obligations.TrapOnCondition := by
  intro row hrow s cc rs1 o n
  have hn : exactTrapSum s rs1 o = n := rfl
  have hlow : BitVec.ofNat 8 (trapSum s rs1 o).toNat = BitVec.ofNat 8 n := ofNat_trapSum s rs1 o
  have hmod : (trapSum s rs1 o).toNat % 256 = n % 256 := toNat_trapSum_mod s rs1 o (by decide)
  rw [row.holds_eq_iccTest hrow, exec_trap_of_iccRow row hrow]
  refine ⟨fun hno => if_neg (by rw [hno]; decide), fun hyes => ?_⟩
  have htrap : trapIcc s row.cond cc rs1 o = .next (takeTrap (swTrap s (trapSum s rs1 o)) s) := if_pos hyes
  rw [htrap]
  refine ⟨fun hm => ?_, fun hm hv => ?_, fun hm hv => ?_, fun hm => ?_⟩
  · obtain ⟨hh, hu⟩ := State.mode_nonprivileged_iff.1 hm
    rw [swTrap_user hh hu, toNat_trapSum_mod s rs1 o (by decide), hn]
  · obtain ⟨hh, hu⟩ := State.mode_privileged_iff.1 hm
    rw [swTrap_privileged_low hh hu (hmod ▸ hv), hlow]
  · obtain ⟨hh, hu⟩ := State.mode_privileged_iff.1 hm
    rw [swTrap_privileged_high hh hu (hmod ▸ hv), hlow]
  · rw [swTrap_hyper (State.mode_hyperprivileged_iff.1 hm), hlow]

end Sys2Proof.Machine
end

section
/-!
PROOFS. CALL, JMPL and RETURN (41_control.md R517, R526, R528): `CallsJumpsAndReturns`.
-/

namespace Sys2Proof.Machine

variable {s : State} {rs1 : RegField} {o : Op2}

/-- PSTATE.am = 1 leaves the low 32 bits of an address (11_state_privileged.md R190). -/
theorem State.amMask_eq (s : State) (a : Word) :
    s.amMask a = if s.pstate.am then BitVec.ofNat 64 (a.toNat % 2 ^ 32) else a := by
  have hlow : (a.setWidth 32).setWidth 64 = BitVec.ofNat 64 (a.toNat % 2 ^ 32) := by
    rw [← BitVec.toNat_setWidth, BitVec.ofNat_toNat]
  rw [State.amMask, hlow]

/-- Writing a register and transferring commute. -/
theorem State.delayedTransfer_writeR (s : State) (rd : RegField) (v ea : Word) :
    (s.writeR rd v).delayedTransfer ea = (s.delayedTransfer ea).writeR rd v := by
  unfold State.writeR State.delayedTransfer
  split
  · rfl
  · split <;> rfl

theorem writesR_link (s : State) (rd : RegField) (ea : Word) :
    WritesR { s with pc := s.npc, npc := ea } ((s.writeR rd (s.amMask s.pc)).delayedTransfer ea) rd
      (if s.pstate.am then BitVec.ofNat 64 (s.pc.toNat % 2 ^ 32) else s.pc) :=
  State.amMask_eq s s.pc ▸ writesR_of_eq (State.delayedTransfer_writeR s rd _ ea)

theorem WindowRegs.restored_eq (w : WindowRegs) :
    w.restored =
      { w with cwp := w.cwp - 1#3, canrestore := w.canrestore - 1#3, cansave := w.cansave + 1#3 } := by
  rw [WindowRegs.restored, windowAdd_previous]

/-! ## The checks of JMPL and RETURN -/

theorem exec_jmpl_aligned (ha : wordAligned (effAddr s rs1 o)) (rd : RegField) :
    exec (.jmpl rd rs1 o) s = .next ((s.writeR rd (s.amMask s.pc)).delayedTransfer (effAddr s rs1 o)) :=
  if_neg (not_not.2 ha)

theorem exec_jmpl_unaligned (ha : ¬wordAligned (effAddr s rs1 o)) (rd : RegField) :
    exec (.jmpl rd rs1 o) s = .next (takeTrap .memAddressNotAligned s) :=
  if_pos ha

theorem exec_return_fill (hr : s.win.canrestore = 0#3) (x rs1 : RegField) (o : Op2) :
    exec (.return_ x rs1 o) s = .next (takeTrap s.fillExc s) :=
  if_pos hr

theorem exec_return_aligned (hr : s.win.canrestore ≠ 0#3) (ha : wordAligned (effAddr s rs1 o)) (x : RegField) :
    exec (.return_ x rs1 o) s = .next ({ s with win := s.win.restored }.delayedTransfer (effAddr s rs1 o)) :=
  (if_neg hr).trans (if_neg (not_not.2 ha))

theorem exec_return_unaligned (hr : s.win.canrestore ≠ 0#3) (ha : ¬wordAligned (effAddr s rs1 o)) (x : RegField) :
    exec (.return_ x rs1 o) s = .next (takeTrap .memAddressNotAligned s) :=
  (if_neg hr).trans (if_pos ha)

/-- Settles O32: the link is the masked pc, the transfer the same for all three, after the checks of JMPL and RETURN. -/
theorem callsJumpsAndReturns : Obligations.CallsJumpsAndReturns := by
  intro s Low link
  refine ⟨fun d => ?_, fun x rs1 o => ?_⟩
  · rw [← branchTarget_eq_targetOf]
    exact ⟨_, rfl, writesR_link s 15#5 (branchTarget s d)⟩
  · intro ea
    refine ⟨fun ha => ?_, fun ha => ?_, fun hr => exec_return_fill hr x rs1 o⟩
    · have hword : wordAligned (effAddr s rs1 o) := (wordAligned_iff ea).2 ha
      refine ⟨⟨_, exec_jmpl_aligned hword x, writesR_link s x ea⟩, fun hr => ?_⟩
      rw [exec_return_aligned hr hword, WindowRegs.restored_eq]
      rfl
    · have hword : ¬wordAligned (effAddr s rs1 o) := mt (wordAligned_iff ea).1 ha
      exact ⟨exec_jmpl_unaligned hword x, fun hr => exec_return_unaligned hr hword x⟩

end Sys2Proof.Machine
end

section
/-!
PROOFS. DONE and RETRY (41_control.md R518, R527; 60_exceptions.md R1060): `DoneAndRetry`. The instructions left to
software (41_control.md R525): `InstructionsLeftToSoftware`.
-/

namespace Sys2Proof.Machine

variable {s : State}

/-! ## What is restored -/

/-- A PSTATE restored from 13 bits holds the implemented ones (11_state_privileged.md R180, D32). -/
theorem PState.bits_ofBits (b : BitVec 13) : (PState.ofBits b).bits = b &&& 0x131E#13 := by
  apply BitVec.eq_of_getLsbD_eq
  intro i hi
  simp only [PState.bits, PState.ofBits, BitVec.getLsbD_append]
  interval_cases i <;> simp

/-- A HPSTATE restored from 11 bits holds the implemented ones (11_state_privileged.md R201). -/
theorem HPState.bits_ofBits (b : BitVec 11) : (HPState.ofBits b).bits = b &&& 0x425#11 := by
  apply BitVec.eq_of_getLsbD_eq
  intro i hi
  simp only [HPState.bits, HPState.ofBits, BitVec.getLsbD_append]
  interval_cases i <;> simp

/-- The GL that DONE and RETRY restore above nonprivileged mode: at most MAXPGL from privileged mode to hpriv = 0. -/
theorem State.restoredGl_val (hu : s.isUser = false) :
    s.restoredGl.val =
      min (min s.trapEntry.tstate.gl.toNat 3)
        (if s.hpstate.hpriv = false ∧ s.trapEntry.htstate.getLsbD 2 = false then 2 else 3) := by
  have hpriv : (!s.hpstate.hpriv && s.pstate.priv) = !s.hpstate.hpriv := by
    revert hu
    unfold State.isUser
    cases s.hpstate.hpriv <;> simp
  have hto : (HPState.ofBits s.trapEntry.htstate).hpriv = s.trapEntry.htstate.getLsbD 2 := rfl
  simp only [State.restoredGl, hpriv, hto, Config.maxPGL, Bool.and_eq_true, Bool.not_eq_true']
  split <;> omega

/-! ## The checks -/

theorem trapReturn_user (hu : s.isUser = true) (t : State) :
    trapReturn s t = .next (takeTrap .privilegedOpcode s) :=
  if_pos hu

theorem trapReturn_zero (hu : s.isUser = false) (hl : s.tl = 0) (t : State) :
    trapReturn s t = .next (takeTrap .illegalInstruction s) :=
  (if_neg (by rw [hu]; decide)).trans (if_pos (congrArg Fin.val hl))

theorem trapReturn_returns (hu : s.isUser = false) (hl : s.tl ≠ 0) (t : State) : trapReturn s t = .next t :=
  (if_neg (by rw [hu]; decide)).trans (if_neg fun h => hl (Fin.ext h))

/-- Settles O22: after the two checks the return restores the saved state, field by field. -/
theorem doneAndRetry : Obligations.DoneAndRetry := by
  intro s
  refine ⟨fun hu => ⟨trapReturn_user hu _, trapReturn_user hu _⟩,
    fun hu hl => ⟨trapReturn_zero hu hl _, trapReturn_zero hu hl _⟩, fun hu hl => ?_⟩
  have htl : s.returnDone.tl.val + 1 = s.tl.val := Nat.sub_add_cancel (Nat.pos_of_ne_zero fun h => hl (Fin.ext h))
  exact ⟨s.returnDone, trapReturn_returns hu hl _, trapReturn_returns hu hl _, rfl, rfl, htl, rfl, rfl,
    BitVec.toNat_setWidth .., PState.bits_ofBits _, HPState.bits_ofBits _, State.restoredGl_val hu, rfl⟩

/-! ## Left to software -/

/-- Settles O34: the meaning of each is the exception, that of FMUL8, FPACK and FPMERGE because their switches are off. -/
theorem instructionsLeftToSoftware : Obligations.InstructionsLeftToSoftware := by
  simp only [Obligations.InstructionsLeftToSoftware, List.forall_mem_cons, List.not_mem_nil, false_implies, implies_true,
    and_true]
  refine ⟨?_, ?_, ?_, ?_, fun _ _ _ => rfl, fun _ _ _ => rfl, fun _ _ _ _ => rfl, fun _ _ _ _ _ => rfl⟩
  · exact ⟨fun _ => rfl, fun _ => rfl, fun _ => rfl, fun _ => rfl⟩
  · and_intros <;> exact fun _ _ _ _ => rfl
  · exact ⟨fun _ _ _ _ => rfl, fun _ _ _ _ => rfl⟩
  · exact ⟨fun _ _ _ _ => rfl, fun _ _ _ _ => rfl⟩

end Sys2Proof.Machine
end

section
/-!
PROOFS. Which bytes of memory an instruction changes (42_loadstore.md R561): `MemoryFrame`.
-/

namespace Sys2Proof.Machine

variable {i : Instr} {s t u : State} {b : Nat}

/-- Byte `b` is outside the bytes that DataAccess gives to the store of instruction `i` in state `s`, if there are any. -/
def OutsideStore (i : Instr) (s : State) (b : Nat) : Prop :=
  ∀ a pa little, i.storeAccess s = some a → dataAccess s a = .memory pa little → b < pa ∨ pa + a.size ≤ b

theorem outsideStore_of_storeless (h : i.storeAccess s = none) (b : Nat) : OutsideStore i s b := by
  intro a _ _ ha
  rw [h] at ha
  cases ha

/-- The instructions that move the register window store nothing. -/
theorem storeAccess_of_movesWindow (h : i.movesWindow = true) (s : State) : i.storeAccess s = none := by
  unfold Instr.movesWindow at h
  split at h
  case h_4 => cases h
  all_goals rfl

/-- The writes of an ordinary instruction leave every byte outside its store. -/
theorem Updates.read_mem (h : Updates i s u) (hb : OutsideStore i s b) : Memory.read u.mem b = Memory.read s.mem b := by
  induction h with
  | refl => rfl
  | store _ ha hd hm ih => exact (hm.outside b (hb _ _ _ ha hd)).trans ih
  | _ => simpa

theorem State.Moves.mem (h : s.Moves t) : t.mem = s.mem := by rw [h.rest]

theorem Traps.mem (h : Traps i s t) : t.mem = s.mem := by
  obtain ⟨u, hp, hk, -⟩ := h.cases
  have hmem : u.mem = s.mem := by rw [hp.rest]
  calc t.mem = t.trapKept.mem := rfl
    _ = u.trapKept.mem := by rw [hk]
    _ = s.mem := hmem

/-- Whatever an instruction does, a byte changes only inside the bytes it stores to. -/
theorem Effect.read_mem (h : Effect s i t) (hb : OutsideStore i s b) : Memory.read t.mem b = Memory.read s.mem b := by
  cases h with
  | completes hu hm => rw [hm.mem, hu.read_mem hb]
  | movesWindow hi _ hu hm =>
    rw [hm.mem]
    exact hu.read_mem (outsideStore_of_storeless (storeAccess_of_movesWindow hi _) b)
  | traps ht => rw [ht.mem]
  | stxaRegister _ _ _ _ hw => rw [writeAsiReg_rest hw]; rfl
  | wrpr => rw [prWrite_rest]; rfl
  | wrhpr => rw [hprWrite_rest]; rfl
  | _ => rfl

/-- Settles O11: without a store, or without an address for it, every byte is outside. -/
theorem memoryFrame : Obligations.MemoryFrame := by
  intro i s t hx
  have hframe {b : Nat} (hb : OutsideStore i s b) : Memory.read t.mem b = Memory.read s.mem b :=
    (exec_effect hx).read_mem hb
  refine ⟨fun hnone b => hframe (outsideStore_of_storeless hnone b), fun acc hacc =>
    ⟨fun pa little hd b hb => hframe ?_, fun hd b => hframe ?_⟩⟩
  · intro a pa' little' ha hd'
    obtain rfl : acc = a := Option.some.inj (hacc.symm.trans ha)
    obtain ⟨rfl, rfl⟩ := AccessResult.memory.inj (hd.symm.trans hd')
    exact hb
  · intro a pa' little' ha hd'
    obtain rfl : acc = a := Option.some.inj (hacc.symm.trans ha)
    exact absurd hd' (hd pa' little')

end Sys2Proof.Machine
end

section
/-!
PROOFS. Loads and stores at a physical address, one law for each access wrapper: what a load hands on, and that a store
leaves the bytes of its value and nothing else.
-/

namespace Sys2Proof.Machine

variable {s u : State} {a : Access} {pa n : Nat} {little : Bool}

/-! ## The bytes of a value -/

theorem byteWeight_eq_pow (n : Nat) (little : Bool) {i : Nat} (hi : i < n) :
    ∃ k < n, byteWeight n little i = 256 ^ k := by
  cases little with
  | false => exact ⟨n - 1 - i, by omega, rfl⟩
  | true => exact ⟨i, hi, rfl⟩

/-- The n bytes of a value depend on the value modulo 256^n alone. -/
theorem bytesOf_mod (v n : Nat) (little : Bool) : bytesOf (v % 256 ^ n) n little = bytesOf v n little := by
  refine List.map_congr_left fun i hi => BitVec.eq_of_toNat_eq ?_
  obtain ⟨k, hk, hweight⟩ := byteWeight_eq_pow n little (List.mem_range.1 hi)
  have hsplit : 256 ^ n = 256 ^ k * 256 ^ (n - k) := by rw [← Nat.pow_add, Nat.add_sub_of_le hk.le]
  have hbyte : 2 ^ 8 ∣ 256 ^ (n - k) := dvd_pow_self 256 (by omega)
  rw [BitVec.toNat_ofNat, BitVec.toNat_ofNat, hweight, hsplit, Nat.mod_mul_right_div_self, Nat.mod_mod_of_dvd _ hbyte]

@[simp] theorem length_bytesOf (v n : Nat) (little : Bool) : (bytesOf v n little).length = n := by
  simp [bytesOf]

/-- What the machine stores of a word are the bytes of its value (20_memory.md R1303, R1304). -/
theorem endianOrder_bytesOfWord (v : Word) (n : Nat) (little : Bool) :
    endianOrder little (bytesOfWord v n) = bytesOf v.toNat n little := by
  refine List.ext_getElem (by simp) fun i hi _ => ?_
  rw [getElem_endianOrder_bytesOfWord]
  simp [bytesOf]

theorem Memory.writeInt_eq (m : List Host.Cell) (pa n : Nat) (little : Bool) (v : Word) :
    Memory.writeInt m pa n little v = Memory.writeBytes m pa (bytesOf v.toNat n little) := by
  rw [Memory.writeInt, endianOrder_bytesOfWord]

theorem Memory.writeBytes_append (m : List Host.Cell) (pa : Nat) (bs cs : List Byte) :
    Memory.writeBytes m pa (bs ++ cs) = Memory.writeBytes (Memory.writeBytes m pa bs) (pa + bs.length) cs := by
  induction bs generalizing m pa with
  | nil => rfl
  | cons b bs ih =>
    rw [List.cons_append, Memory.writeBytes, ih, Memory.writeBytes, List.length_cons, Nat.add_assoc,
      Nat.add_comm 1]

/-- Parts stored one after the other are their bytes in a row. -/
theorem writeParts_eq (m : List Host.Cell) (pa part : Nat) (little : Bool) (vs : List Word) :
    writeParts m pa part little vs = Memory.writeBytes m pa (vs.flatMap fun v => bytesOf v.toNat part little) := by
  induction vs generalizing m pa with
  | nil => rfl
  | cons v vs ih =>
    rw [writeParts, ih, Memory.writeInt_eq, List.flatMap_cons, Memory.writeBytes_append, length_bytesOf]

/-- Storing a word stores the bytes of any number that agrees with it modulo 256^n. -/
theorem storesBytes_writeInt (hm : Memory.wf u.mem) (pa : Nat) (little : Bool) {w : Word} {v : Nat}
    (hv : w.toNat % 256 ^ n = v % 256 ^ n) :
    StoresBytes u { u with mem := Memory.writeInt u.mem pa n little w } pa (bytesOf v n little) := by
  rw [Memory.writeInt_eq, ← bytesOf_mod v, ← hv, bytesOf_mod]
  exact storesBytes_writeBytes hm pa _

/-! ## The value of the bytes at an address -/

/-- What a load of up to eight bytes reads is their value (20_memory.md R1303, R1304). -/
theorem Memory.readInt_eq (m : List Host.Cell) (a : Nat) (little : Bool) (hn : n ≤ 8) :
    Memory.readInt m a n little = BitVec.ofNat 64 (valueAt m a n little) :=
  BitVec.eq_of_toNat_eq (by
    rw [← Memory.toNat_readInt m a little hn, BitVec.toNat_ofNat, Nat.mod_eq_of_lt (BitVec.isLt _)])

/-- Sign extension keeps the two's-complement value of the n bytes. -/
theorem signExtendBytes_eq (hn : 0 < n) {v : Word} (hv : v.toNat < 256 ^ n) :
    signExtendBytes n v = BitVec.ofInt 64 (signedOf n v.toNat) := by
  obtain ⟨k, hk⟩ : ∃ k, 8 * n = k + 1 := ⟨8 * n - 1, by omega⟩
  have hfits : v.toNat < 2 ^ (k + 1) := by
    rwa [← hk, Nat.pow_mul]
  rw [signExtendBytes, BitVec.signExtend, BitVec.toInt_eq_toNat_cond, BitVec.toNat_setWidth, signedOf, hk,
    Nat.mod_eq_of_lt hfits]
  simp [pow_succ']

@[simp] theorem plainAccess_size (s : State) (cls : InstrClass) (rs1 : RegField) (o : Op2) (n : Nat) :
    (plainAccess s cls rs1 o n).size = n := rfl
@[simp] theorem altAccess_size (s : State) (cls : InstrClass) (rs1 : RegField) (o : AsiOp2) (n : Nat) :
    (altAccess s cls rs1 o n).size = n := rfl
@[simp] theorem casAccess_size (s : State) (rs1 : RegField) (asi : CasAsi) (n : Nat) :
    (casAccess s rs1 asi n).size = n := rfl

/-! ## One law for each wrapper -/

section AtMemory

variable (hd : dataAccess s a = .memory pa little)
include hd

theorem loadValue_memory (k : Word → Result) : loadValue s a k = k (Memory.readInt s.mem pa a.size little) :=
  withAccess_memory hd _ _

theorem storeValue_memory (v : Word) (k : State → Result) :
    storeValue s a v k = k { s with mem := Memory.writeInt s.mem pa a.size little v } := withAccess_memory hd _ _

theorem atomicValue_memory (f : Word → Word) (k : State → Word → Result) :
    atomicValue s a f k =
      k { s with mem := Memory.writeInt s.mem pa a.size little (f (Memory.readInt s.mem pa a.size little)) }
        (Memory.readInt s.mem pa a.size little) := withAccess_memory hd _ _

theorem loadParts_memory (part : Nat) (k : (Nat → Word) → Result) :
    loadParts s a part k = k fun i => Memory.readInt s.mem (pa + part * i) part little := withAccess_memory hd _ _

theorem storeParts_memory (part : Nat) (vs : List Word) (k : State → Result) :
    storeParts s a part vs k = k { s with mem := writeParts s.mem pa part little vs } := withAccess_memory hd _ _

end AtMemory

end Sys2Proof.Machine
end

section
/-!
PROOFS. The integer loads and stores: `IntegerLoads` and `IntegerStores`.
-/

namespace Sys2Proof.Machine

variable {s : State} {a : Access} {rd : RegField} {pa : Nat} {little : Bool}

theorem loadUnsigned_writes (hd : dataAccess s a = .memory pa little) (hn : a.size ≤ 8) :
    ∃ t, loadUnsigned s a rd = .next t ∧ WritesR s.advance t rd (BitVec.ofInt 64 (valueAt s.mem pa a.size little)) := by
  rw [loadUnsigned, loadValue_memory hd, Memory.readInt_eq _ _ _ hn, BitVec.ofInt_natCast]
  exact writeBack_writes s rd _

theorem loadSigned_writes (hd : dataAccess s a = .memory pa little) (hpos : 0 < a.size) (hn : a.size ≤ 8) :
    ∃ t, loadSigned s a rd = .next t ∧
      WritesR s.advance t rd (BitVec.ofInt 64 (signedOf a.size (valueAt s.mem pa a.size little))) := by
  have hvalue := Memory.toNat_readInt s.mem pa little hn
  have hlt := valueAt_lt s.mem pa a.size little
  rw [loadSigned, loadValue_memory hd, signExtendBytes_eq hpos (hvalue ▸ hlt), hvalue]
  exact writeBack_writes s rd _

/-- Settles O42: each load is the unsigned or the signed one at its access. -/
theorem integerLoads : Obligations.IntegerLoads := by
  intro p hp s rd rs1 pa little
  simp only [List.mem_cons, List.not_mem_nil, or_false] at hp
  obtain rfl | rfl | rfl | rfl | rfl | rfl | rfl := hp
  iterate 3 exact ⟨fun _ hd => loadUnsigned_writes hd (by simp), fun _ hd => loadUnsigned_writes hd (by simp)⟩
  iterate 3 exact ⟨fun _ hd => loadSigned_writes hd (by simp) (by simp),
    fun _ hd => loadSigned_writes hd (by simp) (by simp)⟩
  exact ⟨fun _ hd => loadUnsigned_writes hd (by simp), fun _ hd => loadUnsigned_writes hd (by simp)⟩

theorem storeReg_stores (hd : dataAccess s a = .memory pa little) (hm : Memory.wf s.mem) :
    ∃ t, storeReg s a rd = .next t ∧ StoresBytes s.advance t pa (bytesOf (s.readR rd).toNat a.size little) := by
  rw [storeReg, storeValue_memory hd]
  exact ⟨_, rfl, storesBytes_writeInt (u := s.advance) hm pa little rfl⟩

/-- Settles O43: each store is the store of R[rd] at its access. -/
theorem integerStores : Obligations.IntegerStores := by
  intro p hp s rd rs1 pa little hm
  simp only [List.mem_cons, List.not_mem_nil, or_false] at hp
  obtain rfl | rfl | rfl | rfl := hp
  all_goals exact ⟨fun _ hd => storeReg_stores hd hm, fun _ hd => storeReg_stores hd hm⟩

end Sys2Proof.Machine
end

section
/-!
PROOFS. The atomics, LDSTUB, SWAP and compare-and-swap (42_loadstore.md R601 to R611): `Atomics`.
-/

namespace Sys2Proof.Machine

variable {s : State} {a : Access} {rd : RegField} {pa n : Nat} {little : Bool}

/-- `r` stores the bytes of `v` at `pa`, then puts the value of the `n` bytes that were there in R[rd]: what `Atomics` says of
each instruction. -/
def Exchanges (s : State) (rd : RegField) (pa n : Nat) (little : Bool) (v : Nat) (r : Result) : Prop :=
  ∃ u t, StoresBytes s.advance u pa (bytesOf v n little) ∧ r = .next t ∧
    WritesR u t rd (BitVec.ofNat 64 (valueAt s.mem pa n little))

/-- An atomic exchanges R[rd] with what its function makes of the old value, of which the low `n` bytes count. -/
theorem atomicReg_exchanges (hd : dataAccess s a = .memory pa little) (hm : Memory.wf s.mem) (hn : a.size ≤ 8)
    {f : Word → Word} {v : Nat}
    (hf : (f (BitVec.ofNat 64 (valueAt s.mem pa a.size little))).toNat % 256 ^ a.size = v % 256 ^ a.size) :
    Exchanges s rd pa a.size little v (atomicReg s a f rd) := by
  rw [atomicReg, atomicValue_memory hd, Memory.readInt_eq _ _ _ hn]
  exact ⟨_, _, storesBytes_writeInt (u := s.advance) hm pa little hf, rfl,
    writesR_of_eq (State.advance_writeR _ rd _)⟩

/-- Compare-and-swap of a doubleword (42_loadstore.md R611). -/
theorem toNat_swapIfEqual (cmp new : Word) {old : Nat} (h : old < 2 ^ 64) :
    (swapIfEqual cmp new (BitVec.ofNat 64 old)).toNat = if old = cmp.toNat then new.toNat else old := by
  have heq : BitVec.ofNat 64 old = cmp ↔ old = cmp.toNat := by
    rw [← BitVec.toNat_inj, BitVec.toNat_ofNat, Nat.mod_eq_of_lt h]
  simp only [swapIfEqual, heq]
  split
  · rfl
  · exact Nat.mod_eq_of_lt h

/-- Compare-and-swap of a word takes the low words of both registers (42_loadstore.md R610). -/
theorem toNat_swapIfEqual_word (cmp new : Word) {old : Nat} (h : old < 2 ^ 32) :
    (swapIfEqual ((cmp.setWidth 32).setWidth 64) ((new.setWidth 32).setWidth 64) (BitVec.ofNat 64 old)).toNat % 2 ^ 32 =
      (if old = cmp.toNat % 2 ^ 32 then new.toNat else old) % 2 ^ 32 := by
  have hlow (w : Word) : ((w.setWidth 32).setWidth 64).toNat = w.toNat % 2 ^ 32 := by
    rw [BitVec.toNat_setWidth_of_le (by decide), BitVec.toNat_setWidth]
  rw [toNat_swapIfEqual _ _ (by omega), hlow, hlow]
  split
  · exact Nat.mod_mod _ _
  · rfl

/-- Settles O44: each atomic exchanges with its own function of the old value. -/
theorem atomics : Obligations.Atomics := by
  intro s rd rs1 pa little hm
  refine ⟨fun _ hd => ?ldstub, fun _ hd => ?ldstuba, fun _ hd => ?swap, fun _ hd => ?swapa, fun _ _ hd => ?casa,
    fun _ _ hd => ?casxa⟩
  case casa => exact atomicReg_exchanges hd hm (by simp) (toNat_swapIfEqual_word _ _ (valueAt_lt s.mem pa 4 little))
  case casxa =>
    exact atomicReg_exchanges hd hm (by simp)
      (congrArg (· % 256 ^ 8) (toNat_swapIfEqual _ _ (valueAt_lt s.mem pa 8 little)))
  -- The others store a value that does not depend on the old one.
  case ldstub | ldstuba => exact atomicReg_exchanges (f := fun _ => 0xFF#64) hd hm (by simp) rfl
  case swap | swapa => exact atomicReg_exchanges (f := fun _ => s.readR rd) hd hm (by simp) rfl

end Sys2Proof.Machine
end

section
/-!
PROOFS. The twin loads and stores (42_loadstore.md R590 to R594): `TwinTransfers`.
-/

namespace Sys2Proof.Machine

variable {s : State} {a : Access} {rd : RegField} {pa part : Nat} {little : Bool}

/-! ## An odd register -/

theorem isEven_odd : ∀ rd : RegField, rd.toNat % 2 = 1 → isEven rd = false := by decide

theorem loadPair_odd (ho : rd.toNat % 2 = 1) (a : Access) (part : Nat) :
    loadPair s a part rd = .next (takeTrap .illegalInstruction s) :=
  if_pos (by rw [isEven_odd rd ho]; rfl)

theorem storePair_odd (ho : rd.toNat % 2 = 1) (a : Access) :
    storePair s a rd = .next (takeTrap .illegalInstruction s) :=
  if_pos (by rw [isEven_odd rd ho]; rfl)

theorem execLdtwa_odd (ho : rd.toNat % 2 = 1) (rs1 : RegField) (o : AsiOp2) :
    execLdtwa rd rs1 o s = .next (takeTrap .illegalInstruction s) := by
  unfold execLdtwa
  split <;> exact loadPair_odd ho _ _

/-! ## An even register -/

theorem pairOdd_even : ∀ rd : RegField, rd.toNat % 2 = 0 → pairOdd rd = rd + 1#5 := by decide

/-- `r` loads two parts of `part` bytes, the one at `pa` into R[rd], the next into R[rd + 1]: what `TwinTransfers` says of each
twin load. -/
def LoadsPair (s : State) (rd : RegField) (pa part : Nat) (little : Bool) (r : Result) : Prop :=
  ∃ u t, WritesR s.advance u rd (BitVec.ofNat 64 (valueAt s.mem pa part little)) ∧ r = .next t ∧
    WritesR u t (rd + 1#5) (BitVec.ofNat 64 (valueAt s.mem (pa + part) part little))

theorem loadPair_loads (he : rd.toNat % 2 = 0) (hn : part ≤ 8) (hd : dataAccess s a = .memory pa little) :
    LoadsPair s rd pa part little (loadPair s a part rd) := by
  have hadvance (v w : Word) : (s.writePair rd v w).advance = (s.advance.writeR rd v).writeR (rd + 1#5) w := by
    rw [State.writePair, pairOdd_even rd he, State.advance_writeR, State.advance_writeR]
  have hread (b : Nat) : Memory.readInt s.mem b part little = BitVec.ofNat 64 (valueAt s.mem b part little) :=
    Memory.readInt_eq _ b little hn
  rw [loadPair, (isEven_iff rd).2 he, Bool.not_true, if_neg Bool.false_ne_true, loadParts_memory hd, complete_eq,
    hadvance]
  simp only [hread, Nat.mul_zero, Nat.add_zero, Nat.mul_one]
  exact ⟨_, _, writesR_writeR .., rfl, writesR_writeR ..⟩

theorem storePair_stores (he : rd.toNat % 2 = 0) (hm : Memory.wf s.mem) (hd : dataAccess s a = .memory pa little) :
    ∃ t, storePair s a rd = .next t ∧ StoresBytes s.advance t pa
      (bytesOf (s.readR rd).toNat 4 little ++ bytesOf (s.readR (rd + 1#5)).toNat 4 little) := by
  rw [storePair, (isEven_iff rd).2 he, Bool.not_true, if_neg Bool.false_ne_true, storeParts_memory hd, writeParts_eq,
    pairOdd_even rd he]
  simp only [List.flatMap_cons, List.flatMap_nil, List.append_nil]
  exact ⟨_, rfl, storesBytes_writeBytes (u := s.advance) hm pa _⟩

section ByAsi

variable {rs1 : RegField} {o : AsiOp2}

theorem execLdtwa_loads_words (he : rd.toNat % 2 = 0) (ht : isTwinAsi (asiOf s o) = false)
    (hd : dataAccess s (altAccess s .load rs1 o 8) = .memory pa little) :
    LoadsPair s rd pa 4 little (execLdtwa rd rs1 o s) := by
  rw [execLdtwa, ht, if_neg Bool.false_ne_true]
  exact loadPair_loads he (by decide) hd

/-- With a twin ASI LDTWA is LDTXA (D21, log 20). -/
theorem execLdtwa_loads_twin (he : rd.toNat % 2 = 0) (ht : isTwinAsi (asiOf s o) = true)
    (hd : dataAccess s (altAccess s .loadTwinX rs1 o 16) = .memory pa little) :
    LoadsPair s rd pa 8 little (execLdtwa rd rs1 o s) := by
  rw [execLdtwa, if_pos ht]
  exact loadPair_loads he (by decide) hd

end ByAsi

/-- Settles O45: every twin instruction is one of the two pair transfers, which check the register first. -/
theorem twinTransfers : Obligations.TwinTransfers := by
  intro s rd rs1
  refine ⟨fun ho => ⟨fun _ => ⟨loadPair_odd ho _ _, storePair_odd ho _⟩,
    fun _ => ⟨execLdtwa_odd ho _ _, storePair_odd ho _⟩, fun _ _ => loadPair_odd ho _ _⟩, fun pa little he => ?_⟩
  exact ⟨fun _ => loadPair_loads he (by decide), fun _ => execLdtwa_loads_words he, fun _ => execLdtwa_loads_twin he,
    fun _ _ => loadPair_loads he (by decide),
    fun hm => ⟨fun _ => storePair_stores he hm, fun _ => storePair_stores he hm⟩⟩

end Sys2Proof.Machine
end

section
/-!
SUPPORT. The F registers: where a single and a double one are kept, what a double write leaves of the other double registers,
the dirty bit, and the eight double registers of a block (10_state.md R70 to R72, R108, 43_fp_loadstore.md R690).
-/

namespace Sys2Proof.Machine

variable {s u : State} {f g rd : RegField}

/-! ## One register -/

theorem State.readFS_eq (s : State) (f : RegField) : s.readFS f = s.fregs.get (singleIndex f) := by
  rw [State.readFS, singleIndex_eq]

theorem State.readFD_eq (s : State) (f : RegField) :
    s.readFD f = s.fregs.get (upperIndex f) ++ s.fregs.get (lowerIndex f) := by
  rw [State.readFD, doubleHi_eq, doubleLo_eq]

theorem upperIndex_ne_lowerIndex (f g : RegField) : upperIndex f ≠ lowerIndex g := by
  simp only [upperIndex, lowerIndex, ne_eq, Fin.mk.injEq]
  omega

theorem upperIndex_inj : upperIndex f = upperIndex g ↔ f = g := by
  refine ⟨fun h => BitVec.eq_of_toNat_eq ?_, congrArg _⟩
  simp only [upperIndex, Fin.mk.injEq] at h
  omega

theorem lowerIndex_inj : lowerIndex f = lowerIndex g ↔ f = g := by
  refine ⟨fun h => BitVec.eq_of_toNat_eq ?_, congrArg _⟩
  simp only [lowerIndex, Fin.mk.injEq] at h
  omega

/-- Different fields name double registers that share no word. -/
theorem State.readFD_writeFD_other (h : g ≠ f) (u : State) (v : Word) : (u.writeFD f v).readFD g = u.readFD g := by
  have hw := writesFD_writeFD u f v
  rw [State.readFD_eq, State.readFD_eq, hw.others _ (mt upperIndex_inj.1 h) (upperIndex_ne_lowerIndex g f),
    hw.others _ (upperIndex_ne_lowerIndex f g).symm (mt lowerIndex_inj.1 h)]

/-! ## The dirty bit of a double register -/

theorem State.markDouble_eq (s : State) (f : RegField) :
    s.markDouble f =
      { s with fprs := if f.toNat % 2 = 1 then { s.fprs with du := true } else { s.fprs with dl := true } } := by
  rw [State.markDouble, getLsbD_zero_eq_odd]
  by_cases hodd : f.toNat % 2 = 1 <;> simp [hodd, State.markLower]

theorem State.writeFD_rest (u : State) (f : RegField) (v : Word) :
    u.writeFD f v = { u with fregs := (u.writeFD f v).fregs }.markDouble f := by
  rw [State.markDouble_eq]
  exact (writesFD_writeFD u f v).rest

/-! ## Writing and advancing commute -/

theorem State.advance_writeFS (s : State) (f : RegField) (v : HWord) :
    (s.writeFS f v).advance = s.advance.writeFS f v := rfl

theorem State.advance_writeFD (s : State) (f : RegField) (v : Word) :
    (s.writeFD f v).advance = s.advance.writeFD f v := by
  unfold State.writeFD State.markDouble
  split <;> rfl

/-! ## A block of eight double registers -/

theorem blockReg_inj : ∀ (rd : RegField) (j k : BitVec 3), blockReg rd j = blockReg rd k → j = k := by decide

/-- From a register that starts a block, the fields of the block are the even steps above it. -/
theorem blockReg_eq : ∀ (rd : RegField) (k : Fin 8), blockRegister rd →
    blockReg rd (BitVec.ofNat 3 k.val) = rd + BitVec.ofNat 5 (2 * k.val) := by decide

/-- A block lies in one half of the F registers. -/
theorem blockReg_odd : ∀ (rd : RegField) (k : BitVec 3), (blockReg rd k).toNat % 2 = rd.toNat % 2 := by decide

theorem State.advance_writeBlock (s : State) (rd : RegField) (p : Nat → Word) :
    (s.writeBlock rd p).advance = s.advance.writeBlock rd p :=
  (List.foldl_hom State.advance fun t _ => (State.advance_writeFD t _ _).symm).symm

theorem readFD_foldl_writeFD_other {r : Nat → RegField} {p : Nat → Word} {ks : List Nat} (h : ∀ k ∈ ks, g ≠ r k) :
    (ks.foldl (fun t k => t.writeFD (r k) (p k)) u).readFD g = u.readFD g := by
  induction ks generalizing u with
  | nil => rfl
  | cons k ks ih =>
    obtain ⟨hk, hks⟩ := List.forall_mem_cons.1 h
    exact (ih hks).trans (State.readFD_writeFD_other hk u _)

/-- Registers written in a row, no two the same, all hold what was written. -/
theorem readFD_foldl_writeFD {r : Nat → RegField} {p : Nat → Word} {ks : List Nat}
    (h : ks.Pairwise fun j k => r j ≠ r k) {k : Nat} (hk : k ∈ ks) :
    (ks.foldl (fun t k => t.writeFD (r k) (p k)) u).readFD (r k) = p k := by
  induction ks generalizing u with
  | nil => cases hk
  | cons j ks ih =>
    obtain ⟨hj, hks⟩ := List.pairwise_cons.1 h
    obtain rfl | hmem := List.mem_cons.1 hk
    · exact (readFD_foldl_writeFD_other hj).trans (State.readFD_writeFD_same u _ _)
    · exact ih hks hmem

theorem State.readFD_writeBlock (u : State) (rd : RegField) (p : Nat → Word) (k : Fin 8) :
    (u.writeBlock rd p).readFD (blockReg rd (BitVec.ofNat 3 k.val)) = p k.val := by
  refine readFD_foldl_writeFD (r := fun k => blockReg rd (BitVec.ofNat 3 k)) ?_ (List.mem_range.2 k.isLt)
  have hdistinct : (List.range 8).Pairwise fun j k => BitVec.ofNat 3 j ≠ BitVec.ofNat 3 k := by decide
  exact hdistinct.imp fun hne => mt (blockReg_inj rd _ _) hne

/-- Doubles written into one half, at least one of them, change the F registers and that half's dirty bit alone. -/
theorem foldl_writeFD_rest {r : Nat → RegField} (hr : ∀ k, (r k).toNat % 2 = rd.toNat % 2) (p : Nat → Word) (j : Nat)
    (ks : List Nat) (u : State) :
    ∃ fregs, (j :: ks).foldl (fun t k => t.writeFD (r k) (p k)) u = { u with fregs }.markDouble rd := by
  induction ks generalizing j u with
  | nil =>
    refine ⟨(u.writeFD (r j) (p j)).fregs, ?_⟩
    rw [List.foldl_cons, List.foldl_nil, State.writeFD_rest, State.markDouble_eq, State.markDouble_eq, hr]
  | cons k ks ih =>
    obtain ⟨fregs, h⟩ := ih k (u.writeFD (r j) (p j))
    refine ⟨fregs, ?_⟩
    rw [List.foldl_cons, h, State.writeFD_rest, State.markDouble_eq, State.markDouble_eq, State.markDouble_eq, hr]
    split <;> rfl

theorem State.writeBlock_rest (u : State) (rd : RegField) (p : Nat → Word) :
    u.writeBlock rd p = { u with fregs := (u.writeBlock rd p).fregs }.markDouble rd := by
  obtain ⟨fregs, h⟩ := foldl_writeFD_rest (fun k => blockReg_odd rd (BitVec.ofNat 3 k)) p 0 [1, 2, 3, 4, 5, 6, 7] u
  have hblock : u.writeBlock rd p = { u with fregs }.markDouble rd := h
  rw [hblock, State.markDouble_fregs]

/-- Outside its bank of sixteen a block write changes no F register. -/
theorem State.writeBlock_fregs_other (u : State) (p : Nat → Word) {i : Fin 64}
    (h : i.val / 16 ≠ 2 * (rd.toNat % 2) + rd.toNat / 16) : (u.writeBlock rd p).fregs.get i = u.fregs.get i := by
  by_contra hne
  have hwrites : Updates (.ldblockf rd 0#5 0#8 0#5) u (u.writeBlock rd p) := updates_writeBlock rfl p .refl
  exact h (mem_bankOf.1 (hwrites.fregs i hne))

theorem loadsBlock_writeBlock (u : State) (hb : blockRegister rd) {pa : Nat} {little : Bool} {p : Nat → Word}
    (hp : ∀ k, p k = BitVec.ofNat 64 (valueAt u.mem (pa + 8 * k) 8 little)) :
    LoadsBlock u (u.writeBlock rd p) rd pa little where
  values := fun k => by rw [← blockReg_eq rd k hb, State.readFD_writeBlock, hp]
  others := fun i h => State.writeBlock_fregs_other u p h
  memory := fun a => by rw [State.writeBlock_rest, State.markDouble_mem]
  rest := (State.writeBlock_rest u rd p).trans (State.markDouble_eq _ rd)

/-- The bytes of the eight registers that a block store reads. -/
theorem flatMap_readBlock (s : State) (hb : blockRegister rd) (little : Bool) :
    (s.readBlock rd).flatMap (fun v => bytesOf v.toNat 8 little) = blockBytes s rd little := by
  have hregs : s.readBlock rd = (List.range 8).map fun k => s.readFD (rd + BitVec.ofNat 5 (2 * k)) :=
    List.map_congr_left fun k hk => congrArg s.readFD (blockReg_eq rd ⟨k, List.mem_range.1 hk⟩ hb)
  rw [hregs, List.flatMap_map, blockBytes]

end Sys2Proof.Machine
end

section
/-!
PROOFS. The loads and stores of F registers and of FSR, with the FPU enabled (43_fp_loadstore.md R662 to R686), and FSR as a
word (10_state.md R80 to R92): `FloatingPointLoadsAndStores`.
-/

namespace Sys2Proof.Machine

variable {s : State} {a : Access} {rd rs1 : RegField} {o : AsiOp2} {pa : Nat} {little : Bool}

/-! ## FSR as a word -/

theorem toNat_append_eq_add {m n : Nat} (x : BitVec m) (y : BitVec n) : (x ++ y).toNat = x.toNat * 2 ^ n + y.toNat := by
  rw [BitVec.toNat_append, ← Nat.shiftLeft_add_eq_or_of_lt y.isLt, Nat.shiftLeft_eq]

/-- Each field stands at its place, and ns, ver, qne and the reserved bits are 0 (10_state.md R80). -/
theorem Fsr.toNat_bits (f : Fsr) :
    f.bits.toNat =
      f.cexc.toNat + f.aexc.toNat * 2 ^ 5 + f.fcc0.toNat * 2 ^ 10 + f.ftt.toNat * 2 ^ 14 + f.tem.toNat * 2 ^ 23 +
        f.rd.toNat * 2 ^ 30 + f.fcc1.toNat * 2 ^ 32 + f.fcc2.toNat * 2 ^ 34 + f.fcc3.toNat * 2 ^ 36 := by
  simp only [Fsr.bits, Config.fsrVer, toNat_append_eq_add, BitVec.toNat_ofNat]
  omega

/-- A field of the low word is the same in the doubleword. -/
theorem extractLsb'_ofNat_low {i k n : Nat} (h : i + k ≤ 32) :
    (BitVec.ofNat 64 n).extractLsb' i k = (BitVec.ofNat 32 n).extractLsb' i k := by
  refine BitVec.eq_of_getLsbD_eq fun j hj => ?_
  have h32 : i + j < 32 := by omega
  have h64 : i + j < 64 := by omega
  simp only [BitVec.getLsbD_extractLsb', BitVec.getLsbD_ofNat, h32, h64]

/-- LDFSR takes its fields from the low word alone. -/
theorem Fsr.load32_eq (f : Fsr) (n : Nat) :
    f.load32 (BitVec.ofNat 64 n) =
      let w := BitVec.ofNat 32 n
      { f with
        rd := w.extractLsb' 30 2, tem := w.extractLsb' 23 5, fcc0 := w.extractLsb' 10 2, aexc := w.extractLsb' 5 5,
        cexc := w.extractLsb' 0 5 } := by
  have hfield {i k : Nat} (h : i + k ≤ 32) := extractLsb'_ofNat_low (n := n) h
  simp only [Fsr.load32]
  rw [hfield (i := 30) (by decide), hfield (i := 23) (by decide), hfield (i := 10) (by decide),
    hfield (i := 5) (by decide), hfield (i := 0) (by decide)]

/-! ## F registers -/

section Enabled

variable (hf : s.fpEnabled = true)
include hf

theorem loadSingle_writes (hd : dataAccess s a = .memory pa little) (hn : a.size ≤ 8) :
    ∃ t, loadSingle s a rd = .next t ∧
      WritesFS s.advance t rd (BitVec.ofNat 32 (valueAt s.mem pa a.size little)) := by
  rw [loadSingle, withFpDest_of_enabled hf, loadValue_memory hd, Memory.readInt_eq _ _ _ hn,
    BitVec.setWidth_ofNat_of_le (by decide)]
  exact ⟨_, rfl, writesFS_writeFS s.advance rd _⟩

theorem loadDouble_writes (hd : dataAccess s a = .memory pa little) (hn : a.size ≤ 8) :
    ∃ t, loadDouble s a rd = .next t ∧
      WritesFD s.advance t rd (BitVec.ofNat 64 (valueAt s.mem pa a.size little)) := by
  rw [loadDouble, withFpDest_of_enabled hf, loadValue_memory hd, Memory.readInt_eq _ _ _ hn, complete_eq,
    State.advance_writeFD]
  exact ⟨_, rfl, writesFD_writeFD s.advance rd _⟩

theorem storeSingle_stores (hm : Memory.wf s.mem) (hd : dataAccess s a = .memory pa little) :
    ∃ t, storeSingle s a rd = .next t ∧
      StoresBytes s.advance t pa (bytesOf (s.readFS rd).toNat a.size little) := by
  rw [storeSingle, withFp_of_enabled hf, storeValue_memory hd]
  exact ⟨_, rfl, storesBytes_writeInt (u := s.advance) hm pa little
    (congrArg (· % 256 ^ a.size) (BitVec.toNat_setWidth_of_le (by decide)))⟩

theorem storeDouble_stores (hm : Memory.wf s.mem) (hd : dataAccess s a = .memory pa little) :
    ∃ t, storeDouble s a rd = .next t ∧
      StoresBytes s.advance t pa (bytesOf (s.readFD rd).toNat a.size little) := by
  rw [storeDouble, withFp_of_enabled hf, storeValue_memory hd]
  exact ⟨_, rfl, storesBytes_writeInt (u := s.advance) hm pa little rfl⟩

/-! ## FSR -/

theorem loadFsr_eq (load : Fsr → Word → Fsr) (hd : dataAccess s a = .memory pa little) (hn : a.size ≤ 8) :
    withFp s (loadValue s a fun v => complete (s.setFsr (load s.fsr v))) =
      .next { s.advance with fsr := load s.fsr (BitVec.ofNat 64 (valueAt s.mem pa a.size little)) } := by
  rw [withFp_of_enabled hf, loadValue_memory hd, Memory.readInt_eq _ _ _ hn]
  rfl

theorem storeFsr_stores (hm : Memory.wf s.mem) (hd : dataAccess s a = .memory pa little) :
    ∃ t, withFp s (storeValue s a s.fsr.bits fun t => complete t.clearFtt) = .next t ∧
      StoresBytes { s.advance with fsr := { s.fsr with ftt := 0#3 } } t pa (bytesOf s.fsr.bits.toNat a.size little) := by
  rw [withFp_of_enabled hf, storeValue_memory hd]
  exact ⟨_, rfl, storesBytes_writeInt (u := { s.advance with fsr := { s.fsr with ftt := 0#3 } }) hm pa little rfl⟩

/-! ## The instructions whose ASI decides what they are -/

theorem execLddfa_writes_double (hb : isBlockAsi (asiOf s o) = false)
    (hd : dataAccess s (altAccess s .loadD rs1 o 8) = .memory pa little) :
    ∃ t, execLddfa rd rs1 o s = .next t ∧ WritesFD s.advance t rd (BitVec.ofNat 64 (valueAt s.mem pa 8 little)) := by
  rw [execLddfa, hb, if_neg Bool.false_ne_true]
  exact loadDouble_writes hf hd (by simp)

theorem execStdfa_stores_double (hp : partialByRegister s o = false) (hb : isBlockAsi (asiOf s o) = false)
    (hm : Memory.wf s.mem) (hd : dataAccess s (altAccess s .storeD rs1 o 8) = .memory pa little) :
    ∃ t, execStdfa rd rs1 o s = .next t ∧ StoresBytes s.advance t pa (bytesOf (s.readFD rd).toNat 8 little) := by
  rw [execStdfa, hp, hb, if_neg Bool.false_ne_true, if_neg Bool.false_ne_true]
  exact storeDouble_stores hf hm hd

end Enabled

/-- Settles O47: the places of the F registers, then each instruction as the load or store of a single, a double or
FSR at its access. -/
theorem floatingPointLoadsAndStores : Obligations.FloatingPointLoadsAndStores := by
  refine ⟨fun s f => ⟨s.readFS_eq f, s.readFD_eq f⟩, fun s rd rs1 pa little hf => ?_⟩
  refine ⟨fun _ hd => ⟨?ldf, ?ldfsr⟩, fun _ hd => ?ldfa, fun _ hd => ?lddf, fun _ hb hd => ?lddfa, fun _ hd => ?ldxfsr,
    fun hm => ⟨fun _ hd => ⟨?stf, ?stfsr⟩, fun _ hd => ?stfa, fun _ hd => ?stdf, fun _ hp hb hd => ?stdfa,
      fun _ hd => ?stxfsr⟩, s.fsr.toNat_bits⟩
  case ldf | ldfa => exact loadSingle_writes hf hd (by simp)
  case lddf => exact loadDouble_writes hf hd (by simp)
  case lddfa => exact execLddfa_writes_double hf hb hd
  case ldfsr => exact Fsr.load32_eq s.fsr _ ▸ loadFsr_eq hf Fsr.load32 hd (by simp)
  case ldxfsr => exact loadFsr_eq hf Fsr.load64 hd (by simp)
  case stf | stfa => exact storeSingle_stores hf hm hd
  case stdf => exact storeDouble_stores hf hm hd
  case stdfa => exact execStdfa_stores_double hf hp hb hm hd
  case stfsr | stxfsr => exact storeFsr_stores hf hm hd

end Sys2Proof.Machine
end

section
/-!
PROOFS. Block transfers, and the short and partial transfers that are not in hardware (43_fp_loadstore.md R690 to R697):
`BlockShortAndPartialTransfers`.
-/

namespace Sys2Proof.Machine

variable {s : State} {a : Access} {rd rs1 : RegField} {o : AsiOp2} {pa : Nat} {little : Bool}

/-! ## A register that starts no block -/

theorem loadBlock_unaligned (hb : ¬blockRegister rd) (a : Access) :
    loadBlock s a rd = .next (takeTrap .illegalInstruction s) :=
  if_pos (by rw [Bool.not_eq_true', ← Bool.not_eq_true, blockAligned_iff]; exact hb)

theorem storeBlock_unaligned (hb : ¬blockRegister rd) (a : Access) :
    storeBlock s a rd = .next (takeTrap .illegalInstruction s) :=
  if_pos (by rw [Bool.not_eq_true', ← Bool.not_eq_true, blockAligned_iff]; exact hb)

/-! ## A register that starts a block -/

theorem loadBlock_aligned (hb : blockRegister rd) (a : Access) :
    loadBlock s a rd =
      withFpDest s (fun t => t.markDouble rd) (loadParts s a 8 fun p => complete (s.writeBlock rd p)) := by
  rw [loadBlock, (blockAligned_iff rd).2 hb, Bool.not_true, if_neg Bool.false_ne_true]

theorem storeBlock_aligned (hb : blockRegister rd) (a : Access) :
    storeBlock s a rd = withFp s (storeParts s a 8 (s.readBlock rd) complete) := by
  rw [storeBlock, (blockAligned_iff rd).2 hb, Bool.not_true, if_neg Bool.false_ne_true]

theorem loadBlock_loads (hf : s.fpEnabled = true) (hb : blockRegister rd) (hd : dataAccess s a = .memory pa little) :
    ∃ t, loadBlock s a rd = .next t ∧ LoadsBlock s.advance t rd pa little := by
  rw [loadBlock_aligned hb, withFpDest_of_enabled hf, loadParts_memory hd, complete_eq, State.advance_writeBlock]
  exact ⟨_, rfl, loadsBlock_writeBlock s.advance hb fun k => Memory.readInt_eq s.mem _ little le_rfl⟩

theorem storeParts_stores (hm : Memory.wf s.mem) (hd : dataAccess s a = .memory pa little) {part : Nat} {vs : List Word}
    {bs : List Byte} (hbs : vs.flatMap (fun v => bytesOf v.toNat part little) = bs) :
    ∃ t, storeParts s a part vs complete = .next t ∧ StoresBytes s.advance t pa bs := by
  rw [storeParts_memory hd, writeParts_eq, hbs]
  exact ⟨_, rfl, storesBytes_writeBytes (u := s.advance) hm pa bs⟩

theorem storeBlock_stores (hf : s.fpEnabled = true) (hb : blockRegister rd) (hd : dataAccess s a = .memory pa little)
    (hm : Memory.wf s.mem) :
    ∃ t, storeBlock s a rd = .next t ∧ StoresBytes s.advance t pa (blockBytes s rd little) := by
  rw [storeBlock_aligned hb, withFp_of_enabled hf]
  exact storeParts_stores hm hd (flatMap_readBlock s hb little)

/-! ## LDDFA and STDFA, by the ASI they name -/

theorem execLddfa_block (h : isBlockAsi (asiOf s o) = true) :
    execLddfa rd rs1 o s = loadBlock s (altAccess s .loadBlock rs1 o 64) rd := if_pos h

theorem execStdfa_partial (h : partialByRegister s o = true) :
    execStdfa rd rs1 o s = .next (takeTrap .illegalInstruction s) := if_pos h

theorem execStdfa_block (hp : partialByRegister s o = false) (h : isBlockAsi (asiOf s o) = true) :
    execStdfa rd rs1 o s = storeBlock s (altAccess s .storeBlock rs1 o 64) rd := by
  rw [execStdfa, hp, if_neg Bool.false_ne_true, if_pos h]

/-- No ASI is both a partial-store ASI and a block ASI. -/
theorem not_partialByRegister_of_isBlockAsi (h : isBlockAsi (asiOf s o) = true) : partialByRegister s o = false := by
  cases o with
  | reg => rfl
  | imm =>
    refine Bool.eq_false_iff.2 fun hp => ?_
    obtain ⟨hb, -⟩ := not_isBlockAsi_isShortAsi_of_isPartialAsi s.asi hp
    exact Bool.false_ne_true (hb.symm.trans h)

/-! ## Short and partial transfers (D23) -/

/-- A special ASI used by an instruction it is not for is refused before the alignment is looked at (22_mmu.md R1450). -/
theorem dataAccess_special_illegal (hs : a.special = true) (hl : a.legal = false) (hp : a.privileged s = true) :
    dataAccess s a = .trap .dataAccessException := by
  rw [dataAccess, hs, hl, hp]
  rfl

theorem shortOrPartial_unlisted : ∀ asi : BitVec 8, isShortAsi asi = true ∨ isPartialAsi asi = true →
    isSpecialAsi asi = true ∧ asiTable asi = none ∧ 0x80 ≤ asi.toNat := by decide

/-- The short and partial ASIs pass the check of the mode and are legal for no instruction. -/
theorem dataAccess_shortOrPartial {asi : BitVec 8} (h : isShortAsi asi = true ∨ isPartialAsi asi = true) (s : State)
    (cls : InstrClass) (addr : Word) (n : Nat) :
    dataAccess s (.explicit cls asi addr n) = .trap .dataAccessException := by
  obtain ⟨hs, ht, hn⟩ := shortOrPartial_unlisted asi h
  refine dataAccess_special_illegal hs ?_ ?_
  · simp only [Access.legal, asiLegalFor, ht]
  · cases hmode : s.mode <;> simp [Access.privileged, asiPrivileged, hmode, hn]

/-- So the trap of an instruction that makes its access with one of them is data_access_exception. -/
theorem exec_shortOrPartial {i : Instr} {cls : InstrClass} {asi : BitVec 8} {addr : Word} {n : Nat}
    (h : isShortAsi asi = true ∨ isPartialAsi asi = true) (hr : i.reachesAccess s)
    (ha : i.loadAccess s = some (.explicit cls asi addr n) ∨ i.storeAccess s = some (.explicit cls asi addr n)) :
    exec i s = .next (raiseData s (.explicit cls asi addr n) .dataAccessException) :=
  exec_refused ha hr _ (dataAccess_shortOrPartial h s cls addr n)

/-- Settles O48: a transfer with a block ASI is `loadBlock` or `storeBlock`, which check the register first; one with a
short or a partial ASI makes an access that is refused. -/
theorem blockShortAndPartialTransfers : Obligations.BlockShortAndPartialTransfers := by
  intro s rd rs1 rs2 asi imm hf
  have hlddfa (hasi : isBlockAsi s.asi = true) : exec (.lddfa rd rs1 (.imm imm)) s =
      loadBlock s (altAccess s .loadBlock rs1 (.imm imm) 64) rd := execLddfa_block hasi
  have hstdfa (hasi : isBlockAsi s.asi = true) : exec (.stdfa rd rs1 (.imm imm)) s =
      storeBlock s (altAccess s .storeBlock rs1 (.imm imm) 64) rd :=
    execStdfa_block (o := .imm imm) (not_partialByRegister_of_isBlockAsi hasi) hasi
  refine ⟨fun hb pa little => ⟨fun _ => ⟨fun hd => ?_, fun hd hm => ?_⟩, fun hasi => ⟨fun hd => ?_, fun hd hm => ?_⟩⟩,
    fun hb => ⟨?_, ?_, fun hasi => ⟨?_, ?_⟩⟩, fun hshort => ⟨?_, ?_⟩, fun hpartial => ?_,
    execStdfa_partial (o := .imm imm)⟩
  · exact loadBlock_loads hf hb hd
  · exact storeBlock_stores hf hb hd hm
  · exact hlddfa hasi ▸ loadBlock_loads hf hb hd
  · exact hstdfa hasi ▸ storeBlock_stores hf hb hd hm
  · exact loadBlock_unaligned hb _
  · exact storeBlock_unaligned hb _
  · exact (hlddfa hasi).trans (loadBlock_unaligned hb _)
  · exact (hstdfa hasi).trans (storeBlock_unaligned hb _)
  · exact exec_shortOrPartial (.inl hshort) hf (.inl rfl)
  · exact exec_shortOrPartial (.inl hshort) hf (.inr rfl)
  · exact exec_shortOrPartial (.inr hpartial) hf (.inr rfl)

end Sys2Proof.Machine
end

section
/-!
PROOFS. With the FPU off (45_fp.md R800, 43_fp_loadstore.md R662 to R697, 46_vis.md R880): `DisabledFloatingPoint`.
-/

namespace Sys2Proof.Machine

variable {s : State} {rd rs1 : RegField} {o : AsiOp2}

section Disabled

variable (hf : s.fpEnabled = false)
include hf

theorem withFpDest_markDouble_of_disabled {k : Result} :
    withFpDest s (fun t => t.markDouble rd) k = .next (takeTrap .fpDisabled (s.markDouble rd)) :=
  withFpDest_of_disabled hf

/-- Every instruction that checks the FPU before anything else, by the destination it marks. -/
theorem exec_disabled (i : Instr) :
    match i.fpuUse with
    | .none => True
    | .noDestination => exec i s = .next (takeTrap .fpDisabled s)
    | .single => exec i s = .next (takeTrap .fpDisabled s.markLower)
    | .double rd => exec i s = .next (takeTrap .fpDisabled (s.markDouble rd)) := by
  cases i with
  | stf | stfa | stdf | stshortf | stpartialf | ldfsr | ldxfsr | stfsr | stxfsr | fcmps | fcmpd | fcmpq | fcmpes |
    fcmped | fcmpeq | alignaddress | alignaddress_little | bmask | fcmple16 | fcmpne16 | fcmple32 | fcmpne32 | fcmpgt16 |
    fcmpeq16 | fcmpgt32 | fcmpeq32 | siam => exact withFp_of_disabled hf
  | ldf | ldfa | fmovs | fabss | fnegs | fsqrts | fadds | fsubs | fmuls | fdivs | fstoi | fdtoi | fqtoi | fxtos | fitos |
    fdtos | fqtos | fmovsicc | fmovsxcc | fmovsfcc | fmovrsz | fmovrslez | fmovrslz | fmovrsnz | fmovrsgz | fmovrsgez |
    fpadd16s | fpadd32s | fpsub16s | fpsub32s | fzeros | fones | fsrc1s | fsrc2s | fnot1s | fnot2s | fors | fnors | fands |
    fnands | fxors | fxnors | fornot1s | fornot2s | fandnot1s | fandnot2s => exact withFpDest_of_disabled hf
  | lddf | ldshortf | fmovd | fmovq | fabsd | fabsq | fnegd | fnegq | fsqrtd | fsqrtq | faddd | faddq | fsubd | fsubq |
    fmuld | fmulq | fdivd | fdivq | fsmuld | fdmulq | fstox | fdtox | fqtox | fxtod | fxtoq | fitod | fitoq | fstod |
    fqtod | fstoq | fdtoq | fmovdicc | fmovdxcc | fmovdfcc | fmovqicc | fmovqxcc | fmovqfcc | fmovrdz | fmovrdlez |
    fmovrdlz | fmovrdnz | fmovrdgz | fmovrdgez | fmovrqz | fmovrqlez | fmovrqlz | fmovrqnz | fmovrqgz | fmovrqgez |
    faligndata | bshuffle | fpadd16 | fpadd32 | fpsub16 | fpsub32 | fzero | fone | fsrc1 | fsrc2 | fnot1 | fnot2 | for_ |
    fnor | fand | fnand | fxor | fxnor | fornot1 | fornot2 | fandnot1 | fandnot2 =>
    exact withFpDest_markDouble_of_disabled hf
  | _ => trivial

/-! ## Block transfers, which check the register first -/

theorem loadBlock_disabled (a : Access) :
    loadBlock s a rd =
      if blockRegister rd then .next (takeTrap .fpDisabled (s.markDouble rd))
      else .next (takeTrap .illegalInstruction s) := by
  split
  next hb => rw [loadBlock_aligned hb, withFpDest_of_disabled hf]
  next hb => exact loadBlock_unaligned hb a

theorem storeBlock_disabled (a : Access) :
    storeBlock s a rd =
      if blockRegister rd then .next (takeTrap .fpDisabled s) else .next (takeTrap .illegalInstruction s) := by
  split
  next hb => rw [storeBlock_aligned hb, withFp_of_disabled hf]
  next hb => exact storeBlock_unaligned hb a

theorem execLddfa_disabled :
    execLddfa rd rs1 o s =
      if isBlockAsi (asiOf s o) = true ∧ ¬blockRegister rd then .next (takeTrap .illegalInstruction s)
      else .next (takeTrap .fpDisabled (s.markDouble rd)) := by
  by_cases hasi : isBlockAsi (asiOf s o) = true
  · rw [execLddfa_block hasi, loadBlock_disabled hf]
    by_cases hb : blockRegister rd
    · rw [if_pos hb, if_neg fun h => h.2 hb]
    · rw [if_neg hb, if_pos ⟨hasi, hb⟩]
  · rw [execLddfa, if_neg hasi, if_neg fun h => hasi h.1]
    exact withFpDest_of_disabled hf

theorem execStdfa_disabled :
    execStdfa rd rs1 o s =
      if partialByRegister s o = true ∨ isBlockAsi (asiOf s o) = true ∧ ¬blockRegister rd then
        .next (takeTrap .illegalInstruction s)
      else .next (takeTrap .fpDisabled s) := by
  by_cases hp : partialByRegister s o = true
  · rw [execStdfa_partial hp, if_pos (.inl hp)]
  · by_cases hasi : isBlockAsi (asiOf s o) = true
    · rw [execStdfa_block (Bool.eq_false_iff.2 hp) hasi, storeBlock_disabled hf]
      by_cases hb : blockRegister rd
      · rw [if_pos hb, if_neg (not_or.2 ⟨hp, fun h => h.2 hb⟩)]
      · rw [if_neg hb, if_pos (.inr ⟨hasi, hb⟩)]
    · rw [execStdfa, if_neg hp, if_neg hasi, if_neg (not_or.2 ⟨hp, fun h => hasi h.1⟩)]
      exact withFp_of_disabled hf

end Disabled

/-- Settles O56: FpCheck comes first, but after the register of a block transfer and after the ASI of STDFA. -/
theorem disabledFloatingPoint : Obligations.DisabledFloatingPoint := by
  simp only [Obligations.DisabledFloatingPoint, ← State.markDouble_eq]
  exact fun s hf => ⟨exec_disabled hf, fun rd rs1 rs2 asi o =>
    ⟨loadBlock_disabled hf _, storeBlock_disabled hf _, execLddfa_disabled hf, execStdfa_disabled hf⟩⟩

end Sys2Proof.Machine
end

section
/-!
PROOFS. SAVE, RESTORE, FLUSHW, SAVED and RESTORED (44_window_state.md R730 to R734): `SaveAndRestore`.
-/

namespace Sys2Proof.Machine

variable {s : State} {rd rs1 : RegField} {o : Op2}

/-! ## The window traps (60_exceptions.md R1025) -/

theorem Exc.toNat_tt_spill (other : Bool) (n : BitVec 3) :
    (Exc.spill other n).tt.toNat = 0x080 + 0x020 * other.toNat + 4 * n.toNat := by
  revert other n
  decide

theorem Exc.toNat_tt_fill (other : Bool) (n : BitVec 3) :
    (Exc.fill other n).tt.toNat = 0x0C0 + 0x020 * other.toNat + 4 * n.toNat := by
  revert other n
  decide

theorem State.toNat_tt_spillExc (s : State) :
    s.spillExc.tt.toNat =
      if s.win.otherwin = 0#3 then 0x080 + 4 * s.win.wstateNormal.toNat else 0x0A0 + 4 * s.win.wstateOther.toNat := by
  unfold State.spillExc
  split <;> exact Exc.toNat_tt_spill _ _

theorem State.toNat_tt_fillExc (s : State) :
    s.fillExc.tt.toNat =
      if s.win.otherwin = 0#3 then 0x0C0 + 4 * s.win.wstateNormal.toNat else 0x0E0 + 4 * s.win.wstateOther.toNat := by
  unfold State.fillExc
  split <;> exact Exc.toNat_tt_fill _ _

/-! ## SAVE and RESTORE -/

theorem WindowRegs.saved_eq (w : WindowRegs) :
    w.saved = { w with cwp := w.cwp + 1#3, cansave := w.cansave - 1#3, canrestore := w.canrestore + 1#3 } := by
  rw [WindowRegs.saved, windowAdd_next]

theorem exec_save_spill (hs : s.win.cansave = 0#3) : exec (.save rd rs1 o) s = .next (takeTrap s.spillExc s) :=
  if_pos hs

theorem exec_save_clean (hs : s.win.cansave ≠ 0#3) (hc : s.win.cleanwin = s.win.canrestore) :
    exec (.save rd rs1 o) s = .next (takeTrap .cleanWindow s) :=
  (if_neg hs).trans (if_pos hc)

theorem exec_save_moves (hs : s.win.cansave ≠ 0#3) (hc : s.win.cleanwin ≠ s.win.canrestore) :
    exec (.save rd rs1 o) s = writeBack (s.setWin s.win.saved) rd (s.readR rs1 + op2Value s o) :=
  (if_neg hs).trans (if_neg hc)

theorem exec_restore_fill (hr : s.win.canrestore = 0#3) : exec (.restore rd rs1 o) s = .next (takeTrap s.fillExc s) :=
  if_pos hr

theorem exec_restore_moves (hr : s.win.canrestore ≠ 0#3) :
    exec (.restore rd rs1 o) s = writeBack (s.setWin s.win.restored) rd (s.readR rs1 + op2Value s o) :=
  if_neg hr

/-- Replacing the window registers and advancing commute. -/
theorem State.advance_setWin (s : State) (w : WindowRegs) : (s.setWin w).advance = { s.advance with win := w } := rfl

/-! ## FLUSHW, SAVED and RESTORED -/

theorem exec_flushw_done (hs : s.win.cansave = 6#3) (i : Bool) : exec (.flushw i) s = .next s.advance :=
  if_pos ((flushw_done _).2 hs)

theorem exec_flushw_spill (hs : s.win.cansave ≠ 6#3) (i : Bool) :
    exec (.flushw i) s = .next (takeTrap s.spillExc s) :=
  if_neg (mt (flushw_done _).1 hs)

theorem exec_saved_user (hu : s.isUser = true) : exec .saved s = .next (takeTrap .privilegedOpcode s) := if_pos hu

theorem exec_restored_user (hu : s.isUser = true) : exec .restored s = .next (takeTrap .privilegedOpcode s) := if_pos hu

theorem exec_saved_counts (hu : s.isUser = false) : exec .saved s = .next (s.setWin s.win.spilled).advance :=
  if_neg (Bool.not_eq_true _ ▸ hu)

theorem exec_restored_counts (hu : s.isUser = false) : exec .restored s = .next (s.setWin s.win.filled).advance :=
  if_neg (Bool.not_eq_true _ ▸ hu)

theorem toNat_cleanwinAfterFill : ∀ c : BitVec 3, (cleanwinAfterFill c).toNat = min (c.toNat + 1) 7 := by decide

theorem WindowRegs.filled_restores {w : WindowRegs} (h : w.otherwin = 0#3) :
    w.filled =
      { w with
        canrestore := w.canrestore + 1#3, cansave := w.cansave - 1#3, cleanwin := cleanwinAfterFill w.cleanwin } :=
  if_pos h

theorem WindowRegs.filled_other {w : WindowRegs} (h : w.otherwin ≠ 0#3) :
    w.filled =
      { w with
        canrestore := w.canrestore + 1#3, otherwin := w.otherwin - 1#3, cleanwin := cleanwinAfterFill w.cleanwin } :=
  if_neg h

theorem WindowRegs.filled_canrestore (w : WindowRegs) : w.filled.canrestore = w.canrestore + 1#3 := by
  unfold WindowRegs.filled
  split <;> rfl

theorem WindowRegs.filled_cleanwin (w : WindowRegs) : w.filled.cleanwin = cleanwinAfterFill w.cleanwin := by
  unfold WindowRegs.filled
  split <;> rfl

/-- Settles O35: each instruction is one of the cases above, the windows as `saved`, `restored` and `filled` count them. -/
theorem saveAndRestore : Obligations.SaveAndRestore := by
  refine ⟨fun s rd rs1 o => ?_, fun s => ?_⟩
  · refine ⟨fun hs hc => ?_, exec_save_spill, exec_save_clean, fun hr => ?_, exec_restore_fill, s.toNat_tt_spillExc,
      s.toNat_tt_fillExc⟩
    · exact writes_of_writeBack (exec_save_moves hs hc) (WindowRegs.saved_eq s.win ▸ s.advance_setWin _) rfl
    · exact writes_of_writeBack (exec_restore_moves hr) (WindowRegs.restored_eq s.win ▸ s.advance_setWin _) rfl
  · refine ⟨fun i hs => exec_flushw_done hs i, fun i hs => exec_flushw_spill hs i,
      fun hu => ⟨exec_saved_user hu, exec_restored_user hu⟩, fun hu => ⟨exec_saved_counts hu, _,
        exec_restored_counts hu, s.win.filled_canrestore, ?_, fun h => ?_, fun h => ?_, ?_⟩⟩
    · exact s.win.filled_cleanwin ▸ toNat_cleanwinAfterFill _
    · exact (WindowRegs.filled_restores h).symm ▸ ⟨rfl, h⟩
    · exact (WindowRegs.filled_other h).symm ▸ ⟨rfl, rfl⟩
    · exact congrArg (fun w => { s.advance with win := w }) s.win.filled_rest

end Sys2Proof.Machine
end

section
/-!
PROOFS. What stands before an access to a state register: the mode, a lock, the FPU (44_window_state.md R739, R743, R759,
R771): `ForbiddenStateRegisterAccesses`.
-/

namespace Sys2Proof.Machine

variable {s : State}

/-! ## The checks -/

section Checks

variable {k : Result} {locked : Bool}

theorem privilegedOnly_of_user (h : s.isUser = true) : privilegedOnly s k = .next (takeTrap .privilegedOpcode s) :=
  if_pos h

theorem privilegedOnly_of_not_user (h : s.isUser = false) : privilegedOnly s k = k := if_neg (Bool.not_eq_true _ ▸ h)

theorem hyperOnly_of_hpriv (h : s.hpstate.hpriv = true) : hyperOnly s k = k := if_pos h

theorem hyperOnly_of_not_hpriv (h : s.hpstate.hpriv = false) : hyperOnly s k = .next (takeTrap .illegalInstruction s) :=
  if_neg (Bool.not_eq_true _ ▸ h)

theorem unlessLocked_of_locked (hu : s.isUser = true) (hl : locked = true) :
    unlessLocked s locked k = .next (takeTrap .privilegedAction s) :=
  if_pos (by rw [hu, hl]; rfl)

theorem unlessLocked_of_open (h : s.isUser = false ∨ locked = false) : unlessLocked s locked k = k :=
  if_neg (by rcases h with h | h <;> simp [h])

end Checks

/-! ## The registers of the trap stack (44_window_state.md R775, R785) -/

theorem privPerTrapLevel_iff {pr : PrivReg} :
    privPerTrapLevel pr = true ↔ pr ∈ [PrivReg.tpc, .tnpc, .tstate, .tt] := by
  cases pr <;> decide

theorem hyperPerTrapLevel_iff {hpr : HyperReg} : hyperPerTrapLevel hpr = true ↔ hpr = .htstate := by
  cases hpr <;> decide

/-- The check of an access to a register of the trap stack at TL = 0. -/
theorem absent_iff {perLevel : Bool} : (perLevel && s.tl.val == 0) = true ↔ perLevel = true ∧ s.tl = 0 := by
  rw [Bool.and_eq_true, beq_iff_eq, Fin.val_eq_zero_iff]

/-! ## RDPR and WRPR, RDHPR and WRHPR -/

section Registers

variable {pr : PrivReg} {hpr : HyperReg} {rd rs1 : RegField} {o : Op2}

theorem exec_rdpr_absent (hu : s.isUser = false) (hl : s.tl = 0) (hp : pr ∈ [PrivReg.tpc, .tnpc, .tstate, .tt]) :
    exec (.rdpr rd pr) s = .next (takeTrap .illegalInstruction s) :=
  (privilegedOnly_of_not_user hu).trans (if_pos (absent_iff.2 ⟨privPerTrapLevel_iff.2 hp, hl⟩))

theorem exec_wrpr_absent (hu : s.isUser = false) (hl : s.tl = 0) (hp : pr ∈ [PrivReg.tpc, .tnpc, .tstate, .tt]) :
    exec (.wrpr pr rs1 o) s = .next (takeTrap .illegalInstruction s) := by
  have htick : ¬(pr = .tick ∧ s.hpstate.hpriv = false) := fun h => absurd (h.1 ▸ hp) (by decide)
  exact (privilegedOnly_of_not_user hu).trans
    ((if_neg htick).trans (if_pos (absent_iff.2 ⟨privPerTrapLevel_iff.2 hp, hl⟩)))

theorem exec_wrpr_tick_below (hu : s.isUser = false) (hh : s.hpstate.hpriv = false) :
    exec (.wrpr .tick rs1 o) s = .next (takeTrap .illegalInstruction s) :=
  (privilegedOnly_of_not_user hu).trans (if_pos ⟨rfl, hh⟩)

theorem exec_rdhpr_absent (hh : s.hpstate.hpriv = true) (hl : s.tl = 0) :
    exec (.rdhpr rd .htstate) s = .next (takeTrap .illegalInstruction s) :=
  (hyperOnly_of_hpriv hh).trans (if_pos (absent_iff.2 ⟨rfl, hl⟩))

theorem exec_wrhpr_absent (hh : s.hpstate.hpriv = true) (hl : s.tl = 0) :
    exec (.wrhpr .htstate rs1 o) s = .next (takeTrap .illegalInstruction s) :=
  (hyperOnly_of_hpriv hh).trans ((if_neg (by decide)).trans (if_pos (absent_iff.2 ⟨rfl, hl⟩)))

/-- Where the register exists, WRPR and the others reach it. -/
theorem exec_rdpr_present (hu : s.isUser = false) (hl : s.tl = 0 → pr ∉ [PrivReg.tpc, .tnpc, .tstate, .tt]) :
    exec (.rdpr rd pr) s = writeBack s rd (prRead s pr) :=
  (privilegedOnly_of_not_user hu).trans
    (if_neg fun h => hl (absent_iff.1 h).2 (privPerTrapLevel_iff.1 (absent_iff.1 h).1))

theorem exec_wrpr_present (hu : s.isUser = false) (hl : s.tl = 0 → pr ∉ [PrivReg.tpc, .tnpc, .tstate, .tt])
    (ht : pr = .tick → s.hpstate.hpriv = true) :
    exec (.wrpr pr rs1 o) s = .next (prWrite s (wrValue s rs1 o) pr).advance := by
  have htick : ¬(pr = .tick ∧ s.hpstate.hpriv = false) := fun h => by simp [ht h.1] at h
  exact (privilegedOnly_of_not_user hu).trans ((if_neg htick).trans
    (if_neg fun h => hl (absent_iff.1 h).2 (privPerTrapLevel_iff.1 (absent_iff.1 h).1)))

theorem exec_rdhpr_present (hh : s.hpstate.hpriv = true) (hl : hpr = .htstate → s.tl ≠ 0) :
    exec (.rdhpr rd hpr) s = writeBack s rd (hprRead s hpr) :=
  (hyperOnly_of_hpriv hh).trans
    (if_neg fun h => hl (hyperPerTrapLevel_iff.1 (absent_iff.1 h).1) (absent_iff.1 h).2)

theorem exec_wrhpr_present (hh : s.hpstate.hpriv = true) (hl : hpr = .htstate → s.tl ≠ 0) (hv : hpr ≠ .hver) :
    exec (.wrhpr hpr rs1 o) s = .next (hprWrite s (wrValue s rs1 o) hpr).advance :=
  (hyperOnly_of_hpriv hh).trans ((if_neg hv).trans
    (if_neg fun h => hl (hyperPerTrapLevel_iff.1 (absent_iff.1 h).1) (absent_iff.1 h).2))

end Registers

/-- The accesses that nonprivileged mode may not make (44_window_state.md R739, R759). -/
theorem exec_privileged_access (hu : s.isUser = true) (rd rs1 : RegField) (o : Op2) :
    ∀ i ∈ [Instr.rdpcr rd, .rdsoftint rd, .rdtick_cmpr rd, .rdstick_cmpr rd, .wrpcr rs1 o, .wrsoftint rs1 o,
      .wrsoftint_set rs1 o, .wrsoftint_clr rs1 o, .wrtick_cmpr rs1 o, .wrstick_cmpr rs1 o],
      exec i s = .next (takeTrap .privilegedOpcode s) := by
  simp only [List.forall_mem_cons, List.not_mem_nil, false_implies, implies_true, and_true]
  and_intros <;> exact privilegedOnly_of_user hu

/-- Settles O39: each check is the first thing its instruction does, and the mode comes before the register. -/
theorem forbiddenStateRegisterAccesses : Obligations.ForbiddenStateRegisterAccesses := by
  refine fun s rd rs1 o => ⟨fun hu => ⟨exec_privileged_access hu rd rs1 o, fun pr => ?_, fun hl => ?_, fun hl => ?_,
    fun hl => ?_⟩, fun hh => hyperOnly_of_not_hpriv hh, fun hu hl pr hp => ?_, fun hh hl => ?_, fun hm => ?_,
    fun hf => ?_⟩
  · exact ⟨privilegedOnly_of_user hu, privilegedOnly_of_user hu⟩
  · exact unlessLocked_of_locked hu hl
  · exact unlessLocked_of_locked hu hl
  · exact ⟨unlessLocked_of_locked hu hl, unlessLocked_of_locked hu hl⟩
  · exact ⟨exec_rdpr_absent hu hl hp, exec_wrpr_absent hu hl hp⟩
  · exact ⟨exec_rdhpr_absent hh hl, exec_wrhpr_absent hh hl⟩
  · obtain ⟨hh, hu⟩ := State.mode_privileged_iff.1 hm
    exact exec_wrpr_tick_below hu hh
  · exact ⟨withFp_of_disabled hf, withFp_of_disabled hf⟩

end Sys2Proof.Machine
end

section
/-!
PROOFS. The state registers as words (10_state.md R108 to R125; 11_state_privileged.md R172 to R201), and what the reads of
the ancillary state registers give (44_window_state.md R740 to R752): `AncillaryReads`.
-/

namespace Sys2Proof.Machine

/-! ## The fields of a word at their places -/

theorem CounterReg.toNat_bits (c : CounterReg) : c.bits.toNat = c.npt.toNat * 2 ^ 63 + c.counter.toNat := by
  rw [CounterReg.bits, toNat_append_eq_add, BitVec.toNat_ofBool]

theorem CompareReg.toNat_bits (c : CompareReg) : c.bits.toNat = c.intDis.toNat * 2 ^ 63 + c.value.toNat := by
  rw [CompareReg.bits, toNat_append_eq_add, BitVec.toNat_ofBool]

theorem Pic.toNat_bits (p : Pic) : p.bits.toNat = p.picu.toNat * 2 ^ 32 + p.picl.toNat := toNat_append_eq_add ..

theorem Fprs.toNat_bits (f : Fprs) : f.bits.toNat = 4 * f.fef.toNat + 2 * f.du.toNat + f.dl.toNat := by
  simp only [Fprs.bits, toNat_append_eq_add, BitVec.toNat_ofBool]
  omega

theorem Pcr.toNat_bits (p : Pcr) :
    p.bits.toNat =
      p.impl47.toNat * 2 ^ 32 + p.impl26.toNat * 2 ^ 17 + p.su.toNat * 2 ^ 11 + p.sl.toNat * 16 + 8 * p.impl3.toNat +
        4 * p.ut.toNat + 2 * p.st.toNat + p.priv.toNat := by
  simp only [Pcr.bits, toNat_append_eq_add, BitVec.toNat_ofBool, BitVec.toNat_ofNat]
  omega

theorem Gsr.toNat_bits (g : Gsr) :
    g.bits.toNat =
      g.mask.toNat * 2 ^ 32 + g.im.toNat * 2 ^ 27 + g.irnd.toNat * 2 ^ 25 + g.scale.toNat * 8 + g.align.toNat := by
  simp only [Gsr.bits, toNat_append_eq_add, BitVec.toNat_ofBool, BitVec.toNat_ofNat]
  omega

theorem TState.toNat_bits (t : TState) :
    t.bits.toNat =
      t.gl.toNat * 2 ^ 40 + t.ccr.toNat * 2 ^ 32 + t.asi.toNat * 2 ^ 24 + t.pstate.toNat * 2 ^ 8 + t.cwp.toNat := by
  simp only [TState.bits, toNat_append_eq_add, BitVec.toNat_ofNat]
  omega

theorem PState.toNat_bits (p : PState) :
    p.bits.toNat =
      p.tct.toNat * 2 ^ 12 + p.cle.toNat * 2 ^ 9 + p.tle.toNat * 2 ^ 8 + p.pef.toNat * 2 ^ 4 + p.am.toNat * 2 ^ 3 +
        p.priv.toNat * 2 ^ 2 + p.ie.toNat * 2 := by
  simp only [PState.bits, toNat_append_eq_add, BitVec.toNat_ofBool, BitVec.toNat_ofNat]
  omega

theorem HPState.toNat_bits (h : HPState) :
    h.bits.toNat = h.ibe.toNat * 2 ^ 10 + h.red.toNat * 2 ^ 5 + h.hpriv.toNat * 2 ^ 2 + h.tlz.toNat := by
  simp only [HPState.bits, toNat_append_eq_add, BitVec.toNat_ofBool, BitVec.toNat_ofNat]
  omega

/-! ## The reads -/

section Reads

variable {r : Result} {s : State} {rd : RegField}

/-- A read that gives the word `x` gives its value. -/
theorem reads_word {x : Word} {n : Nat} (hr : r = writeBack s rd x) (hx : x.toNat = n) :
    ∃ t, r = .next t ∧ WritesR s.advance t rd (BitVec.ofNat 64 n) :=
  writes_of_writeBack hr rfl (by rw [← hx, BitVec.ofNat_toNat, BitVec.setWidth_eq])

/-- A register of fewer bits is read with zeros above. -/
theorem reads_narrow {w n : Nat} {x : BitVec w} (hr : r = writeBack s rd (x.setWidth 64)) (hx : x.toNat = n) :
    ∃ t, r = .next t ∧ WritesR s.advance t rd (BitVec.ofNat 64 n) :=
  writes_of_writeBack hr rfl (by rw [← hx, BitVec.ofNat_toNat])

end Reads

/-- Settles O36: each read writes back its register's word, once the mode, the lock or the FPU lets it. -/
theorem ancillaryReads : Obligations.AncillaryReads := by
  refine fun s rd => ⟨reads_narrow rfl rfl, reads_narrow rfl rfl, reads_narrow rfl rfl,
    writes_of_writeBack rfl rfl (s.amMask_eq s.pc), reads_narrow rfl s.fprs.toNat_bits, fun h => ?_, fun h => ?_,
    fun h => ?_, fun hf => ?_, fun hu => ⟨?_, ?_, ?_, ?_⟩⟩
  · exact reads_word (unlessLocked_of_open h) s.tick.toNat_bits
  · exact reads_word (unlessLocked_of_open h) s.stick.toNat_bits
  · exact reads_word (unlessLocked_of_open h) s.pic.toNat_bits
  · exact reads_word (withFp_of_enabled hf) s.gsr.toNat_bits
  · exact reads_word (privilegedOnly_of_not_user hu) s.pcr.toNat_bits
  · exact reads_narrow (privilegedOnly_of_not_user hu) rfl
  · exact reads_word (privilegedOnly_of_not_user hu) s.tickCmpr.toNat_bits
  · exact reads_word (privilegedOnly_of_not_user hu) s.stickCmpr.toNat_bits

end Sys2Proof.Machine
end

section
/-!
PROOFS. What the writes of the ancillary state registers store (44_window_state.md R721, R760 to R772): `AncillaryWrites`.
-/

namespace Sys2Proof.Machine

/-! ## Registers from the fields of a word -/

theorem extractLsb'_eq_ofNat {w : Nat} (v : BitVec w) (i k : Nat) :
    v.extractLsb' i k = BitVec.ofNat k (v.toNat / 2 ^ i) :=
  BitVec.eq_of_toNat_eq (by rw [BitVec.extractLsb'_toNat, Nat.shiftRight_eq_div_pow, BitVec.toNat_ofNat])

theorem extractLsb'_zero_eq_ofNat {w : Nat} (v : BitVec w) (k : Nat) : v.extractLsb' 0 k = BitVec.ofNat k v.toNat := by
  rw [extractLsb'_eq_ofNat, Nat.pow_zero, Nat.div_one]

theorem Pic.ofBits_eq (v : Word) :
    Pic.ofBits v = { picu := BitVec.ofNat 32 (v.toNat / 2 ^ 32), picl := BitVec.ofNat 32 v.toNat } := by
  rw [Pic.ofBits, extractLsb'_eq_ofNat, extractLsb'_zero_eq_ofNat]

theorem Gsr.ofBits_eq (v : Word) :
    Gsr.ofBits v =
      { mask := BitVec.ofNat 32 (v.toNat / 2 ^ 32), im := v.getLsbD 27, irnd := BitVec.ofNat 2 (v.toNat / 2 ^ 25),
        scale := BitVec.ofNat 5 (v.toNat / 8), align := BitVec.ofNat 3 v.toNat } := by
  simp only [Gsr.ofBits, extractLsb'_eq_ofNat, Nat.reducePow, Nat.div_one]

theorem Pcr.ofBits_eq (v : Word) :
    Pcr.ofBits v =
      { impl47 := BitVec.ofNat 16 (v.toNat / 2 ^ 32), impl26 := BitVec.ofNat 10 (v.toNat / 2 ^ 17),
        su := BitVec.ofNat 6 (v.toNat / 2 ^ 11), sl := BitVec.ofNat 6 (v.toNat / 16), impl3 := v.getLsbD 3,
        ut := v.getLsbD 2, st := v.getLsbD 1, priv := v.getLsbD 0 } := by
  simp only [Pcr.ofBits, extractLsb'_eq_ofNat, Nat.reducePow]

theorem CompareReg.ofBits_eq (v : Word) :
    CompareReg.ofBits v = { intDis := v.getLsbD 63, value := BitVec.ofNat 63 v.toNat } := by
  rw [CompareReg.ofBits, extractLsb'_zero_eq_ofNat]

theorem CounterReg.ofBits_stick (v : Word) :
    CounterReg.ofBits Config.stickBits v = { npt := v.getLsbD 63, counter := BitVec.ofNat 63 v.toNat } := by
  rw [CounterReg.ofBits, implemented_stick, extractLsb'_zero_eq_ofNat]

/-- Settles O37: each write completes with the register made of WrValue's fields, once the mode, the lock or the FPU lets
it. -/
theorem ancillaryWrites : Obligations.AncillaryWrites := by
  intro s rs1 o v
  have low (k : Nat) : (wrValue s rs1 o).extractLsb' 0 k = BitVec.ofNat k v.toNat := extractLsb'_zero_eq_ofNat v k
  rw [← Pic.ofBits_eq, ← Gsr.ofBits_eq, ← Pcr.ofBits_eq, ← CompareReg.ofBits_eq, ← CounterReg.ofBits_stick]
  simp only [← low]
  refine ⟨rfl, rfl, rfl, rfl, unlessLocked_of_open, withFp_of_enabled, fun hu => ?_, hyperOnly_of_hpriv⟩
  and_intros <;> exact privilegedOnly_of_not_user hu

end Sys2Proof.Machine
end

section
/-!
PROOFS. What the privileged and hyperprivileged registers read, read back after a write, and leave alone (44_window_state.md
R775 to R791, 11_state_privileged.md R161 to R214): `PrivilegedRegisterWriteRead`.
-/

namespace Sys2Proof.Machine

/-! ## Words cut and put together -/

/-- The low bits of a word, read as a word. -/
theorem toNat_setWidth_low (v : Word) {k : Nat} (hk : k ≤ 64) :
    ((v.extractLsb' 0 k).setWidth 64).toNat = v.toNat % 2 ^ k := by
  rw [BitVec.toNat_setWidth_of_le hk, extractLsb'_zero_eq_ofNat, BitVec.toNat_ofNat]

theorem toNat_append_zero {m : Nat} (x : BitVec m) (n : Nat) : (x ++ 0#n).toNat = x.toNat * 2 ^ n := by
  rw [toNat_append_eq_add, BitVec.toNat_ofNat, Nat.zero_mod, Nat.add_zero]

/-- A register that keeps the bits from `i` upward. -/
theorem toNat_high_append_zero (v : Word) {i k : Nat} (h : k + i = 64) :
    (v.extractLsb' i k ++ 0#i).toNat = v.toNat / 2 ^ i * 2 ^ i := by
  have hfit : v.toNat / 2 ^ i < 2 ^ k := Nat.div_lt_of_lt_mul (by rw [← Nat.pow_add, Nat.add_comm, h]; exact v.isLt)
  rw [toNat_append_zero, extractLsb'_eq_ofNat, BitVec.toNat_ofNat, Nat.mod_eq_of_lt hfit]

/-- Masking the low bits of a word is masking the word. -/
theorem setWidth_low_and (v : Word) {k : Nat} (m : BitVec k) :
    (v.extractLsb' 0 k &&& m).setWidth 64 = v &&& m.setWidth 64 := by
  refine BitVec.eq_of_getLsbD_eq fun i hi => ?_
  simp only [BitVec.getLsbD_setWidth, BitVec.getLsbD_and, BitVec.getLsbD_extractLsb', Nat.zero_add, hi, decide_true,
    Bool.true_and]
  by_cases hk : i < k
  · simp [hk]
  · simp [BitVec.getLsbD_of_ge m i (by omega)]

theorem sign_append_low (v : Word) : BitVec.ofBool (v.getLsbD 63) ++ v.extractLsb' 0 63 = v :=
  (congrArg (· ++ v.extractLsb' 0 63) (bit_getLsbD v 63)).trans (append_parts2 1 63 v)

/-! ## What a register made from a word reads as -/

theorem CounterReg.bits_ofBits_tick (v : Word) : (CounterReg.ofBits Config.tickBits v).bits = v := by
  rw [CounterReg.ofBits, implemented_tick]
  exact sign_append_low v

theorem CompareReg.bits_ofBits (v : Word) : (CompareReg.ofBits v).bits = v := sign_append_low v

/-- TSTATE keeps the bits of its fields (11_state_privileged.md R172, D50). -/
theorem TState.bits_ofBits (v : Word) : (TState.ofBits v).bits = v &&& 0x000007FFFF1FFF1F#64 := by
  apply BitVec.eq_of_getLsbD_eq
  intro i hi
  simp only [TState.bits, TState.ofBits, BitVec.getLsbD_append]
  interval_cases i <;> simp

theorem PState.setWidth_bits_ofBits (v : Word) :
    (PState.ofBits (v.extractLsb' 0 13)).bits.setWidth 64 = v &&& 0x131E#64 := by
  rw [PState.bits_ofBits, setWidth_low_and]
  rfl

theorem HPState.setWidth_bits_ofBits (v : Word) :
    (HPState.ofBits (v.extractLsb' 0 11)).bits.setWidth 64 = v &&& 0x425#64 := by
  rw [HPState.bits_ofBits, setWidth_low_and]
  rfl

theorem writableTl_val (s : State) (v : Word) :
    (writableTl s v).val = min (v.toNat % 8) (if s.hpstate.hpriv then 6 else 2) := by
  simp only [writableTl, Config.maxTL, Config.maxPTL, extractLsb'_zero_eq_ofNat, BitVec.toNat_ofNat]
  split <;> omega

theorem writableGl_val (s : State) (v : Word) :
    (writableGl s v).val = min (v.toNat % 8) (if s.hpstate.hpriv then 3 else 2) := by
  simp only [writableGl, Config.maxGL, Config.maxPGL, extractLsb'_zero_eq_ofNat, BitVec.toNat_ofNat]
  split <;> omega

/-! ## What RDPR and RDHPR read (44_window_state.md R776, R786) -/

section Reads

variable {s : State}

theorem State.trapEntry_eq_get {n : Fin 6} (h : n.val + 1 = s.tl.val) : s.trapEntry = s.traps.get n :=
  congrArg s.traps.get (Fin.ext (show s.tl.val - 1 = n.val by omega))

theorem toNat_prRead_pstate :
    (prRead s .pstate).toNat =
      s.pstate.tct.toNat * 2 ^ 12 + s.pstate.cle.toNat * 2 ^ 9 + s.pstate.tle.toNat * 2 ^ 8 + s.pstate.pef.toNat * 2 ^ 4 +
        s.pstate.am.toNat * 2 ^ 3 + s.pstate.priv.toNat * 2 ^ 2 + s.pstate.ie.toNat * 2 :=
  (BitVec.toNat_setWidth_of_le (by decide)).trans s.pstate.toNat_bits

theorem toNat_hprRead_hpstate :
    (hprRead s .hpstate).toNat =
      s.hpstate.ibe.toNat * 2 ^ 10 + s.hpstate.red.toNat * 2 ^ 5 + s.hpstate.hpriv.toNat * 2 ^ 2 + s.hpstate.tlz.toNat :=
  (BitVec.toNat_setWidth_of_le (by decide)).trans s.hpstate.toNat_bits

theorem toNat_prRead_tl : (prRead s .tl).toNat = s.tl.val := by
  rw [prRead, BitVec.toNat_ofNat, Nat.mod_eq_of_lt (by omega)]

theorem toNat_prRead_gl : (prRead s .gl).toNat = s.gl.val := by
  rw [prRead, BitVec.toNat_ofNat, Nat.mod_eq_of_lt (by omega)]

theorem toNat_prRead_wstate :
    (prRead s .wstate).toNat = s.win.wstateOther.toNat * 2 ^ 3 + s.win.wstateNormal.toNat :=
  (BitVec.toNat_setWidth_of_le (by decide)).trans (toNat_append_eq_add ..)

theorem toNat_hprRead_hintp : (hprRead s .hintp).toNat = s.hsp.toNat :=
  (BitVec.toNat_setWidth_of_le (by decide)).trans (BitVec.toNat_ofBool _)

end Reads

/-! ## What WRPR and WRHPR leave alone (44_window_state.md R781, R791) -/

section Frames

variable {s : State} {v : Word}

theorem prRead_advance (s : State) (q : PrivReg) : prRead s.advance q = prRead s q := by cases q <;> rfl

theorem hprRead_advance (s : State) (q : HyperReg) : hprRead s.advance q = hprRead s q := by cases q <;> rfl

theorem prWrite_keeps (s : State) (v : Word) (pr : PrivReg) :
    (prWrite s v pr).npc = s.npc ∧ (prWrite s v pr).globals = s.globals ∧ (prWrite s v pr).windows = s.windows ∧
      (prWrite s v pr).mem = s.mem := by
  rw [prWrite_rest]
  exact ⟨rfl, rfl, rfl, rfl⟩

theorem hprWrite_keeps (s : State) (v : Word) (h : HyperReg) :
    (hprWrite s v h).npc = s.npc ∧ (hprWrite s v h).mem = s.mem := by
  rw [hprWrite_rest]
  exact ⟨rfl, rfl⟩

/-- A write of one register of the current trap-stack entry is read in that register alone. -/
theorem prRead_setTrapEntry (s : State) (e : TrapEntry) (q : PrivReg) :
    prRead (s.setTrapEntry e) q =
      match q with
      | .tpc => e.tpc
      | .tnpc => e.tnpc
      | .tstate => e.tstate.bits
      | .tt => e.tt.setWidth 64
      | q => prRead s q := by
  cases q <;> simp [prRead]

/-- A write of TL shows another trap-stack entry; every other write is read in its own register alone. -/
theorem prRead_prWrite_other {pr q : PrivReg} (hq : q ≠ pr)
    (htl : pr = .tl → q ∉ [PrivReg.tpc, .tnpc, .tstate, .tt]) : prRead (prWrite s v pr) q = prRead s q := by
  cases pr with
  | tpc | tnpc | tstate | tt =>
    rw [prWrite, prRead_setTrapEntry]
    cases q <;> simp [prRead] at hq ⊢
  | tl => cases q <;> simp [prRead, prWrite] at hq htl ⊢
  | _ => cases q <;> simp [prRead, prWrite, State.trapEntry] at hq ⊢

theorem hprRead_hprWrite_other {h q : HyperReg} (hq : q ≠ h) : hprRead (hprWrite s v h) q = hprRead s q := by
  cases h with
  | htstate =>
    cases q with
    | htstate => exact absurd rfl hq
    | _ => rfl
  | _ => cases q <;> simp [hprRead, hprWrite, State.trapEntry] at hq ⊢

theorem setTrapEntry_keeps_htstate {e : TrapEntry} (he : e.htstate = s.trapEntry.htstate) :
    (s.setTrapEntry e).trapEntry.htstate = s.trapEntry.htstate := by
  rw [State.setTrapEntry_trapEntry, he]

end Frames

/-! ## What is read back (44_window_state.md R781, R791) -/

section ReadBack

variable {s : State} {v : Word}

theorem toNat_prRead_prWrite_tpc : (prRead (prWrite s v .tpc) .tpc).toNat = v.toNat / 4 * 4 := by
  rw [prWrite, prRead_setTrapEntry]
  exact toNat_high_append_zero v rfl

theorem toNat_prRead_prWrite_tnpc : (prRead (prWrite s v .tnpc) .tnpc).toNat = v.toNat / 4 * 4 := by
  rw [prWrite, prRead_setTrapEntry]
  exact toNat_high_append_zero v rfl

theorem prRead_prWrite_tstate : prRead (prWrite s v .tstate) .tstate = v &&& 0x000007FFFF1FFF1F#64 :=
  (prRead_setTrapEntry ..).trans (TState.bits_ofBits v)

theorem toNat_prRead_prWrite_tt : (prRead (prWrite s v .tt) .tt).toNat = v.toNat % 2 ^ 9 := by
  rw [prWrite, prRead_setTrapEntry]
  exact toNat_setWidth_low v (by decide)

theorem toNat_prRead_prWrite_wstate : (prRead (prWrite s v .wstate) .wstate).toNat = v.toNat % 64 := by
  have hfields : v.extractLsb' 3 3 ++ v.extractLsb' 0 3 = v.extractLsb' 0 6 :=
    BitVec.extractLsb'_append_extractLsb'_eq_extractLsb' rfl
  exact (congrArg (fun x => (x.setWidth 64).toNat) hfields).trans (toNat_setWidth_low v (by decide))

theorem toNat_hprRead_hprWrite_htstate : (hprRead (hprWrite s v .htstate) .htstate).toNat = v.toNat % 2 ^ 11 := by
  rw [hprWrite, hprRead, State.setTrapEntry_trapEntry]
  exact toNat_setWidth_low v (by decide)

/-- HINTP holds one bit. -/
theorem toNat_hprRead_hprWrite_hintp : (hprRead (hprWrite s v .hintp) .hintp).toNat = v.toNat % 2 := by
  rw [toNat_hprRead_hintp, hprWrite, getLsbD_zero_eq_decide]
  rcases Nat.mod_two_eq_zero_or_one v.toNat with h | h <;> simp [h]

end ReadBack

/-- Settles O38: the words field by field, then each write as its frame and what is read back. -/
theorem privilegedRegisterWriteRead : Obligations.PrivilegedRegisterWriteRead := by
  refine ⟨fun s => ?_, fun s pr rd rs1 o hu hl => ?_, fun s h rd rs1 o => ?_⟩
  · intro pstate hpstate
    refine ⟨fun n hn => ?_, s.pstate.toNat_bits, toNat_prRead_pstate, s.hpstate.toNat_bits, toNat_hprRead_hpstate,
      s.tick.toNat_bits, toNat_append_zero s.tba 15, toNat_prRead_tl, ?_, ?_, ?_, ?_, ?_, ?_, toNat_prRead_wstate,
      toNat_prRead_gl, toNat_hprRead_hintp, toNat_append_zero s.htba 14, s.hstickCmpr.toNat_bits⟩
    · rw [← State.trapEntry_eq_get hn]
      exact ⟨rfl, rfl, TState.toNat_bits _, BitVec.toNat_setWidth_of_le (by decide),
        BitVec.toNat_setWidth_of_le (by decide)⟩
    all_goals exact BitVec.toNat_setWidth_of_le (by decide)
  · intro v
    refine ⟨writes_of_writeBack (exec_rdpr_present hu hl) rfl rfl, fun ht => ⟨_, exec_wrpr_present hu hl ht, ?_⟩⟩
    obtain ⟨hnpc, hglobals, hwindows, hmem⟩ := prWrite_keeps s v pr
    refine ⟨hnpc, congrArg (· + 4#64) hnpc, hglobals, hwindows, hmem,
      fun q hq htl => (prRead_advance _ q).trans (prRead_prWrite_other hq htl), ?_, ?_⟩
    · cases pr with
      | tpc | tnpc | tstate | tt =>
        exact ⟨rfl, setTrapEntry_keeps_htstate rfl, fun n hn =>
          State.setTrapEntry_other _ (fun h0 => hl h0 (by decide)) hn⟩
      | _ => rfl
    · rw [prRead_advance]
      cases pr with
      | tpc => exact toNat_prRead_prWrite_tpc
      | tnpc => exact toNat_prRead_prWrite_tnpc
      | tstate => exact congrArg BitVec.toNat prRead_prWrite_tstate
      | tt => exact toNat_prRead_prWrite_tt
      | tick => exact congrArg BitVec.toNat (CounterReg.bits_ofBits_tick v)
      | tba => exact toNat_high_append_zero v rfl
      | pstate => exact congrArg BitVec.toNat (PState.setWidth_bits_ofBits v)
      | tl => exact toNat_prRead_tl.trans (writableTl_val s v)
      | gl => exact toNat_prRead_gl.trans (writableGl_val s v)
      | wstate => exact toNat_prRead_prWrite_wstate
      | pil | cwp | cansave | canrestore | cleanwin | otherwin => exact toNat_setWidth_low v (by decide)
  · intro v
    refine ⟨fun hh => ⟨hyperOnly_of_not_hpriv hh, hyperOnly_of_not_hpriv hh⟩, fun hh hl =>
      ⟨writes_of_writeBack (exec_rdhpr_present hh hl) rfl rfl, fun hv => hv ▸ hver_eq, fun hv =>
        ⟨_, exec_wrhpr_present hh hl hv, ?_⟩⟩⟩
    obtain ⟨hnpc, hmem⟩ := hprWrite_keeps s v h
    refine ⟨hnpc, congrArg (· + 4#64) hnpc, hmem,
      fun q hq => (hprRead_advance _ q).trans (hprRead_hprWrite_other hq), ?_, ?_⟩
    · cases h with
      | hver => trivial
      | htstate =>
        have hentry := s.setTrapEntry_trapEntry { s.trapEntry with htstate := v.extractLsb' 0 11 }
        exact ⟨rfl, hentry.trans (congrArg (fun x => { s.trapEntry with htstate := x.htstate }) hentry.symm),
          fun n hn => State.setTrapEntry_other _ (hl rfl) hn⟩
      | _ => rfl
    · rw [hprRead_advance]
      cases h with
      | hpstate => exact congrArg BitVec.toNat (HPState.setWidth_bits_ofBits v)
      | htstate => exact toNat_hprRead_hprWrite_htstate
      | hintp => exact toNat_hprRead_hprWrite_hintp
      | htba => exact toNat_high_append_zero v rfl
      | hver => exact absurd rfl hv
      | hstickCmpr => exact congrArg BitVec.toNat (CompareReg.bits_ofBits v)

end Sys2Proof.Machine
end

section
/-!
PROOFS. The FPops that the hardware does not implement (45_fp.md R803, R854, R855): `UnimplementedFloatingPoint`; the moves
between F registers, which change the sign bit alone and clear cexc and ftt (45_fp.md R802, R810, R829, R832 to R844, R851):
`FloatingPointMoves`.
-/

namespace Sys2Proof.Machine

variable {s : State} {rd rs2 : RegField}

/-! ## Unimplemented FPops -/

/-- Settles O55: FpCheck passes, and unimplemented_FPop is all that is left of each meaning. -/
theorem unimplementedFloatingPoint : Obligations.UnimplementedFloatingPoint := by
  intro s hf
  simp only [List.forall_mem_cons, List.not_mem_nil, false_implies, implies_true, and_true]
  refine ⟨?_, ?_, ⟨fun _ _ _ => if_pos hf, fun _ _ _ => if_pos hf⟩, ?_, fun _ _ _ _ => if_pos hf⟩
  all_goals and_intros <;> intros <;> exact if_pos hf

/-! ## The sign bit -/

/-- Complementing the most significant bit adds its weight, modulo the width. -/
theorem xor_twoPow_eq {w : Nat} (v : BitVec (w + 1)) :
    v ^^^ BitVec.twoPow (w + 1) w = BitVec.ofNat (w + 1) (v.toNat + 2 ^ w) := by
  refine BitVec.eq_of_getLsbD_eq fun i hi => ?_
  rw [BitVec.getLsbD_xor, BitVec.getLsbD_twoPow, BitVec.getLsbD_ofNat]
  obtain rfl | hlow : i = w ∨ i < w := by omega
  · rw [Nat.add_comm v.toNat, Nat.testBit_two_pow_add_eq]
    simp [BitVec.getLsbD]
  · rw [Nat.add_comm v.toNat, Nat.testBit_two_pow_add_gt hlow]
    simp [hlow.ne', BitVec.getLsbD, hi]

/-- Clearing it leaves the remainder by its weight. -/
theorem and_pred_twoPow_eq {w : Nat} (v : BitVec (w + 1)) :
    v &&& BitVec.ofNat (w + 1) (2 ^ w - 1) = BitVec.ofNat (w + 1) (v.toNat % 2 ^ w) := by
  refine BitVec.eq_of_toNat_eq ?_
  have hpow : 2 ^ (w + 1) = 2 * 2 ^ w := Nat.pow_succ'
  have hmod := Nat.mod_lt v.toNat (Nat.two_pow_pos w)
  rw [BitVec.toNat_and, BitVec.toNat_ofNat, BitVec.toNat_ofNat, Nat.mod_eq_of_lt (a := 2 ^ w - 1) (by omega),
    Nat.and_two_pow_sub_one_eq_mod, Nat.mod_eq_of_lt (a := v.toNat % 2 ^ w) (by omega)]

/-! ## FSR written with a double register -/

theorem State.writeFD_setFsr_advance (s : State) (f : RegField) (v : Word) (r : Fsr) :
    ((s.writeFD f v).setFsr r).advance = { s.advance with fsr := r }.writeFD f v := by
  unfold State.writeFD State.markDouble
  split <;> rfl

/-! ## The moves -/

/-- The next state of a move that is not made: it advances, with cexc and ftt clear and aexc kept (45_fp.md R802). -/
abbrev State.fmoved (s : State) : State := { s.advance with fsr := { s.fsr with cexc := 0#5, ftt := 0#3 } }

theorem fpMoveSingle_writes (hf : s.fpEnabled = true) {v w : HWord} (hv : v = w) :
    ∃ t, fpMoveSingle s rd v = .next t ∧ WritesFS s.fmoved t rd w :=
  hv ▸ ⟨_, withFpDest_of_enabled hf, writesFS_writeFS s.fmoved rd v⟩

theorem fpMoveDouble_writes (hf : s.fpEnabled = true) {v w : Word} (hv : v = w) :
    ∃ t, fpMoveDouble s rd v = .next t ∧ WritesFD s.fmoved t rd w := by
  rw [fpMoveDouble, withFpDest_of_enabled hf, State.clearCexcFtt, complete_eq, State.writeFD_setFsr_advance,
    State.writeFD_fsr, hv]
  exact ⟨_, rfl, writesFD_writeFD s.fmoved rd w⟩

/-- A conditional move of a single is the move of its register or changes FSR alone. -/
theorem moves_of_fpMoveSingleIf (hf : s.fpEnabled = true) {r : Result} {b : Bool} (hr : r = fpMoveSingleIf s b rd rs2) :
    (b = true → ∃ t, r = .next t ∧ WritesFS s.fmoved t rd (s.readFS rs2)) ∧ (b = false → r = .next s.fmoved) := by
  subst hr
  exact ⟨fun hb => hb ▸ fpMoveSingle_writes hf rfl, fun hb => hb ▸ withFpDest_of_enabled hf⟩

theorem moves_of_fpMoveDoubleIf (hf : s.fpEnabled = true) {r : Result} {b : Bool} (hr : r = fpMoveDoubleIf s b rd rs2) :
    (b = true → ∃ t, r = .next t ∧ WritesFD s.fmoved t rd (s.readFD rs2)) ∧ (b = false → r = .next s.fmoved) := by
  subst hr
  exact ⟨fun hb => hb ▸ fpMoveDouble_writes hf rfl, fun hb => hb ▸ withFpDest_of_enabled hf⟩

/-- The single and the double move of a register condition test it. -/
theorem exec_fmove_of_regRow : ∀ row ∈ registerConditions, ∀ (rd rs1 rs2 : RegField) (s : State),
    exec (row.moveSingle rd rs1 rs2) s = fpMoveSingleIf s (row.test (s.readR rs1).toInt) rd rs2 ∧
    exec (row.moveDouble rd rs1 rs2) s = fpMoveDoubleIf s (row.test (s.readR rs1).toInt) rd rs2 := by
  simp only [registerConditions, List.forall_mem_cons, List.not_mem_nil, false_implies, implies_true, and_true,
    ← regTest_z, ← regTest_lez, ← regTest_lz, ← regTest_nz, ← regTest_gz, ← regTest_gez]
  and_intros <;> exact fun _ _ _ _ => ⟨rfl, rfl⟩

/-- Settles O49: each move writes its value; a conditional one tests the condition of its row. -/
theorem floatingPointMoves : Obligations.FloatingPointMoves := by
  intro s rd rs2 hf
  refine ⟨fpMoveSingle_writes hf rfl, fpMoveDouble_writes hf rfl, fpMoveSingle_writes hf (and_pred_twoPow_eq _),
    fpMoveDouble_writes hf (and_pred_twoPow_eq _), fpMoveSingle_writes hf (xor_twoPow_eq _),
    fpMoveDouble_writes hf (xor_twoPow_eq _), fun row hrow => ?_, fun row hrow n => ?_, fun row hrow rs1 => ?_⟩
  · simp only [List.forall_mem_cons, List.not_mem_nil, false_implies, implies_true, and_true,
      row.holds_eq_iccTest hrow]
    exact ⟨⟨moves_of_fpMoveSingleIf hf rfl, moves_of_fpMoveSingleIf hf rfl⟩,
      ⟨moves_of_fpMoveDoubleIf hf rfl, moves_of_fpMoveDoubleIf hf rfl⟩⟩
  · have htest : fccTest row.cond (fccOf s n) = decide (fccValue s n ∈ row.accepts) := by
      rw [fccTest_of_row row hrow, fccOf_eq_fccValue]
    have hsingle := moves_of_fpMoveSingleIf (r := exec (.fmovsfcc rd n row.cond rs2) s) hf rfl
    have hdouble := moves_of_fpMoveDoubleIf (r := exec (.fmovdfcc rd n row.cond rs2) s) hf rfl
    rw [htest] at hsingle hdouble
    exact ⟨fun h => ⟨hsingle.1 (decide_eq_true h), hdouble.1 (decide_eq_true h)⟩,
      fun h => ⟨hsingle.2 (decide_eq_false h), hdouble.2 (decide_eq_false h)⟩⟩
  · obtain ⟨hs, hd⟩ := exec_fmove_of_regRow row hrow rd rs1 rs2 s
    have hsingle := moves_of_fpMoveSingleIf hf hs
    have hdouble := moves_of_fpMoveDoubleIf hf hd
    exact ⟨fun h => ⟨hsingle.1 h, hdouble.1 h⟩, fun h => ⟨hsingle.2 h, hdouble.2 h⟩⟩

end Sys2Proof.Machine
end

section
/-!
PROOFS. The delivery of a computed value and its conditions (45_fp.md R805, R806, TABLE 5-8): `FloatingPointArithmetic`.
-/

namespace Sys2Proof.Float

/-! ## Which conditions are detected together -/

/-- The conditions of one result: nv or dz alone, overflow inexact and not tiny, or neither with any tininess and
inexactness (45_fp.md R806 to R808). -/
inductive Computed.Coherent : Computed → Prop where
  | invalid (bits : Nat) : Coherent { Computed.exact bits with nv := true }
  | divByZero (bits : Nat) : Coherent { Computed.exact bits with dz := true }
  | overflow (bits : Nat) : Coherent { Computed.exact bits with ovf := true, nx := true }
  | rounded (bits : Nat) (tiny nx : Bool) : Coherent { Computed.exact bits with tiny, nx }

variable {f : Format} {m : RoundMode} {a b : Value} {r : Computed}

theorem Computed.Coherent.exact (bits : Nat) : (Computed.exact bits).Coherent := .rounded bits false false

/-- Invalid or not, with no other condition. -/
theorem Computed.Coherent.ofInvalid (bits : Nat) : ∀ nv, ({ Computed.exact bits with nv } : Computed).Coherent
  | true => .invalid bits
  | false => .exact bits

/-- The pattern has no part in it. -/
theorem Computed.Coherent.setBits (h : r.Coherent) (bits : Nat) : ({ r with bits } : Computed).Coherent := by
  cases h with
  | invalid => exact .invalid bits
  | divByZero => exact .divByZero bits
  | overflow => exact .overflow bits
  | rounded _ tiny nx => exact .rounded bits tiny nx

theorem Format.coherent_round (f : Format) (m : RoundMode) (neg : Bool) (sig : Nat) (exp : Int) :
    (f.round m neg sig exp).Coherent := by
  unfold Format.round
  extract_lets
  split
  · exact .overflow _
  · exact .rounded _ _ _

theorem Format.coherent_nanResult (h : f.nanResult a b = some r) : r.Coherent := by
  unfold Format.nanResult at h
  split at h
  · split at h
    · cases h; exact .invalid _
    · split at h
      · split at h <;> cases h
        · exact .invalid _
        · exact .exact _
      · cases h; exact .exact _
  · cases h; exact .ofInvalid _ _
  · cases h

theorem Format.coherent_getD_nanResult (h : r.Coherent) : ((f.nanResult a b).getD r).Coherent := by
  cases hnan : f.nanResult a b with
  | none => exact h
  | some c => exact Format.coherent_nanResult hnan

theorem Format.coherent_addValues (f : Format) (m : RoundMode) (a b : Value) : (f.addValues m a b).Coherent := by
  unfold Format.addValues
  split
  · split
    · exact .exact _
    · exact .invalid _
  · exact .exact _
  · exact .exact _
  · exact .exact _
  · exact f.coherent_round ..
  · exact f.coherent_round ..
  · simp only
    split
    · exact .exact _
    · exact f.coherent_round ..
  · exact .invalid _

theorem Format.coherent_mulValues (f : Format) (m : RoundMode) (a b : Value) : (f.mulValues m a b).Coherent := by
  unfold Format.mulValues
  split
  case h_1 | h_2 | h_10 => exact .invalid _
  case h_9 => exact f.coherent_round ..
  all_goals exact .exact _

theorem Format.coherent_divValues (f : Format) (m : RoundMode) (a b : Value) : (f.divValues m a b).Coherent := by
  unfold Format.divValues
  split
  case h_1 | h_2 | h_10 => exact .invalid _
  case h_7 => exact .divByZero _
  case h_9 => exact f.coherent_round ..
  all_goals exact .exact _

theorem Format.coherent_add (f : Format) (m : RoundMode) (a b : Nat) : (f.add m a b).Coherent :=
  Format.coherent_getD_nanResult (f.coherent_addValues ..)

theorem Format.coherent_sub (f : Format) (m : RoundMode) (a b : Nat) : (f.sub m a b).Coherent :=
  Format.coherent_getD_nanResult (f.coherent_addValues ..)

theorem Format.coherent_mul (f : Format) (m : RoundMode) (a b : Nat) : (f.mul m a b).Coherent :=
  Format.coherent_getD_nanResult (f.coherent_mulValues ..)

theorem Format.coherent_div (f : Format) (m : RoundMode) (a b : Nat) : (f.div m a b).Coherent :=
  Format.coherent_getD_nanResult (f.coherent_divValues ..)

theorem coherent_singleMulDouble (m : RoundMode) (a b : Nat) : (singleMulDouble m a b).Coherent := by
  unfold singleMulDouble
  split
  next hnan => exact (Format.coherent_nanResult hnan).setBits _
  next => exact double.coherent_mulValues ..

theorem coherent_singleToDouble (m : RoundMode) (a : Nat) : (singleToDouble m a).Coherent := by
  unfold singleToDouble
  split
  · exact .ofInvalid _ _
  · exact .exact _
  · exact .exact _
  · exact double.coherent_round ..

theorem coherent_doubleToSingle (m : RoundMode) (a : Nat) : (doubleToSingle m a).Coherent := by
  unfold doubleToSingle
  split
  · exact .ofInvalid _ _
  · exact .exact _
  · exact .exact _
  · exact single.coherent_round ..

theorem Format.coherent_ofInt (f : Format) (m : RoundMode) (n : Int) : (f.ofInt m n).Coherent := by
  unfold Format.ofInt
  split
  · exact .exact _
  · exact f.coherent_round ..

/-- An integer that does not fit is invalid and not inexact (45_fp.md R857). -/
theorem Format.toInt_conditions (f : Format) (n a : Nat) :
    (f.toInt n a).2 = (true, false) ∨ ∃ nx, (f.toInt n a).2 = (false, nx) := by
  unfold Format.toInt
  extract_lets
  split
  · exact .inl rfl
  · exact .inl rfl
  · exact .inr ⟨_, rfl⟩
  · extract_lets
    split
    · exact .inl rfl
    · exact .inr ⟨_, rfl⟩

theorem Format.coherent_toInt (f : Format) (n a bits : Nat) :
    ({ Computed.exact bits with nv := (f.toInt n a).2.1, nx := (f.toInt n a).2.2 } : Computed).Coherent := by
  obtain h | ⟨nx, h⟩ := f.toInt_conditions n a <;> rw [h]
  · exact .invalid bits
  · exact .rounded bits false nx

theorem RoundMode.ofBits_eq : ∀ b : BitVec 2, RoundMode.ofBits b =
    if b = 0#2 then .nearestEven else if b = 1#2 then .towardZero else if b = 2#2 then .towardPosInf
    else .towardNegInf := by decide

end Sys2Proof.Float

namespace Sys2Proof.Machine

open Sys2Proof.Float

variable {s : State} {rd : RegField} {c : Computed} {r : Result}

/-! ## Delivery -/

/-- cexc and whether to trap by TABLE 5-8: the conditions detected, or, if traps of some of them are enabled, the most
significant of those. -/
abbrev tableOutcome (tem : BitVec 5) (c : Computed) : BitVec 5 × Bool :=
  if detected tem c &&& tem = 0#5 then (detected tem c, false) else (leading (detected tem c &&& tem), true)

theorem ieeeOutcome_eq (tem : BitVec 5) (h : c.Coherent) : ieeeOutcome tem c = tableOutcome tem c := by
  cases h with
  | invalid bits =>
    have hall : ∀ tem, let c := { Computed.exact 0 with nv := true }; ieeeOutcome tem c = tableOutcome tem c := by decide
    exact hall tem
  | divByZero bits =>
    have hall : ∀ tem, let c := { Computed.exact 0 with dz := true }; ieeeOutcome tem c = tableOutcome tem c := by decide
    exact hall tem
  | overflow bits =>
    have hall : ∀ tem, let c := { Computed.exact 0 with ovf := true, nx := true };
        ieeeOutcome tem c = tableOutcome tem c := by decide
    exact hall tem
  | rounded bits tiny nx =>
    have hall : ∀ tem tiny nx, let c := { Computed.exact 0 with tiny, nx };
        ieeeOutcome tem c = tableOutcome tem c := by decide
    exact hall tem tiny nx

/-- `r` delivers `c` in `s`: it completes as `Writes` says, with cexc and aexc, or takes fp_exception_ieee_754. -/
def Delivers (s : State) (c : Computed) (Writes : State → State → Prop) (r : Result) : Prop :=
  let e := detected s.fsr.tem c
  (e &&& s.fsr.tem = 0#5 →
    ∃ t, r = .next t ∧
      Writes { s.advance with fsr := { s.fsr with cexc := e, aexc := s.fsr.aexc ||| e, ftt := 0#3 } } t) ∧
  (e &&& s.fsr.tem ≠ 0#5 →
    r = .next (takeTrap .fpExceptionIeee754
      { s with fsr := { s.fsr with cexc := leading (e &&& s.fsr.tem), ftt := 1#3 } }))

theorem fpDeliver_delivers (h : c.Coherent) (write : State → State) {Writes : State → State → Prop}
    (hfsr : (write s).fsr = s.fsr)
    (hw : ∀ f : Fsr, Writes { s.advance with fsr := f } ((write s).setFsr f).advance) :
    Delivers s c Writes (fpDeliver s c write) := by
  rw [fpDeliver, ieeeOutcome_eq _ h, hfsr, tableOutcome]
  refine ⟨fun he => ?_, fun he => ?_⟩
  · rw [if_pos he]
    exact ⟨_, rfl, hw _⟩
  · rw [if_neg he]
    rfl

theorem fpSingle_delivers (h : c.Coherent) (hr : r = fpSingle s rd c) :
    Delivers s c (fun u t => WritesFS u t rd (BitVec.ofNat 32 c.bits)) r :=
  hr ▸ fpDeliver_delivers h _ rfl fun _ => writesFS_writeFS _ rd _

theorem fpDouble_delivers (h : c.Coherent) (hr : r = fpDouble s rd c) :
    Delivers s c (fun u t => WritesFD u t rd (BitVec.ofNat 64 c.bits)) r :=
  hr ▸ fpDeliver_delivers h _ (State.writeFD_fsr ..) fun f =>
    State.writeFD_setFsr_advance s rd _ f ▸ writesFD_writeFD _ rd _

theorem ofNat_intComputed_bits (n : Nat) (r : Int × Bool × Bool) :
    BitVec.ofNat n (intComputed n r).bits = BitVec.ofInt n r.1 :=
  (BitVec.ofNat_toNat n _).trans (BitVec.setWidth_eq _)

theorem fpSingle_delivers_int {f : Format} {a : Nat} (hr : r = fpSingle s rd (intComputed 32 (f.toInt 32 a))) :
    Delivers s { Computed.exact 0 with nv := (f.toInt 32 a).2.1, nx := (f.toInt 32 a).2.2 }
      (fun u t => WritesFS u t rd (BitVec.ofInt 32 (f.toInt 32 a).1)) r := by
  have h := fpSingle_delivers (c := intComputed 32 _) (f.coherent_toInt 32 a _) hr
  rwa [ofNat_intComputed_bits] at h

theorem fpDouble_delivers_int {f : Format} {a : Nat} (hr : r = fpDouble s rd (intComputed 64 (f.toInt 64 a))) :
    Delivers s { Computed.exact 0 with nv := (f.toInt 64 a).2.1, nx := (f.toInt 64 a).2.2 }
      (fun u t => WritesFD u t rd (BitVec.ofInt 64 (f.toInt 64 a).1)) r := by
  have h := fpDouble_delivers (c := intComputed 64 _) (f.coherent_toInt 64 a _) hr
  rwa [ofNat_intComputed_bits] at h

theorem State.roundMode_eq (s : State) : s.roundMode = RoundMode.ofBits (if s.gsr.im then s.gsr.irnd else s.fsr.rd) :=
  rfl

/-- Settles O50: past FpCheck every instruction delivers its computed value, whose conditions are coherent. -/
theorem floatingPointArithmetic : Obligations.FloatingPointArithmetic := by
  intro s rd rs1 rs2 hf
  simp only [← RoundMode.ofBits_eq, ← State.roundMode_eq]
  refine ⟨fpSingle_delivers (single.coherent_add ..) (if_pos hf), fpSingle_delivers (single.coherent_sub ..) (if_pos hf),
    fpSingle_delivers (single.coherent_mul ..) (if_pos hf), fpSingle_delivers (single.coherent_div ..) (if_pos hf),
    fpDouble_delivers (double.coherent_add ..) (if_pos hf), fpDouble_delivers (double.coherent_sub ..) (if_pos hf),
    fpDouble_delivers (double.coherent_mul ..) (if_pos hf), fpDouble_delivers (double.coherent_div ..) (if_pos hf),
    fpDouble_delivers (coherent_singleMulDouble ..) (if_pos hf),
    fpDouble_delivers (coherent_singleToDouble ..) (if_pos hf),
    fpSingle_delivers (coherent_doubleToSingle ..) (if_pos hf),
    fpSingle_delivers (single.coherent_ofInt ..) (if_pos hf), fpDouble_delivers (double.coherent_ofInt ..) (if_pos hf),
    fpSingle_delivers (single.coherent_ofInt ..) (if_pos hf), fpDouble_delivers (double.coherent_ofInt ..) (if_pos hf),
    fpSingle_delivers_int (if_pos hf), fpSingle_delivers_int (if_pos hf), fpDouble_delivers_int (if_pos hf),
    fpDouble_delivers_int (if_pos hf)⟩

end Sys2Proof.Machine
end

section
/-!
SUPPORT. Floating-point patterns as a sign and a magnitude (10_state.md R75): the number of a magnitude grows strictly, the
numbers at the ends of the range, and what `unpack`, `number` and the classes of NaNs and infinities read off a pattern.
-/

namespace Sys2Proof.Float

/-! ## Formats -/

/-- A format with room for zeros, subnormal and normalized numbers and infinities, and a fraction with a quiet bit. -/
structure Format.Sound (f : Format) : Prop where
  expBits : 2 ≤ f.expBits
  fracBits : 1 ≤ f.fracBits

theorem sound_single : single.Sound := ⟨by decide, by decide⟩
theorem sound_double : double.Sound := ⟨by decide, by decide⟩

theorem sound_of_mem {f : Format} (h : f ∈ [single, double]) : f.Sound := by
  obtain rfl | rfl : f = single ∨ f = double := by simpa using h
  · exact sound_single
  · exact sound_double

variable {f : Format}

theorem Format.two_pow_expBits (hf : f.Sound) : 2 ^ f.expBits = 2 * 2 ^ (f.expBits - 1) ∧ 2 ≤ 2 ^ (f.expBits - 1) := by
  have hexp := hf.expBits
  refine ⟨?_, Nat.le_self_pow (by omega) 2⟩
  rw [← Nat.pow_succ']
  congr 1
  omega

theorem Format.signBit_eq (f : Format) : f.signBit = 2 ^ f.expBits * 2 ^ f.fracBits := pow_add ..

theorem Format.infMag_add (f : Format) : f.infMag + 2 ^ f.fracBits = f.signBit := by
  have hpos : 0 < 2 ^ f.expBits := Nat.two_pow_pos _
  rw [f.signBit_eq, Format.infMag, Nat.sub_mul, one_mul,
    Nat.sub_add_cancel (Nat.le_mul_of_pos_left _ hpos)]

theorem Format.infMag_lt_signBit (f : Format) : f.infMag < f.signBit :=
  f.infMag_add ▸ Nat.lt_add_of_pos_right (Nat.two_pow_pos _)

/-- Below the infinity there is more than one binade of normalized numbers. -/
theorem Format.two_pow_fracBits_lt_infMag (hf : f.Sound) : 2 ^ f.fracBits + 1 < f.infMag := by
  obtain ⟨hexp, htwo⟩ := Format.two_pow_expBits hf
  have hfrac : 2 ≤ 2 ^ f.fracBits := Nat.le_self_pow (by have := hf.fracBits; omega) 2
  have hmul : 3 * 2 ^ f.fracBits ≤ f.infMag := Nat.mul_le_mul_right _ (by omega)
  omega

theorem Format.one_lt_infMag (hf : f.Sound) : 1 < f.infMag :=
  lt_of_le_of_lt (by have := Nat.two_pow_pos f.fracBits; omega) (Format.two_pow_fracBits_lt_infMag hf)

theorem even_two_pow {n : Nat} (h : 1 ≤ n) : 2 ^ n % 2 = 0 := by
  obtain ⟨k, rfl⟩ := Nat.exists_eq_add_of_le' h
  rw [Nat.pow_succ, Nat.mul_mod_left]

theorem Format.infMag_even (hf : f.Sound) : f.infMag % 2 = 0 := by
  rw [Format.infMag, Nat.mul_mod, even_two_pow hf.fracBits, Nat.mul_zero]

theorem Format.signBit_even (hf : f.Sound) : f.signBit % 2 = 0 := by
  rw [f.signBit_eq, Nat.mul_mod, even_two_pow hf.fracBits, Nat.mul_zero]

/-! ## The numbers of magnitudes -/

/-- The number of a magnitude pattern, as if the exponent field had no greatest value: exponent 0 and 1 name the first
binade of units 2^(1 - bias - fracBits), each further one the next. -/
def Format.magnitude (f : Format) (k : Nat) : ℚ :=
  let binade := k / 2 ^ f.fracBits - 1
  ((k - binade * 2 ^ f.fracBits : Nat) : ℚ) * 2 ^ (f.minExp - f.fracBits + binade)

/-- Every magnitude is `s` units of a binade `D`, normalized unless `D = 0`. -/
theorem Format.exists_binade (f : Format) (k : Nat) :
    ∃ D s, k = D * 2 ^ f.fracBits + s ∧ s < 2 ^ (f.fracBits + 1) ∧ (D = 0 ∨ 2 ^ f.fracBits ≤ s) := by
  have hsplit := Nat.div_add_mod' k (2 ^ f.fracBits)
  have hmod := Nat.mod_lt k (Nat.two_pow_pos f.fracBits)
  have hsucc : 2 ^ (f.fracBits + 1) = 2 * 2 ^ f.fracBits := Nat.pow_succ'
  cases hdiv : k / 2 ^ f.fracBits with
  | zero =>
    rw [hdiv] at hsplit
    exact ⟨0, k, by omega, by omega, .inl rfl⟩
  | succ D =>
    rw [hdiv, Nat.succ_mul] at hsplit
    exact ⟨D, 2 ^ f.fracBits + k % 2 ^ f.fracBits, by omega, by omega, .inr (by omega)⟩

theorem Format.magnitude_binade (f : Format) {D s : Nat} (hs : s ≤ 2 ^ (f.fracBits + 1))
    (hD : D = 0 ∨ 2 ^ f.fracBits ≤ s) :
    f.magnitude (D * 2 ^ f.fracBits + s) = s * 2 ^ (f.minExp - f.fracBits + D) := by
  have hpos : 0 < 2 ^ f.fracBits := Nat.two_pow_pos _
  have hsucc : 2 ^ (f.fracBits + 1) = 2 * 2 ^ f.fracBits := Nat.pow_succ'
  have hdiv : (D * 2 ^ f.fracBits + s) / 2 ^ f.fracBits = D + s / 2 ^ f.fracBits := by
    rw [Nat.mul_comm, Nat.mul_add_div hpos]
  simp only [Format.magnitude, hdiv]
  obtain hsub | hnorm | rfl : s < 2 ^ f.fracBits ∨ (2 ^ f.fracBits ≤ s ∧ s < 2 * 2 ^ f.fracBits) ∨
      s = 2 * 2 ^ f.fracBits := by omega
  · obtain rfl : D = 0 := by omega
    simp [Nat.div_eq_of_lt hsub]
  · have hone : s / 2 ^ f.fracBits = 1 := Nat.div_eq_of_lt_le (by omega) (by omega)
    rw [hone, Nat.add_sub_cancel, Nat.add_sub_cancel_left]
  · have htwo : D + 2 * 2 ^ f.fracBits / 2 ^ f.fracBits - 1 = D + 1 := by
      rw [Nat.mul_div_cancel _ hpos]
      rfl
    have hrest : D * 2 ^ f.fracBits + 2 * 2 ^ f.fracBits - (D + 1) * 2 ^ f.fracBits = 2 ^ f.fracBits := by
      rw [Nat.add_mul D 1]
      omega
    rw [htwo, hrest, Nat.cast_succ, ← add_assoc, zpow_add_one₀ two_ne_zero]
    push_cast
    ring

theorem Format.magnitude_strictMono (f : Format) : StrictMono f.magnitude := by
  refine strictMono_nat_of_lt_succ fun k => ?_
  obtain ⟨D, s, rfl, hs, hD⟩ := f.exists_binade k
  rw [f.magnitude_binade hs.le hD, Nat.add_assoc, f.magnitude_binade hs (hD.imp_right fun h => by omega)]
  have hunit : (0 : ℚ) < 2 ^ (f.minExp - f.fracBits + D) := by positivity
  push_cast
  linarith

theorem Format.magnitude_le {j k : Nat} : f.magnitude j ≤ f.magnitude k ↔ j ≤ k := f.magnitude_strictMono.le_iff_le
theorem Format.magnitude_lt {j k : Nat} : f.magnitude j < f.magnitude k ↔ j < k := f.magnitude_strictMono.lt_iff_lt
theorem Format.magnitude_inj {j k : Nat} : f.magnitude j = f.magnitude k ↔ j = k :=
  f.magnitude_strictMono.injective.eq_iff

@[simp] theorem Format.magnitude_zero (f : Format) : f.magnitude 0 = 0 := by simp [Format.magnitude]

theorem Format.magnitude_nonneg (f : Format) (k : Nat) : 0 ≤ f.magnitude k :=
  f.magnitude_zero ▸ Format.magnitude_le.2 k.zero_le

/-- The smallest normalized number. -/
theorem Format.magnitude_normal (f : Format) : f.magnitude (2 ^ f.fracBits) = 2 ^ f.minExp := by
  have h := f.magnitude_binade (D := 0) (s := 2 ^ f.fracBits) (Nat.pow_le_pow_right (by decide) (by omega)) (.inl rfl)
  rw [zero_mul, zero_add] at h
  rw [h, Nat.cast_zero, add_zero, Nat.cast_pow, Nat.cast_two, ← zpow_natCast, ← zpow_add₀ two_ne_zero]
  congr 1
  ring

theorem Format.cast_two_pow_expBits (hf : f.Sound) : ((2 ^ f.expBits : Nat) : Int) = 2 * (f.bias + 1) := by
  rw [(Format.two_pow_expBits hf).1, Format.bias]
  push_cast
  ring

/-- The infinity takes the place of the number after the largest. -/
theorem Format.magnitude_infMag (hf : f.Sound) : f.magnitude f.infMag = 2 ^ (f.bias + 1) := by
  obtain ⟨hexp, htwo⟩ := Format.two_pow_expBits hf
  have hcast := Format.cast_two_pow_expBits hf
  have hmag : f.infMag = (2 ^ f.expBits - 2) * 2 ^ f.fracBits + 2 ^ f.fracBits := by
    rw [Format.infMag, ← Nat.succ_mul]
    congr 1
    omega
  rw [hmag, f.magnitude_binade (Nat.pow_le_pow_right (by decide) (by omega)) (.inr le_rfl), Nat.cast_pow, Nat.cast_two,
    ← zpow_natCast, ← zpow_add₀ two_ne_zero, Nat.cast_sub (by omega), hcast, Format.minExp]
  congr 1
  push_cast
  ring

theorem Format.magnitude_largest (hf : f.Sound) : f.magnitude (f.infMag - 1) = f.largest := by
  obtain ⟨hexp, htwo⟩ := Format.two_pow_expBits hf
  have hcast := Format.cast_two_pow_expBits hf
  have hpos : 0 < 2 ^ f.fracBits := Nat.two_pow_pos _
  have hsucc : 2 ^ (f.fracBits + 1) = 2 * 2 ^ f.fracBits := Nat.pow_succ'
  have hmag : f.infMag - 1 = (2 ^ f.expBits - 3) * 2 ^ f.fracBits + (2 ^ (f.fracBits + 1) - 1) := by
    have hthree : 2 ^ f.expBits - 1 = (2 ^ f.expBits - 3) + 2 := by omega
    rw [Format.infMag, hthree, Nat.add_mul, hsucc]
    omega
  rw [hmag, f.magnitude_binade (Nat.sub_le ..) (.inr (by omega)), Nat.cast_sub (by omega : 3 ≤ 2 ^ f.expBits), hcast,
    Nat.cast_sub Nat.one_le_two_pow, Format.largest, Format.minExp]
  have hunit : 1 - f.bias - (f.fracBits : Int) + (2 * (f.bias + 1) - ((3 : Nat) : Int)) = f.bias - f.fracBits := by
    push_cast
    ring
  rw [hunit, zpow_sub₀ two_ne_zero, zpow_natCast]
  push_cast
  field_simp
  ring

/-! ## Sign and magnitude -/

/-- A number by its sign and its absolute value. -/
def signed (neg : Bool) (q : ℚ) : ℚ := if neg then -q else q

@[simp] theorem signed_false (q : ℚ) : signed false q = q := rfl
@[simp] theorem signed_true (q : ℚ) : signed true q = -q := rfl
@[simp] theorem signed_zero (neg : Bool) : signed neg 0 = 0 := by cases neg <;> simp

theorem signed_eq_mul (neg : Bool) (q : ℚ) : signed neg q = (if neg then -1 else 1) * q := by cases neg <;> simp

@[simp] theorem signed_eq_zero {neg : Bool} {q : ℚ} : signed neg q = 0 ↔ q = 0 := by cases neg <;> simp

@[simp] theorem signed_inj {neg : Bool} {q r : ℚ} : signed neg q = signed neg r ↔ q = r := by cases neg <;> simp

@[simp] theorem abs_signed (neg : Bool) (q : ℚ) : |signed neg q| = |q| := by cases neg <;> simp

theorem abs_signed_sub (neg : Bool) (q r : ℚ) : |signed neg q - signed neg r| = |q - r| := by
  cases neg
  · rfl
  · rw [signed_true, signed_true, neg_sub_neg, abs_sub_comm]

theorem signed_neg_iff {neg : Bool} {q : ℚ} (h : 0 < q) : signed neg q < 0 ↔ neg = true := by
  cases neg <;> simp [h, h.le]

theorem Format.negative_eq_testBit (f : Format) (x : Nat) : f.negative x = x.testBit (f.expBits + f.fracBits) := by
  rw [Nat.testBit_eq_decide_div_mod_eq]
  rfl

theorem Format.pack_mod (f : Format) (neg : Bool) {mag : Nat} (h : mag < f.signBit) : f.pack neg mag % f.signBit = mag := by
  cases neg
  · rw [Format.pack, if_neg Bool.false_ne_true, Nat.zero_add, Nat.mod_eq_of_lt h]
  · rw [Format.pack, if_pos rfl, Nat.add_mod_left, Nat.mod_eq_of_lt h]

theorem Format.negative_pack (f : Format) (neg : Bool) {mag : Nat} (h : mag < f.signBit) :
    f.negative (f.pack neg mag) = neg := by
  have hpos : 0 < f.signBit := by omega
  cases neg
  · simp [Format.negative, Format.pack, Nat.div_eq_of_lt h]
  · simp [Format.negative, Format.pack, Nat.add_div_left _ hpos, Nat.div_eq_of_lt h]

theorem Format.pack_lt (f : Format) (neg : Bool) {mag : Nat} (h : mag < f.signBit) : f.pack neg mag < 2 * f.signBit := by
  unfold Format.pack
  split <;> omega

/-- A pattern is its sign bit and its magnitude. -/
theorem Format.pack_negative (f : Format) {x : Nat} (h : x < 2 * f.signBit) :
    f.pack (f.negative x) (x % f.signBit) = x := by
  have hpos : 0 < f.signBit := Nat.two_pow_pos _
  have hsplit := Nat.div_add_mod x f.signBit
  have hdiv : x / f.signBit < 2 := (Nat.div_lt_iff_lt_mul hpos).2 h
  unfold Format.pack Format.negative
  obtain h0 | h1 := Nat.le_one_iff_eq_zero_or_eq_one.1 (Nat.le_of_lt_succ hdiv)
  · rw [h0] at hsplit ⊢
    rw [if_neg (by decide)]
    omega
  · rw [h1] at hsplit ⊢
    rw [if_pos (by decide)]
    omega

theorem Format.div_mod_fields (f : Format) (x : Nat) :
    x / 2 ^ f.fracBits % 2 ^ f.expBits = x % f.signBit / 2 ^ f.fracBits ∧
      x % 2 ^ f.fracBits = x % f.signBit % 2 ^ f.fracBits := by
  rw [f.signBit_eq, Nat.mul_comm]
  exact ⟨(Nat.mod_mul_right_div_self ..).symm, (Nat.mod_mul_right_mod ..).symm⟩

/-! ## What a pattern reads as -/

/-- What a pattern reads as, by its magnitude. -/
inductive Format.Reads (f : Format) (x : Nat) : Value → Prop where
  | nan (h : f.infMag < x % f.signBit) : f.Reads x (.nan (f.negative x) (x % f.signBit - f.infMag))
  | inf (h : x % f.signBit = f.infMag) : f.Reads x (.inf (f.negative x))
  | zero (h : x % f.signBit = 0) : f.Reads x (.zero (f.negative x))
  | finite {sig : Nat} {exp : Int} (h : x % f.signBit < f.infMag) (hpos : 0 < sig) (hlt : sig < 2 ^ (f.fracBits + 1))
    (hexp : f.minExp - f.fracBits ≤ exp) (hval : f.magnitude (x % f.signBit) = sig * 2 ^ exp) :
    f.Reads x (.finite (f.negative x) sig exp)

theorem Format.reads_unpack (f : Format) (x : Nat) : f.Reads x (f.unpack x) := by
  obtain ⟨he, hm⟩ := f.div_mod_fields x
  have hinf := f.infMag_add
  have hmagLt : x % f.signBit < f.signBit := Nat.mod_lt _ (Nat.two_pow_pos _)
  have hsplit := Nat.div_add_mod' (x % f.signBit) (2 ^ f.fracBits)
  have hmod := Nat.mod_lt (x % f.signBit) (Nat.two_pow_pos f.fracBits)
  have hsucc : 2 ^ (f.fracBits + 1) = 2 * 2 ^ f.fracBits := Nat.pow_succ'
  simp only [Format.unpack, he, hm, ← f.negative_eq_testBit]
  split
  next htop =>
    rw [htop, ← Format.infMag] at hsplit
    split
    next h0 => exact .inf (by omega)
    next h0 =>
      have hfrac : x % f.signBit % 2 ^ f.fracBits = x % f.signBit - f.infMag := by omega
      rw [hfrac]
      exact .nan (by omega)
  next htop =>
    have hmag : x % f.signBit < f.infMag := by
      rw [Format.infMag, ← Nat.div_lt_iff_lt_mul (Nat.two_pow_pos _)]
      have hlt : x % f.signBit / 2 ^ f.fracBits < 2 ^ f.expBits :=
        (Nat.div_lt_iff_lt_mul (Nat.two_pow_pos _)).2 (f.signBit_eq ▸ hmagLt)
      omega
    split
    next h0 =>
      rw [h0] at hsplit
      split
      next hz => exact .zero (by omega)
      next hz =>
        refine .finite hmag (by omega) (by omega) le_rfl ?_
        have h := f.magnitude_binade (D := 0) (s := x % f.signBit % 2 ^ f.fracBits) (by omega) (.inl rfl)
        rwa [hsplit, Nat.cast_zero, add_zero] at h
    next h0 =>
      obtain ⟨D, hD⟩ := Nat.exists_eq_succ_of_ne_zero h0
      rw [hD, Nat.succ_mul] at hsplit
      have hval := f.magnitude_binade (D := D) (s := 2 ^ f.fracBits + x % f.signBit % 2 ^ f.fracBits) (by omega)
        (.inr (by omega))
      have hexp : f.minExp - f.fracBits + (D : Int) =
          ((x % f.signBit / 2 ^ f.fracBits : Nat) : Int) - f.bias - f.fracBits := by
        rw [hD, Format.minExp]
        push_cast
        ring
      rw [← Nat.add_assoc, hsplit, hexp] at hval
      exact .finite hmag (by omega) (by omega) (by omega) hval

/-- The number of a finite pattern, and that there is no other. -/
theorem Format.number_eq (f : Format) (x : Nat) :
    f.number x =
      if x % f.signBit < f.infMag then some (signed (f.negative x) (f.magnitude (x % f.signBit))) else none := by
  obtain ⟨he, hm⟩ := f.div_mod_fields x
  have hsplit := Nat.div_add_mod' (x % f.signBit) (2 ^ f.fracBits)
  have hmod := Nat.mod_lt (x % f.signBit) (Nat.two_pow_pos f.fracBits)
  have hmagLt : x % f.signBit < f.signBit := Nat.mod_lt _ (Nat.two_pow_pos _)
  have hsucc : 2 ^ (f.fracBits + 1) = 2 * 2 ^ f.fracBits := Nat.pow_succ'
  have htop : x % f.signBit / 2 ^ f.fracBits < 2 ^ f.expBits :=
    (Nat.div_lt_iff_lt_mul (Nat.two_pow_pos _)).2 (f.signBit_eq ▸ hmagLt)
  have hinf : x % f.signBit < f.infMag ↔ x % f.signBit / 2 ^ f.fracBits < 2 ^ f.expBits - 1 :=
    (Nat.div_lt_iff_lt_mul (Nat.two_pow_pos _)).symm
  have hfrac : ((2 ^ f.fracBits : Nat) : ℚ) = 2 ^ (f.fracBits : Int) := by push_cast; rw [zpow_natCast]
  have hne : (2 : ℚ) ^ f.fracBits ≠ 0 := by positivity
  simp only [Format.number, he, hm, hinf]
  by_cases hmax : x % f.signBit / 2 ^ f.fracBits = 2 ^ f.expBits - 1
  · rw [if_pos hmax, if_neg (by omega)]
  rw [if_neg hmax, if_pos (by omega : x % f.signBit / 2 ^ f.fracBits < 2 ^ f.expBits - 1)]
  split
  next h0 =>
    rw [h0] at hsplit
    have h := f.magnitude_binade (D := 0) (s := x % f.signBit % 2 ^ f.fracBits) (by omega) (.inl rfl)
    rw [hsplit, Nat.cast_zero, add_zero, Format.minExp, zpow_sub₀ two_ne_zero, zpow_natCast] at h
    rw [h, signed_eq_mul]
    congr 1
    field_simp
  next h0 =>
    obtain ⟨D, hD⟩ := Nat.exists_eq_succ_of_ne_zero h0
    rw [hD, Nat.succ_mul] at hsplit
    have h := f.magnitude_binade (D := D) (s := 2 ^ f.fracBits + x % f.signBit % 2 ^ f.fracBits) (by omega)
      (.inr (by omega))
    have hexp : f.minExp - f.fracBits + (D : Int) = ((D.succ : Nat) : Int) - f.bias - f.fracBits := by
      rw [Format.minExp]
      push_cast
      ring
    rw [← Nat.add_assoc, hsplit, hexp, zpow_sub₀ two_ne_zero, zpow_natCast] at h
    rw [h, hD, signed_eq_mul]
    congr 1
    push_cast
    field_simp

end Sys2Proof.Float
end

section
/-!
SUPPORT. `Format.round` rounds once (45_fp.md R806, R807): its result is one of the two magnitudes next to the exact value,
chosen as the direction says, and its conditions are those of that choice (`Format.rounds_round`).
-/

namespace Sys2Proof.Float

variable {f : Format} {m : RoundMode} {neg : Bool} {y : ℚ} {K rem d : Nat}

/-! ## Between two magnitudes -/

/-- `y` lies between the magnitudes K and K + 1, and `rem` of `2 ^ d` tells whether at K, and on which side of the middle. -/
structure Format.Between (f : Format) (y : ℚ) (K rem d : Nat) : Prop where
  lower : f.magnitude K ≤ y
  upper : y < f.magnitude (K + 1)
  exact : rem = 0 ↔ y = f.magnitude K
  above : 2 ^ d < 2 * rem ↔ f.magnitude K + f.magnitude (K + 1) < 2 * y
  half : 2 * rem = 2 ^ d ↔ 2 * y = f.magnitude K + f.magnitude (K + 1)

theorem Format.Between.le_iff (h : f.Between y K rem d) {k : Nat} : f.magnitude k ≤ y ↔ k ≤ K := by
  refine ⟨fun hk => ?_, fun hk => (Format.magnitude_le.2 hk).trans h.lower⟩
  exact Nat.le_of_lt_succ (Format.magnitude_lt.1 (hk.trans_lt h.upper))

/-- The magnitude rounded up to. -/
def ceiling (K rem : Nat) : Nat := K + if rem = 0 then 0 else 1

/-- The magnitude nearest, the even one of two. -/
def nearest (K rem d : Nat) : Nat := K + if 2 ^ d < 2 * rem ∨ (2 * rem = 2 ^ d ∧ K % 2 = 1) then 1 else 0

theorem Format.Between.ceiling_le_iff (h : f.Between y K rem d) {k : Nat} : y ≤ f.magnitude k ↔ ceiling K rem ≤ k := by
  unfold ceiling
  split
  next h0 => rw [h.exact.1 h0, Format.magnitude_le, Nat.add_zero]
  next h0 =>
    have hlt : f.magnitude K < y := lt_of_le_of_ne h.lower fun he => h0 (h.exact.2 he.symm)
    refine ⟨fun hk => Format.magnitude_lt.1 (hlt.trans_le hk), fun hk => ?_⟩
    exact h.upper.le.trans (Format.magnitude_le.2 hk)

/-- The distance of K and of K + 1 against any other magnitude. -/
theorem Format.Between.distances (h : f.Between y K rem d) (k : Nat) :
    (k ≤ K → y - f.magnitude K ≤ y - f.magnitude k ∧ |f.magnitude k - y| = y - f.magnitude k) ∧
    (K < k → f.magnitude (K + 1) - y ≤ f.magnitude k - y ∧ |f.magnitude k - y| = f.magnitude k - y) := by
  refine ⟨fun hk => ?_, fun hk => ?_⟩
  · have hle := Format.magnitude_le (f := f).2 hk
    exact ⟨by linarith, by rw [abs_sub_comm, abs_of_nonneg (by linarith [h.lower])]⟩
  · have hle := Format.magnitude_le (f := f).2 (Nat.succ_le_of_lt hk)
    exact ⟨by linarith, abs_of_nonneg (by linarith [h.upper])⟩

/-- No magnitude is nearer, and if another one is as near the one chosen is even. -/
theorem Format.Between.nearest_closest (h : f.Between y K rem d) (k : Nat) :
    |f.magnitude (nearest K rem d) - y| ≤ |f.magnitude k - y| ∧
      (f.magnitude k ≠ f.magnitude (nearest K rem d) → |f.magnitude k - y| = |f.magnitude (nearest K rem d) - y| →
        nearest K rem d % 2 = 0) := by
  obtain ⟨hbelow, habove⟩ := h.distances k
  obtain ⟨-, hdown⟩ := (h.distances K).1 le_rfl
  obtain ⟨-, hup⟩ := (h.distances (K + 1)).2 (Nat.lt_succ_self K)
  unfold nearest
  split
  next hchoice =>
    have hmid : f.magnitude K + f.magnitude (K + 1) ≤ 2 * y := by
      obtain hr | ⟨hr, -⟩ := hchoice
      · exact (h.above.1 hr).le
      · exact (h.half.1 hr).ge
    rw [hup]
    obtain hk | hk := Nat.lt_or_ge K k
    · obtain ⟨hle, hk'⟩ := habove hk
      refine ⟨hle.trans_eq hk'.symm, fun hne heq => absurd ?_ hne⟩
      linarith
    · obtain ⟨hle, hk'⟩ := hbelow hk
      refine ⟨by linarith, fun _ heq => ?_⟩
      have htie : 2 * rem = 2 ^ d := h.half.2 (by linarith)
      omega
  next hchoice =>
    have hmid : 2 * y ≤ f.magnitude K + f.magnitude (K + 1) := by
      by_contra hlt
      exact hchoice (.inl (h.above.2 (not_le.1 hlt)))
    rw [Nat.add_zero, hdown]
    obtain hk | hk := Nat.lt_or_ge K k
    · obtain ⟨hle, hk'⟩ := habove hk
      refine ⟨by linarith, fun _ heq => ?_⟩
      have htie : 2 * rem = 2 ^ d := h.half.2 (by linarith)
      omega
    · obtain ⟨hle, hk'⟩ := hbelow hk
      refine ⟨hle.trans_eq hk'.symm, fun hne heq => absurd ?_ hne⟩
      linarith

/-! ## Overflow -/

theorem Format.Between.infMag_le (h : f.Between y K rem d) (hf : f.Sound) : f.infMag ≤ K ↔ 2 ^ (f.bias + 1) ≤ y := by
  rw [← h.le_iff, Format.magnitude_infMag hf]

theorem Format.Between.infMag_le_ceiling (h : f.Between y K rem d) (hf : f.Sound) :
    f.infMag ≤ ceiling K rem ↔ f.largest < y := by
  have hone := Format.one_lt_infMag hf
  rw [← Format.magnitude_largest hf, ← not_le, h.ceiling_le_iff]
  omega

/-- Half a unit above the largest number a value rounds to the infinity, whose pattern is even. -/
theorem Format.Between.infMag_le_nearest (h : f.Between y K rem d) (hf : f.Sound) :
    f.infMag ≤ nearest K rem d ↔ f.largest + 2 ^ (f.bias - f.fracBits - 1) ≤ y := by
  have hone := Format.one_lt_infMag hf
  have heven := Format.infMag_even hf
  have hinf := Format.magnitude_infMag hf
  have hmid : f.largest + 2 ^ (f.bias - f.fracBits - 1) = (f.magnitude (f.infMag - 1) + f.magnitude f.infMag) / 2 := by
    rw [Format.magnitude_largest hf, hinf, Format.largest, zpow_sub₀ two_ne_zero, zpow_sub₀ two_ne_zero,
      zpow_add_one₀ two_ne_zero, zpow_natCast]
    field_simp
    ring
  have hlast : f.magnitude (f.infMag - 1) < f.magnitude f.infMag := Format.magnitude_lt.2 (by omega)
  rw [hmid]
  unfold nearest
  obtain hlow | heq | hhigh : K + 1 < f.infMag ∨ f.infMag = K + 1 ∨ f.infMag ≤ K := by omega
  · have hle := Format.magnitude_le (f := f).2 (by omega : K + 1 ≤ f.infMag - 1)
    have hy := h.upper
    refine iff_of_false ?_ (by linarith)
    split <;> omega
  · rw [heq, Nat.add_sub_cancel]
    split
    next hchoice =>
      refine iff_of_true le_rfl ?_
      obtain hr | ⟨hr, -⟩ := hchoice
      · linarith [h.above.1 hr]
      · linarith [h.half.1 hr]
    next hchoice =>
      refine iff_of_false (by omega) fun hge => hchoice ?_
      obtain hgt | htie := lt_or_eq_of_le (by linarith : f.magnitude K + f.magnitude (K + 1) ≤ 2 * y)
      · exact .inl (h.above.2 hgt)
      · exact .inr ⟨h.half.2 htie.symm, by omega⟩
  · have hle := h.le_iff.2 hhigh
    exact iff_of_true (by split <;> omega) (by linarith)

/-! ## The magnitude chosen -/

/-- The magnitude a direction chooses for a sign. -/
def chosen (m : RoundMode) (neg : Bool) (K rem d : Nat) : Nat := K + if roundsUp m neg K rem d then 1 else 0

theorem chosen_nearest : chosen .nearestEven neg K rem d = nearest K rem d := by
  simp [chosen, nearest, roundsUp]

theorem chosen_towardZero : chosen .towardZero neg K rem d = K := rfl

theorem chosen_towardPosInf : chosen .towardPosInf neg K rem d = if neg then K else ceiling K rem := by
  cases neg
  · simp [chosen, roundsUp, ceiling]
  · rfl

theorem chosen_towardNegInf : chosen .towardNegInf neg K rem d = if neg then ceiling K rem else K := by
  cases neg
  · rfl
  · simp [chosen, roundsUp, ceiling]

/-- An exact value is not moved. -/
theorem chosen_exact (m : RoundMode) (neg : Bool) (K d : Nat) : chosen m neg K 0 d = K := by
  cases m <;> simp [chosen, roundsUp, (Nat.two_pow_pos d).ne]

/-- Every number of the format is a signed magnitude. -/
theorem Format.exists_of_number {p : Nat} {q : ℚ} (h : f.number p = some q) :
    ∃ (n : Bool) (k : Nat), q = signed n (f.magnitude k) := by
  rw [Format.number_eq] at h
  split at h
  · exact ⟨_, _, (Option.some.inj h).symm⟩
  · cases h

/-- A number of the other sign is no nearer than zero. -/
theorem Format.Between.signed_nearest (h : f.Between y K rem d) (hy : 0 < y) (n : Bool) (k : Nat) :
    |signed neg (f.magnitude (nearest K rem d)) - signed neg y| ≤ |signed n (f.magnitude k) - signed neg y| ∧
      (signed n (f.magnitude k) ≠ signed neg (f.magnitude (nearest K rem d)) →
        |signed n (f.magnitude k) - signed neg y| =
          |signed neg (f.magnitude (nearest K rem d)) - signed neg y| →
        nearest K rem d % 2 = 0) := by
  obtain hsame | hother : signed n (f.magnitude k) = signed neg (f.magnitude k) ∨
      |signed n (f.magnitude k) - signed neg y| = f.magnitude k + y ∧ 0 < f.magnitude k := by
    by_cases hn : n = neg
    · exact .inl (by rw [hn])
    obtain h0 | hpos := (f.magnitude_nonneg k).eq_or_lt
    · exact .inl (by rw [← h0, signed_zero, signed_zero])
    refine .inr ⟨?_, hpos⟩
    cases n <;> cases neg
    · exact absurd rfl hn
    · rw [signed_false, signed_true, sub_neg_eq_add, abs_of_pos (by linarith)]
    · rw [signed_false, signed_true, abs_sub_comm, sub_neg_eq_add, abs_of_pos (by linarith), add_comm]
    · exact absurd rfl hn
  · rw [hsame, abs_signed_sub, abs_signed_sub, ne_eq, signed_inj]
    exact h.nearest_closest k
  · obtain ⟨hle, -⟩ := h.nearest_closest 0
    obtain ⟨hdist, hpos⟩ := hother
    rw [f.magnitude_zero, zero_sub, abs_neg, abs_of_pos hy] at hle
    rw [abs_signed_sub, hdist]
    exact ⟨by linarith, fun _ heq => by linarith⟩

/-- The magnitude chosen is a closest one in its direction. -/
theorem Format.Between.closest_chosen (h : f.Between y K rem d) (hy : 0 < y) :
    f.closest m (signed neg y) (signed neg (f.magnitude (chosen m neg K rem d))) (chosen m neg K rem d % 2 = 0) := by
  intro p q hq
  obtain ⟨n, k, rfl⟩ := Format.exists_of_number hq
  have hk := f.magnitude_nonneg k
  have hlow := h.lower
  have hK := f.magnitude_nonneg K
  have hceil := h.ceiling_le_iff.2 le_rfl
  have hdown : f.magnitude k ≤ y → f.magnitude k ≤ f.magnitude K := fun hle =>
    Format.magnitude_le.2 (h.le_iff.1 hle)
  have hup : y ≤ f.magnitude k → f.magnitude (ceiling K rem) ≤ f.magnitude k := fun hle =>
    Format.magnitude_le.2 (h.ceiling_le_iff.1 hle)
  cases m with
  | nearestEven =>
    simp only [chosen_nearest]
    exact h.signed_nearest hy n k
  | towardZero =>
    simp only [chosen_towardZero, abs_signed, abs_of_nonneg hk, abs_of_nonneg hK, abs_of_pos hy]
    exact ⟨hlow, hdown⟩
  | towardPosInf =>
    simp only [chosen_towardPosInf]
    cases neg <;> cases n <;> simp only [Bool.false_eq_true, if_true, if_false, signed_true, signed_false]
    · exact ⟨hceil, hup⟩
    · exact ⟨hceil, fun hle => by linarith⟩
    · exact ⟨by linarith, fun _ => by linarith⟩
    · exact ⟨by linarith, fun hle => by linarith [hdown (by linarith)]⟩
  | towardNegInf =>
    simp only [chosen_towardNegInf]
    cases neg <;> cases n <;> simp only [Bool.false_eq_true, if_true, if_false, signed_true, signed_false]
    · exact ⟨hlow, hdown⟩
    · exact ⟨hlow, fun _ => by linarith⟩
    · exact ⟨by linarith, fun hle => by linarith⟩
    · exact ⟨by linarith, fun hle => by linarith [hup (by linarith)]⟩

theorem Format.Between.infMag_le_chosen (h : f.Between y K rem d) (hf : f.Sound) (hy : 0 < y) :
    f.infMag ≤ chosen m neg K rem d ↔ f.overflows m (signed neg y) := by
  have hinf : (0 : ℚ) < 2 ^ (f.bias + 1) := by positivity
  have hlargest : 0 ≤ f.largest := Format.magnitude_largest hf ▸ f.magnitude_nonneg _
  cases m with
  | nearestEven => rw [chosen_nearest, h.infMag_le_nearest hf, Format.overflows, abs_signed, abs_of_pos hy]
  | towardZero => rw [chosen_towardZero, h.infMag_le hf, Format.overflows, abs_signed, abs_of_pos hy]
  | towardPosInf =>
    rw [chosen_towardPosInf, Format.overflows]
    cases neg
    · rw [signed_false, or_iff_left (by linarith)]
      exact h.infMag_le_ceiling hf
    · rw [signed_true, or_iff_right (by linarith), neg_le_neg_iff]
      exact h.infMag_le hf
  | towardNegInf =>
    rw [chosen_towardNegInf, Format.overflows]
    cases neg
    · rw [signed_false, or_iff_left (by linarith)]
      exact h.infMag_le hf
    · rw [signed_true, or_iff_right (by linarith), neg_lt_neg_iff]
      exact h.infMag_le_ceiling hf

/-! ## The result and its conditions -/

/-- The last step of `Format.round`: the chosen magnitude with its sign, or the overflow result. -/
def Format.roundAt (f : Format) (m : RoundMode) (neg : Bool) (K rem d : Nat) (tiny : Bool) : Computed :=
  if f.infMag ≤ chosen m neg K rem d then f.overflow m neg
  else { Computed.exact (f.pack neg (chosen m neg K rem d)) with tiny, nx := decide (rem ≠ 0) }

/-- The magnitude of an untrapped overflow (45_fp.md R807). -/
def Format.overflowMag (f : Format) (m : RoundMode) (neg : Bool) : Nat :=
  match m with
  | .nearestEven => f.infMag
  | .towardZero => f.infMag - 1
  | .towardPosInf => if neg then f.infMag - 1 else f.infMag
  | .towardNegInf => if neg then f.infMag else f.infMag - 1

theorem Format.overflow_eq (f : Format) (m : RoundMode) (neg : Bool) :
    f.overflow m neg = { Computed.exact (f.pack neg (f.overflowMag m neg)) with ovf := true, nx := true } := by
  cases m <;> cases neg <;> rfl

theorem Format.overflowMag_le (f : Format) (m : RoundMode) (neg : Bool) : f.overflowMag m neg ≤ f.infMag := by
  cases m <;> cases neg <;> simp [Format.overflowMag]

theorem Format.Between.rounds_roundAt (h : f.Between y K rem d) (hf : f.Sound) (hy : 0 < y) {tiny : Bool}
    (ht : tiny = true ↔ y < 2 ^ f.minExp) : Rounds f m (signed neg y) (f.roundAt m neg K rem d tiny) := by
  have hneg : ¬ y < 0 := not_lt.2 hy.le
  have hinf := f.infMag_lt_signBit
  have hpos := Format.two_pow_fracBits_lt_infMag hf
  have hsign : neg = decide (signed neg y < 0) := by
    rw [Bool.eq_iff_iff, decide_eq_true_iff, signed_neg_iff hy]
  have hover := h.infMag_le_chosen hf hy (m := m) (neg := neg)
  have hchosen : chosen m neg K rem d ≤ K + 1 := by unfold chosen; split <;> omega
  unfold Format.roundAt
  split
  next hbig =>
    rw [Format.overflow_eq]
    have hlt : f.overflowMag m neg < f.signBit := (f.overflowMag_le m neg).trans_lt hinf
    have hnormal : 2 ^ f.minExp ≤ y :=
      f.magnitude_normal ▸ h.le_iff.2 (by omega)
    exact {
      pattern := f.pack_lt neg hlt
      sign := (f.negative_pack neg hlt).trans hsign
      valid := ⟨rfl, rfl⟩
      tiny := iff_of_false Bool.false_ne_true (by rw [abs_signed, abs_of_pos hy]; exact not_lt.2 hnormal)
      overflow := iff_of_true rfl (hover.1 hbig)
      overflowed := fun _ => ⟨rfl, (f.pack_mod neg hlt).trans (by
        cases m <;> cases neg <;> simp [Format.overflowMag, hy, hneg])⟩
      finite := fun hovf => Bool.noConfusion hovf }
  next hsmall =>
    have hlt : chosen m neg K rem d < f.signBit := by omega
    have hnumber : f.number (f.pack neg (chosen m neg K rem d)) =
        some (signed neg (f.magnitude (chosen m neg K rem d))) := by
      rw [Format.number_eq, f.pack_mod neg hlt, if_pos (not_le.1 hsmall), f.negative_pack neg hlt]
    have hinexact : rem ≠ 0 ↔ f.magnitude (chosen m neg K rem d) ≠ y := by
      by_cases h0 : rem = 0
      · rw [h0, chosen_exact]
        exact iff_of_false (not_not.2 rfl) (not_not.2 (h.exact.1 h0).symm)
      · refine iff_of_true h0 ?_
        unfold chosen
        split
        · exact h.upper.ne'
        · exact fun he => h0 (h.exact.2 he.symm)
    have heven : (f.pack neg (chosen m neg K rem d) % 2 = 0) = (chosen m neg K rem d % 2 = 0) := by
      have hbit := Format.signBit_even hf
      unfold Format.pack
      split <;> simp only [eq_iff_iff] <;> omega
    exact {
      pattern := f.pack_lt neg hlt
      sign := (f.negative_pack neg hlt).trans hsign
      valid := ⟨rfl, rfl⟩
      tiny := by rw [abs_signed, abs_of_pos hy]; exact ht
      overflow := iff_of_false Bool.false_ne_true (mt hover.2 hsmall)
      overflowed := fun hovf => Bool.noConfusion hovf
      finite := fun _ => ⟨_, hnumber, decide_eq_true_iff.trans (hinexact.trans (not_congr signed_inj.symm)),
        heven ▸ h.closest_chosen hy⟩ }

end Sys2Proof.Float

namespace Sys2Proof.Float

variable {f : Format} {m : RoundMode} {neg : Bool} {y : ℚ} {sig d : Nat} {exp : Int}

/-! ## The significand against the exact value -/

/-- `sig` units of 2^exp stand for `y`: exactly, or, with bits to spare, as the odd number between its two even neighbours. -/
inductive Format.Stands (f : Format) (sig : Nat) (exp : Int) (y : ℚ) : Prop where
  | exact (h : y = sig * 2 ^ exp)
  | sticky (hodd : sig % 2 = 1) (hbits : f.fracBits + 3 ≤ sig.log2) (hlow : (sig - 1) * 2 ^ exp < y)
    (hhigh : y < (sig + 1) * 2 ^ exp)

/-- Against an even number of units, or any when nothing is sticky, `y` and `sig` compare alike. -/
theorem Format.Stands.compare (h : f.Stands sig exp y) {c : Nat} (hc : y = sig * 2 ^ exp ∨ c % 2 = 0) :
    ((c : ℚ) * 2 ^ exp ≤ y ↔ c ≤ sig) ∧ (y ≤ (c : ℚ) * 2 ^ exp ↔ sig ≤ c) := by
  have hunit : (0 : ℚ) < 2 ^ exp := by positivity
  cases h with
  | exact h =>
    rw [h, mul_le_mul_iff_left₀ hunit, mul_le_mul_iff_left₀ hunit]
    exact ⟨Nat.cast_le, Nat.cast_le⟩
  | sticky hodd hbits hlow hhigh =>
    obtain hexact | heven := hc
    · rw [hexact, mul_le_mul_iff_left₀ hunit, mul_le_mul_iff_left₀ hunit]
      exact ⟨Nat.cast_le, Nat.cast_le⟩
    obtain hle | hge : c + 1 ≤ sig ∨ sig + 1 ≤ c := by omega
    · have hq : (c : ℚ) + 1 ≤ sig := by exact_mod_cast hle
      have hy : (c : ℚ) * 2 ^ exp < y := lt_of_le_of_lt (mul_le_mul_of_nonneg_right (by linarith) hunit.le) hlow
      exact ⟨iff_of_true hy.le (by omega), iff_of_false (not_le.2 hy) (by omega)⟩
    · have hq : (sig : ℚ) + 1 ≤ c := by exact_mod_cast hge
      have hy : y < (c : ℚ) * 2 ^ exp := lt_of_lt_of_le hhigh (mul_le_mul_of_nonneg_right hq hunit.le)
      exact ⟨iff_of_false (not_le.2 hy) (by omega), iff_of_true hy.le (by omega)⟩

theorem cast_mul_zpow (n d : Nat) (exp : Int) : ((n * 2 ^ d : Nat) : ℚ) * 2 ^ exp = n * 2 ^ (exp + d) := by
  rw [zpow_add₀ two_ne_zero, zpow_natCast]
  push_cast
  ring

theorem Format.Stands.even (h : f.Stands sig exp y) (n : Nat) {k : Nat} (hk : f.fracBits + 3 ≤ sig.log2 → 1 ≤ k) :
    y = sig * 2 ^ exp ∨ n * 2 ^ k % 2 = 0 := by
  cases h with
  | exact h => exact .inl h
  | sticky _ hbits => exact .inr (by rw [Nat.mul_mod, even_two_pow (hk hbits), Nat.mul_zero])

theorem Format.Stands.sig_pos (h : f.Stands sig exp y) (hy : 0 < y) : 0 < sig := by
  refine Nat.pos_of_ne_zero fun h0 => ?_
  cases h with
  | exact h => exact hy.ne' (by rw [h, h0, Nat.cast_zero, zero_mul])
  | sticky hodd => omega

theorem Format.Stands.log2_bounds (h : f.Stands sig exp y) (hsig : 0 < sig) :
    (2 : ℚ) ^ (exp + sig.log2) ≤ y ∧ y < 2 ^ (exp + sig.log2 + 1) := by
  have hlow := (h.compare (h.even 1 (k := sig.log2) (by omega))).1.2
    (by rw [one_mul]; exact Nat.log2_self_le hsig.ne')
  have hhigh := mt (h.compare (h.even 1 (k := sig.log2 + 1) (by omega))).1.1
    (by rw [one_mul, not_le]; exact Nat.lt_log2_self)
  rw [cast_mul_zpow, Nat.cast_one, one_mul] at hlow hhigh
  refine ⟨hlow, not_le.1 ?_⟩
  rwa [Nat.cast_succ, ← add_assoc] at hhigh

/-! ## Whole units in the last place -/

/-- `y` lies between `kept` and `kept + 1` units of 2^q, and `rem` of `2 ^ d` tells where. -/
structure Units (y : ℚ) (q : Int) (kept rem d : Nat) : Prop where
  lower : (kept : ℚ) * 2 ^ q ≤ y
  upper : y < (kept + 1) * 2 ^ q
  exact : rem = 0 ↔ y = kept * 2 ^ q
  above : 2 ^ d < 2 * rem ↔ (2 * kept + 1) * 2 ^ q < 2 * y
  half : 2 * rem = 2 ^ d ↔ 2 * y = (2 * kept + 1) * 2 ^ q

/-- Nothing is discarded when the unit in the last place is no more than that of the significand. -/
theorem units_of_le {q : Int} (h : y = sig * 2 ^ exp) (hq : q ≤ exp) :
    Units y q (sig * 2 ^ (exp - q).toNat) 0 0 := by
  have hunit : (0 : ℚ) < 2 ^ q := by positivity
  have hy : y = ((sig * 2 ^ (exp - q).toNat : Nat) : ℚ) * 2 ^ q := by
    rw [cast_mul_zpow, h, Int.toNat_of_nonneg (by omega)]
    congr 2
    ring
  generalize sig * 2 ^ (exp - q).toNat = kept at hy
  subst hy
  exact ⟨le_rfl, by linarith, iff_of_true rfl rfl, iff_of_false (by decide) (by linarith),
    iff_of_false (by decide) fun he => by linarith⟩

/-- Otherwise the low bits are discarded, more than one of a sticky significand. -/
theorem Format.Stands.units (h : f.Stands sig exp y) (hd : f.fracBits + 3 ≤ sig.log2 → 1 ≤ d) :
    Units y (exp + (d + 1 : Nat)) (sig / 2 ^ (d + 1)) (sig % 2 ^ (d + 1)) (d + 1) := by
  have hsplit := Nat.div_add_mod' sig (2 ^ (d + 1))
  have hmod := Nat.mod_lt sig (Nat.two_pow_pos (d + 1))
  generalize sig / 2 ^ (d + 1) = kept at hsplit ⊢
  generalize sig % 2 ^ (d + 1) = rem at hsplit hmod ⊢
  obtain ⟨hlow, hexact⟩ := h.compare (h.even kept (k := d + 1) fun _ => Nat.le_add_left ..)
  obtain ⟨hhigh, -⟩ := h.compare (h.even (kept + 1) (k := d + 1) fun _ => Nat.le_add_left ..)
  obtain ⟨hmidLow, hmidHigh⟩ := h.compare (h.even (2 * kept + 1) (k := d) hd)
  have hmid : ((2 * kept + 1 : Nat) : ℚ) * 2 ^ (exp + d) = (2 * kept + 1) * 2 ^ (exp + (d + 1 : Nat)) / 2 := by
    rw [Nat.cast_succ d, ← add_assoc, zpow_add_one₀ two_ne_zero]
    push_cast
    ring
  have hpow : 2 ^ (d + 1) = 2 * 2 ^ d := Nat.pow_succ'
  have hmul : (2 * kept + 1) * 2 ^ d = kept * 2 ^ (d + 1) + 2 ^ d := by rw [hpow]; ring
  rw [cast_mul_zpow] at hlow hexact hhigh hmidLow hmidHigh
  rw [hmid, hmul] at hmidLow hmidHigh
  rw [Nat.add_mul, Nat.one_mul, Nat.cast_succ kept] at hhigh
  refine ⟨hlow.2 (by omega), not_le.1 (mt hhigh.1 (by omega)), ⟨fun h0 => ?_, fun he => ?_⟩, ⟨fun hr => ?_, fun hr => ?_⟩,
    ⟨fun hr => ?_, fun hr => ?_⟩⟩
  · exact le_antisymm (hexact.2 (by omega)) (hlow.2 (by omega))
  · have := hexact.1 he.le
    omega
  · have := not_le.1 (mt hmidHigh.1 (by omega))
    linarith
  · have := mt hmidHigh.2 (not_le.2 (by linarith))
    omega
  · have hle := hmidLow.2 (by omega)
    have hge := hmidHigh.2 (by omega)
    linarith
  · have hle := hmidLow.1 (by linarith)
    have hge := hmidHigh.1 (by linarith)
    omega

/-- Units of the binade of `y`, subnormal or normalized, are magnitudes. -/
theorem Units.between {q e : Int} {kept rem d : Nat} (h : Units y q kept rem d) (hq : q = max e f.minExp - f.fracBits)
    (he : (2 : ℚ) ^ e ≤ y) (he' : y < 2 ^ (e + 1)) :
    f.Between y ((q + f.fracBits - f.minExp).toNat * 2 ^ f.fracBits + kept) rem d := by
  have hunit : (0 : ℚ) < 2 ^ q := by positivity
  have hkept : kept < 2 ^ (f.fracBits + 1) := by
    have hlt : (kept : ℚ) * 2 ^ q < 2 ^ (f.fracBits + 1) * 2 ^ q := by
      refine h.lower.trans_lt (he'.trans_le ?_)
      rw [← zpow_natCast, ← zpow_add₀ two_ne_zero]
      exact zpow_le_zpow_right₀ one_le_two (by push_cast; omega)
    exact_mod_cast lt_of_mul_lt_mul_right hlt hunit.le
  have hnorm : (q + f.fracBits - f.minExp).toNat = 0 ∨ 2 ^ f.fracBits ≤ kept := by
    by_cases hD : (q + f.fracBits - f.minExp).toNat = 0
    · exact .inl hD
    refine .inr (Nat.le_of_lt_succ ?_)
    have hlt : (2 : ℚ) ^ f.fracBits * 2 ^ q < (kept + 1) * 2 ^ q := by
      refine lt_of_le_of_lt (le_trans (le_of_eq ?_) he) h.upper
      rw [← zpow_natCast, ← zpow_add₀ two_ne_zero]
      congr 1
      omega
    exact_mod_cast lt_of_mul_lt_mul_right hlt hunit.le
  have hbinade : f.minExp - f.fracBits + ((q + f.fracBits - f.minExp).toNat : Int) = q := by omega
  have hK := f.magnitude_binade hkept.le hnorm
  have hK' := f.magnitude_binade (Nat.succ_le_of_lt hkept) (hnorm.imp_right Nat.le_succ_of_le)
  rw [hbinade] at hK hK'
  rw [Nat.add_succ, Nat.cast_succ] at hK'
  have hsum : (kept : ℚ) * 2 ^ q + (kept + 1) * 2 ^ q = (2 * kept + 1) * 2 ^ q := by ring
  exact ⟨hK ▸ h.lower, hK' ▸ h.upper, hK ▸ h.exact, by rw [hK, hK', hsum]; exact h.above,
    by rw [hK, hK', hsum]; exact h.half⟩

/-! ## `Format.round` -/

theorem roundsUp_congr {a b : Nat} (h : a % 2 = b % 2) (m : RoundMode) (neg : Bool) (rem d : Nat) :
    roundsUp m neg a rem d = roundsUp m neg b rem d := by
  cases m <;> simp [roundsUp, h]

theorem Format.round_eq_roundAt (hf : f.Sound) (m : RoundMode) (neg : Bool) (sig : Nat) (exp : Int) {q : Int}
    (hq : q = max (exp + sig.log2) f.minExp - f.fracBits) {kept rem : Nat}
    (hkept : (if q ≤ exp then sig * 2 ^ (exp - q).toNat else sig / 2 ^ (q - exp).toNat) = kept)
    (hrem : (if q ≤ exp then 0 else sig % 2 ^ (q - exp).toNat) = rem) :
    f.round m neg sig exp =
      f.roundAt m neg ((q + f.fracBits - f.minExp).toNat * 2 ^ f.fracBits + kept) rem (q - exp).toNat
        (decide (exp + sig.log2 < f.minExp)) := by
  have hparity : kept % 2 = ((q + f.fracBits - f.minExp).toNat * 2 ^ f.fracBits + kept) % 2 := by
    rw [Nat.add_mod, Nat.mul_mod, even_two_pow hf.fracBits, Nat.mul_zero, Nat.zero_mod, Nat.zero_add, Nat.mod_mod]
  unfold Format.round
  simp only [← hq, hkept, hrem]
  rw [Format.roundAt, chosen, roundsUp_congr hparity]

/-- A significand that stands for a positive number rounds as that number does. -/
theorem Format.rounds_round (hf : f.Sound) (hsig : 0 < sig) (h : f.Stands sig exp y) :
    Rounds f m (signed neg y) (f.round m neg sig exp) := by
  obtain ⟨hlow, hhigh⟩ := h.log2_bounds hsig
  have hy : 0 < y := lt_of_lt_of_le (by positivity) hlow
  have htiny : decide (exp + (sig.log2 : Int) < f.minExp) = true ↔ y < 2 ^ f.minExp := by
    rw [decide_eq_true_iff]
    refine ⟨fun hlt => hhigh.trans_le (zpow_le_zpow_right₀ one_le_two (by omega)), fun hlt => ?_⟩
    exact (zpow_lt_zpow_iff_right₀ one_lt_two).1 (hlow.trans_lt hlt)
  rw [Format.round_eq_roundAt hf m neg sig exp rfl rfl rfl]
  refine (Units.between ?_ rfl hlow hhigh).rounds_roundAt hf hy htiny
  generalize hq : max (exp + (sig.log2 : Int)) f.minExp - f.fracBits = q
  by_cases hle : q ≤ exp
  · have hexact : y = sig * 2 ^ exp := by
      cases h with
      | exact h => exact h
      | sticky _ hbits => omega
    rw [if_pos hle, if_pos hle, Int.toNat_of_nonpos (by omega : q - exp ≤ 0)]
    exact units_of_le hexact hle
  · obtain ⟨d, hd⟩ := Nat.exists_eq_succ_of_ne_zero (by omega : (q - exp).toNat ≠ 0)
    have hqd : q = exp + (d + 1 : Nat) := by omega
    rw [if_neg hle, if_neg hle, hd, hqd]
    exact h.units (by omega)

/-! ## Results without rounding -/

theorem Format.not_overflows (f : Format) (m : RoundMode) {x : ℚ} (h : |x| < 2 ^ f.bias) : ¬ f.overflows m x := by
  obtain ⟨hlow, hhigh⟩ := abs_lt.1 h
  have hpos : (0 : ℚ) < 2 ^ f.bias := by positivity
  have htwo : (2 : ℚ) ^ (f.bias + 1) = 2 * 2 ^ f.bias := by rw [zpow_add_one₀ two_ne_zero, mul_comm]
  have hfraction : (1 : ℚ) / 2 ^ f.fracBits ≤ 1 := (div_le_one (by positivity)).2 (one_le_pow₀ one_le_two)
  have hlargest : 1 * 2 ^ f.bias ≤ f.largest := mul_le_mul_of_nonneg_right (by linarith) hpos.le
  have hhalf : (0 : ℚ) < 2 ^ (f.bias - f.fracBits - 1) := by positivity
  cases m with
  | nearestEven => exact not_le.2 (by linarith)
  | towardZero => exact not_le.2 (by linarith)
  | towardPosInf => exact not_or.2 ⟨not_lt.2 (by linarith), not_le.2 (by linarith)⟩
  | towardNegInf => exact not_or.2 ⟨not_le.2 (by linarith), not_lt.2 (by linarith)⟩

theorem Format.nx_roundAt_zero {K : Nat} {tiny : Bool} (h : (f.roundAt m neg K 0 d tiny).ovf = false) :
    (f.roundAt m neg K 0 d tiny).nx = false := by
  unfold Format.roundAt at h ⊢
  split at h
  · cases h
  next hsmall => rw [if_neg hsmall]; rfl

/-- A significand of no more bits than the format's, in the middle of its range, is not changed. -/
theorem Format.round_exact (hf : f.Sound) (hsig : 0 < sig) (hbits : sig.log2 ≤ f.fracBits) (hmin : f.minExp ≤ exp)
    (hmax : exp + sig.log2 < f.bias) (m : RoundMode) (neg : Bool) :
    ∃ bits, f.round m neg sig exp = Computed.exact bits ∧ bits < 2 * f.signBit ∧ f.negative bits = neg ∧
      f.number bits = some (signed neg (sig * 2 ^ exp)) := by
  have hstands : f.Stands sig exp (sig * 2 ^ exp) := .exact rfl
  obtain ⟨hlow, hhigh⟩ := hstands.log2_bounds hsig
  have hrounds : Rounds f m (signed neg (sig * 2 ^ exp)) (f.round m neg sig exp) := Format.rounds_round hf hsig hstands
  have hpos : (0 : ℚ) < sig * 2 ^ exp := by positivity
  have habs : |signed neg (sig * 2 ^ exp)| = sig * 2 ^ exp := by rw [abs_signed, abs_of_pos hpos]
  have hovf : (f.round m neg sig exp).ovf = false := by
    refine Bool.eq_false_iff.2 (mt hrounds.overflow.1 (f.not_overflows m ?_))
    exact habs.trans_lt (hhigh.trans_le (zpow_le_zpow_right₀ one_le_two (Int.add_one_le_of_lt hmax)))
  have hnx : (f.round m neg sig exp).nx = false := by
    have hround := Format.round_eq_roundAt hf m neg sig exp rfl rfl rfl
    rw [if_pos (by omega), if_pos (by omega)] at hround
    rw [hround] at hovf ⊢
    exact Format.nx_roundAt_zero hovf
  have htiny : (f.round m neg sig exp).tiny = false := by
    refine Bool.eq_false_iff.2 (mt hrounds.tiny.1 (not_lt.2 ?_))
    exact habs.symm ▸ (zpow_le_zpow_right₀ one_le_two (le_add_of_le_of_nonneg hmin (Int.natCast_nonneg _))).trans hlow
  obtain ⟨hnv, hdz⟩ := hrounds.valid
  obtain ⟨r, hnumber, hinexact, -⟩ := hrounds.finite hovf
  have hr : r = signed neg (sig * 2 ^ exp) := by
    by_contra hne
    exact Bool.false_ne_true (hnx.symm.trans (hinexact.2 hne))
  have hsign : f.negative (f.round m neg sig exp).bits = neg := by
    rw [hrounds.sign, Bool.eq_iff_iff, decide_eq_true_iff, signed_neg_iff hpos]
  refine ⟨(f.round m neg sig exp).bits, ?_, hrounds.pattern, hsign, hr ▸ hnumber⟩
  generalize f.round m neg sig exp = c at hnv hdz hovf htiny hnx
  cases c
  simp only at hnv hdz hovf htiny hnx
  rw [hnv, hdz, hovf, htiny, hnx]
  rfl

end Sys2Proof.Float
end

section
/-!
PROOFS. The four operations on two numbers (45_fp.md R806, R807, TABLES 8-2 to 8-5): `FloatingPointRounding`.
-/

namespace Sys2Proof.Float

variable {f : Format} {m : RoundMode} {a b : Value} {na nb : Bool} {x y : ℚ}

/-! ## The numbers that values stand for -/

/-- `a` is a number: its sign and its exact value. -/
inductive Value.IsNumber : Value → Bool → ℚ → Prop where
  | zero (neg : Bool) : IsNumber (.zero neg) neg 0
  | finite (neg : Bool) {sig : Nat} (exp : Int) (hsig : 0 < sig) :
    IsNumber (.finite neg sig exp) neg (signed neg (sig * 2 ^ exp))

theorem Format.isNumber_unpack {p : Nat} (h : f.number p = some x) : (f.unpack p).IsNumber (f.negative p) x := by
  rw [Format.number_eq] at h
  generalize hv : f.unpack p = v
  cases hv ▸ f.reads_unpack p with
  | nan hmag => rw [if_neg hmag.asymm] at h; cases h
  | inf hmag => rw [if_neg hmag.not_lt] at h; cases h
  | zero hmag =>
    have hx : signed (f.negative p) (f.magnitude (p % f.signBit)) = x := by
      split at h
      · exact Option.some.inj h
      · cases h
    rw [hmag, f.magnitude_zero, signed_zero] at hx
    exact hx ▸ .zero _
  | finite hmag hpos _ _ hval =>
    rw [if_pos hmag, hval] at h
    exact Option.some.inj h ▸ .finite _ _ hpos

theorem Value.IsNumber.negate (h : a.IsNumber na x) : a.negate.IsNumber (!na) (-x) := by
  cases h with
  | zero => rw [neg_zero]; exact .zero _
  | @finite _ sig exp hsig =>
    have hx : signed (!na) (sig * 2 ^ exp) = -signed na (sig * 2 ^ exp) := by cases na <;> simp
    exact hx ▸ .finite _ exp hsig

theorem Value.IsNumber.isNaN (h : a.IsNumber na x) : a.isNaN = false := by cases h <;> rfl

theorem Format.nanResult_of_no_nan (ha : a.isNaN = false) (hb : b.isNaN = false) : f.nanResult a b = none := by
  unfold Format.nanResult
  split
  · exact Bool.noConfusion hb
  · exact Bool.noConfusion ha
  · rfl

/-- A single significand that is the exact result rounds as it. -/
theorem Format.rounds_of_eq (hf : f.Sound) {neg : Bool} {sig : Nat} {exp : Int} (hsig : 0 < sig)
    (hx : x = signed neg (sig * 2 ^ exp)) : Rounds f m x (f.round m neg sig exp) :=
  hx ▸ f.rounds_round hf hsig (.exact rfl)

/-! ## Sums -/

theorem scaled_mul (neg : Bool) (sig : Nat) {exp e : Int} (h : e ≤ exp) :
    (scaled neg sig exp e : ℚ) * 2 ^ e = signed neg (sig * 2 ^ exp) := by
  have hexp : exp = e + (exp - e).toNat := by omega
  have hmul := cast_mul_zpow sig (exp - e).toNat e
  rw [← hexp] at hmul
  rw [← hmul, signed_eq_mul, scaled]
  push_cast
  split <;> ring

/-- The sign and the size of a signed number of units. -/
theorem signed_natAbs (t e : Int) : signed (decide (t < 0)) (t.natAbs * 2 ^ e) = (t : ℚ) * 2 ^ e := by
  have hcast : ((t.natAbs : Nat) : ℚ) = |(t : ℚ)| := by rw [Nat.cast_natAbs, Int.cast_abs]
  by_cases ht : t < 0
  · rw [decide_eq_true ht, signed_true, hcast, abs_of_neg (by exact_mod_cast ht)]
    ring
  · rw [decide_eq_false ht, signed_false, hcast, abs_of_nonneg (by exact_mod_cast not_lt.1 ht)]

theorem Format.addValues_rounds (hf : f.Sound) (ha : a.IsNumber na x) (hb : b.IsNumber nb y) (h : x + y ≠ 0) :
    Rounds f m (x + y) (f.addValues m a b) := by
  cases ha with
  | zero =>
    rw [zero_add] at h ⊢
    cases hb with
    | zero => exact absurd rfl h
    | finite _ eb hsb => exact Format.rounds_of_eq hf hsb rfl
  | finite _ ea hsa =>
    cases hb with
    | zero =>
      rw [add_zero]
      exact Format.rounds_of_eq hf hsa rfl
    | finite _ eb hsb =>
      rw [← scaled_mul na _ (min_le_left ea eb), ← scaled_mul nb _ (min_le_right ea eb), ← add_mul, ← Int.cast_add]
        at h ⊢
      have ht : scaled na _ ea (min ea eb) + scaled nb _ eb (min ea eb) ≠ 0 := fun h0 => h (by rw [h0]; simp)
      simp only [Format.addValues, if_neg ht]
      exact Format.rounds_of_eq hf (Int.natAbs_pos.2 ht) (signed_natAbs _ _).symm

/-- An exact zero sum has the sign of both operands, or else the one its direction gives (45_fp.md TABLE 8-2). -/
theorem Format.addValues_zero (ha : a.IsNumber na x) (hb : b.IsNumber nb y) (h : x + y = 0) :
    f.addValues m a b =
      Computed.exact (if (if na = nb then na else decide (m = .towardNegInf)) then f.signBit else 0) := by
  cases ha with
  | zero =>
    cases hb with
    | zero => rfl
    | finite _ eb hsb =>
      rw [zero_add, signed_eq_zero] at h
      exact absurd h (by positivity)
  | @finite _ sa ea hsa =>
    cases hb with
    | zero =>
      rw [add_zero, signed_eq_zero] at h
      exact absurd h (by positivity)
    | @finite _ sb eb hsb =>
      have hne : na ≠ nb := by
        rintro rfl
        have hpos : (0 : ℚ) < sa * 2 ^ ea + sb * 2 ^ eb := by positivity
        rw [signed_eq_mul, signed_eq_mul, ← mul_add, ← signed_eq_mul, signed_eq_zero] at h
        exact hpos.ne' h
      rw [← scaled_mul na _ (min_le_left ea eb), ← scaled_mul nb _ (min_le_right ea eb), ← add_mul, ← Int.cast_add]
        at h
      have ht : scaled na sa ea (min ea eb) + scaled nb sb eb (min ea eb) = 0 := by
        exact_mod_cast (mul_eq_zero.1 h).resolve_right (by positivity)
      simp only [Format.addValues, if_pos ht, if_neg hne]
      rfl

/-! ## Products -/

theorem signed_mul (na nb : Bool) (x y : ℚ) : signed na x * signed nb y = signed (na != nb) (x * y) := by
  cases na <;> cases nb <;> simp

theorem Format.zeroResult_bne (f : Format) (na nb : Bool) :
    f.zeroResult (na != nb) = Computed.exact (if na = nb then 0 else f.signBit) := by
  cases na <;> cases nb <;> rfl

theorem Format.mulValues_rounds (hf : f.Sound) (ha : a.IsNumber na x) (hb : b.IsNumber nb y) (h : x * y ≠ 0) :
    Rounds f m (x * y) (f.mulValues m a b) := by
  cases ha with
  | zero => exact absurd (zero_mul y) h
  | @finite _ sa ea hsa =>
    cases hb with
    | zero => exact absurd (mul_zero _) h
    | @finite _ sb eb hsb =>
      refine Format.rounds_of_eq hf (Nat.mul_pos hsa hsb) ?_
      rw [signed_mul, zpow_add₀ two_ne_zero]
      push_cast
      congr 1
      ring

theorem Format.mulValues_zero (ha : a.IsNumber na x) (hb : b.IsNumber nb y) (h : x * y = 0) :
    f.mulValues m a b = Computed.exact (if na = nb then 0 else f.signBit) := by
  rw [← Format.zeroResult_bne]
  cases ha with
  | zero => cases hb <;> rfl
  | finite _ ea hsa =>
    cases hb with
    | zero => rfl
    | finite _ eb hsb =>
      rw [signed_mul, signed_eq_zero] at h
      exact absurd h (by positivity)

/-! ## Quotients -/

theorem signed_div (na nb : Bool) (x y : ℚ) : signed na x / signed nb y = signed (na != nb) (x / y) := by
  cases na <;> cases nb <;> simp [neg_div, div_neg]

/-- A quotient with a bit for its remainder, of more bits than are kept, stands for the exact one. -/
theorem Format.stands_quotient (f : Format) {sa sb : Nat} (hsa : 0 < sa) (hsb : 0 < sb) (e : Int) {k : Nat}
    (hk : f.fracBits + 3 + (sb.log2 + 1) = k) :
    f.Stands (2 * (sa * 2 ^ k / sb) + (if sa * 2 ^ k % sb = 0 then 0 else 1)) (e - k - 1) (sa / sb * 2 ^ e) := by
  have hsplit := Nat.div_add_mod (sa * 2 ^ k) sb
  have hmod := Nat.mod_lt (sa * 2 ^ k) hsb
  have hquot : 2 ^ (f.fracBits + 3) ≤ sa * 2 ^ k / sb := by
    rw [Nat.le_div_iff_mul_le hsb, ← hk, pow_add 2 (f.fracBits + 3)]
    calc 2 ^ (f.fracBits + 3) * sb ≤ 2 ^ (f.fracBits + 3) * 2 ^ (sb.log2 + 1) := Nat.mul_le_mul_left _ Nat.lt_log2_self.le
      _ ≤ sa * (2 ^ (f.fracBits + 3) * 2 ^ (sb.log2 + 1)) := Nat.le_mul_of_pos_left _ hsa
  have hunit : (0 : ℚ) < 2 ^ (e - k - 1) := by positivity
  have hsb' : (0 : ℚ) < sb := by exact_mod_cast hsb
  have hvalue : (sa : ℚ) / sb * 2 ^ e = 2 * ((sa * 2 ^ k : Nat) / sb) * 2 ^ (e - k - 1) := by
    rw [zpow_sub_one₀ two_ne_zero, zpow_sub₀ two_ne_zero, zpow_natCast]
    push_cast
    field_simp
  generalize sa * 2 ^ k = n at hsplit hmod hquot hvalue ⊢
  have hn : (n : ℚ) = sb * (n / sb : Nat) + (n % sb : Nat) := by exact_mod_cast hsplit.symm
  generalize n / sb = q at hsplit hquot hn ⊢
  rw [hvalue]
  split
  next h0 =>
    refine .exact ?_
    rw [hn, h0]
    push_cast
    field_simp
    ring
  next h0 =>
    have hr : (0 : ℚ) < (n % sb : Nat) ∧ ((n % sb : Nat) : ℚ) < sb := by
      exact_mod_cast And.intro (Nat.pos_of_ne_zero h0) hmod
    have hlow : (q : ℚ) < n / sb := by rw [lt_div_iff₀ hsb']; linarith [mul_comm (q : ℚ) sb]
    have hhigh : (n : ℚ) / sb < q + 1 := by rw [div_lt_iff₀ hsb']; linarith [add_one_mul (q : ℚ) sb, mul_comm (q : ℚ) sb]
    refine .sticky (by omega) ?_ ?_ ?_
    · exact (Nat.le_log2 (by omega)).2 (by omega)
    · exact mul_lt_mul_of_pos_right (by push_cast; linarith) hunit
    · exact mul_lt_mul_of_pos_right (by push_cast; linarith) hunit

theorem Format.divValues_rounds (hf : f.Sound) (ha : a.IsNumber na x) (hb : b.IsNumber nb y) (hx : x ≠ 0) (hy : y ≠ 0) :
    Rounds f m (x / y) (f.divValues m a b) := by
  cases ha with
  | zero => exact absurd rfl hx
  | @finite _ sa ea hsa =>
    cases hb with
    | zero => exact absurd rfl hy
    | @finite _ sb eb hsb =>
      have hstands := f.stands_quotient hsa hsb (ea - eb) rfl
      have hquot : signed na (sa * 2 ^ ea) / signed nb (sb * 2 ^ eb) = signed (na != nb) (sa / sb * 2 ^ (ea - eb)) := by
        rw [signed_div, zpow_sub₀ two_ne_zero]
        congr 1
        field_simp
      rw [hquot]
      exact Format.rounds_round hf (hstands.sig_pos (by positivity)) hstands

theorem Format.divValues_zero (ha : a.IsNumber na x) (hb : b.IsNumber nb y) (hx : x = 0) (hy : y ≠ 0) :
    f.divValues m a b = Computed.exact (if na = nb then 0 else f.signBit) := by
  rw [← Format.zeroResult_bne]
  cases hb with
  | zero => exact absurd rfl hy
  | finite =>
    cases ha with
    | zero => rfl
    | finite =>
      rw [signed_eq_zero] at hx
      exact absurd hx (by positivity)

theorem Format.divValues_by_zero (ha : a.IsNumber na x) (hb : b.IsNumber nb y) (hx : x ≠ 0) (hy : y = 0) :
    f.divValues m a b =
      { Computed.exact ((if na = nb then 0 else f.signBit) + f.infMag) with dz := true } := by
  cases ha with
  | zero => exact absurd rfl hx
  | finite =>
    cases hb with
    | zero => cases na <;> cases nb <;> rfl
    | finite =>
      rw [signed_eq_zero] at hy
      exact absurd hy (by positivity)

/-- Settles O51: neither operand is a NaN, so each operation is the one on the two numbers read. -/
theorem floatingPointRounding : Obligations.FloatingPointRounding := by
  intro f hmem m p q x y _ _ hx hy
  have hf := sound_of_mem hmem
  have ha := Format.isNumber_unpack hx
  have hb := Format.isNumber_unpack hy
  have hnan := Format.nanResult_of_no_nan (f := f) ha.isNaN hb.isNaN
  simp only [Format.add, Format.sub, Format.mul, Format.div, hnan, Option.getD_none]
  refine ⟨Format.addValues_rounds hf ha hb, Format.addValues_zero ha hb, fun h => ?_, fun h => ?_,
    Format.mulValues_rounds hf ha hb, Format.mulValues_zero ha hb, Format.divValues_rounds hf ha hb,
    Format.divValues_zero ha hb, Format.divValues_by_zero ha hb⟩
  · rw [sub_eq_add_neg] at h ⊢
    exact Format.addValues_rounds hf ha hb.negate h
  · rw [sub_eq_add_neg] at h
    have hsigns : (f.negative p = !f.negative q) ↔ f.negative p ≠ f.negative q := Bool.eq_not
    rw [Format.addValues_zero ha hb.negate h]
    simp only [hsigns]

end Sys2Proof.Float
end

section
/-!
PROOFS. NaN and infinite operands of the four operations (45_fp.md R808, TABLES 8-2 to 8-5): `NansAndInfinities`.
-/

namespace Sys2Proof.Float

variable {f : Format} {m : RoundMode} {p q : Nat}

/-! ## The quiet bit -/

/-- Setting the upper one of k + 1 low bits. -/
theorem or_two_pow (k h : Nat) {r : Nat} (hr : r < 2 ^ (k + 1)) :
    (2 ^ (k + 1) * h + r) ||| 2 ^ k = 2 ^ (k + 1) * h + (if r < 2 ^ k then r + 2 ^ k else r) := by
  have hsucc : 2 ^ (k + 1) = 2 * 2 ^ k := Nat.pow_succ'
  have hset {r : Nat} (hlow : r < 2 ^ k) : 2 ^ k ||| r = 2 ^ k + r := by
    simpa using (Nat.two_pow_add_eq_or_of_lt hlow 1).symm
  have hor : r ||| 2 ^ k = if r < 2 ^ k then r + 2 ^ k else r := by
    split
    next hlow => rw [Nat.or_comm, hset hlow, Nat.add_comm]
    next hhigh =>
      obtain ⟨l, rfl⟩ := Nat.exists_eq_add_of_le (not_lt.1 hhigh)
      rw [← hset (by omega), Nat.or_comm, ← Nat.or_assoc, Nat.or_self]
  have hlt : (if r < 2 ^ k then r + 2 ^ k else r) < 2 ^ (k + 1) := by split <;> omega
  rw [Nat.two_pow_add_eq_or_of_lt hr, Nat.or_assoc, hor, ← Nat.two_pow_add_eq_or_of_lt hlt]

theorem Format.two_pow_fracBits (hf : f.Sound) : f.fracBits = f.fracBits - 1 + 1 := by
  have := hf.fracBits
  omega

/-- A NaN or infinity is its fraction above a multiple of the fraction's weight. -/
theorem Format.pack_infMag_add (f : Format) (neg : Bool) (frac : Nat) :
    f.pack neg (f.infMag + frac) = 2 ^ f.fracBits * ((if neg then 2 ^ f.expBits else 0) + (2 ^ f.expBits - 1)) + frac := by
  rw [Format.pack, f.signBit_eq, Format.infMag]
  split <;> ring

theorem Format.quieted_eq_or (hf : f.Sound) (neg : Bool) {frac : Nat} (h : frac < 2 ^ f.fracBits) :
    f.quieted neg frac = f.pack neg (f.infMag + frac) ||| f.quietBit := by
  have hbits := Format.two_pow_fracBits hf
  rw [Format.quieted, Format.pack_infMag_add, Format.pack_infMag_add, Format.quietBit]
  generalize f.fracBits - 1 = k at hbits
  rw [hbits] at h ⊢
  exact (or_two_pow k _ h).symm

/-! ## NaNs -/

theorem Format.isNaN_unpack (f : Format) (p : Nat) : (f.unpack p).isNaN = f.isNaN p := by
  generalize hv : f.unpack p = v
  unfold Format.isNaN
  cases hv ▸ f.reads_unpack p with
  | nan h => exact (decide_eq_true h).symm
  | inf h => exact (decide_eq_false h.not_gt).symm
  | zero h => exact (decide_eq_false (by omega)).symm
  | finite h => exact (decide_eq_false h.asymm).symm

/-- A NaN reads as its fraction, whose upper bit makes it quiet. -/
theorem Format.unpack_of_isNaN (hf : f.Sound) (hp : p < 2 * f.signBit) (h : f.isNaN p = true) :
    ∃ frac, f.unpack p = .nan (f.negative p) frac ∧ frac = p % f.signBit - f.infMag ∧
      (frac < f.quietBit ↔ f.isSNaN p = true) ∧ f.quieted (f.negative p) frac = p ||| f.quietBit ∧ (f.isSNaN p = false → p ||| f.quietBit = p) := by
  have hmag := of_decide_eq_true h
  have hinf := f.infMag_add
  have hlt := Nat.mod_lt p (Nat.two_pow_pos (f.expBits + f.fracBits))
  change p % f.signBit < f.signBit at hlt
  have hbits := Format.two_pow_fracBits hf
  refine ⟨p % f.signBit - f.infMag, ?_, rfl, ?_⟩
  · generalize hv : f.unpack p = v
    cases hv ▸ f.reads_unpack p with
    | nan => rfl
    | inf h | zero h | finite h => omega
  have hpack : f.pack (f.negative p) (f.infMag + (p % f.signBit - f.infMag)) = p := by
    rw [Nat.add_sub_cancel' hmag.le, f.pack_negative hp]
  have hfrac : p % f.signBit - f.infMag < 2 ^ f.fracBits := by omega
  have hquieted := Format.quieted_eq_or hf (f.negative p) hfrac
  have hsplit := hpack
  rw [hpack] at hquieted
  rw [Format.pack_infMag_add] at hsplit
  generalize p % f.signBit - f.infMag = frac at hquieted hpack hsplit hfrac ⊢
  generalize (if f.negative p then 2 ^ f.expBits else 0) + (2 ^ f.expBits - 1) = top at hsplit
  have hquiet : p / f.quietBit % 2 = 0 ↔ frac < f.quietBit := by
    have hpos : 0 < f.quietBit := Nat.two_pow_pos _
    have htwo : 2 ^ f.fracBits = f.quietBit * 2 := by rw [hbits]; exact pow_succ 2 _
    have hdiv : frac / f.quietBit < 2 := (Nat.div_lt_iff_lt_mul hpos).2 (by omega)
    rw [← hsplit, htwo, Nat.mul_assoc, Nat.mul_add_div hpos, Nat.mul_add_mod, Nat.mod_eq_of_lt hdiv,
      Nat.div_eq_zero_iff_lt hpos]
  have hsnan : frac < f.quietBit ↔ f.isSNaN p = true := by
    rw [Format.isSNaN, h, Bool.true_and, decide_eq_true_iff, hquiet]
  refine ⟨hsnan, hquieted, fun hq => ?_⟩
  rw [← hquieted, Format.quieted, if_neg (mt hsnan.1 (Bool.eq_false_iff.1 hq)), hpack]

theorem Format.isSNaN_unpack (hf : f.Sound) (hp : p < 2 * f.signBit) : (f.unpack p).isSNaN f = f.isSNaN p := by
  by_cases h : f.isNaN p = true
  · obtain ⟨frac, hv, -, hs, -⟩ := Format.unpack_of_isNaN hf hp h
    rw [hv, Bool.eq_iff_iff, ← hs]
    exact decide_eq_true_iff
  · have hv := (f.isNaN_unpack p).trans (Bool.eq_false_iff.2 h)
    rw [Format.isSNaN, Bool.eq_false_iff.2 h, Bool.false_and]
    generalize f.unpack p = v at hv
    cases v with
    | nan => exact Bool.noConfusion hv
    | _ => rfl

/-- A NaN made quiet. -/
def Value.quieted (f : Format) : Value → Nat
  | .nan neg frac => f.quieted neg frac
  | _ => 0

theorem Format.quieted_unpack (hf : f.Sound) (hp : p < 2 * f.signBit) (h : f.isNaN p = true) :
    (f.unpack p).quieted f = p ||| f.quietBit ∧ (f.isSNaN p = false → (f.unpack p).quieted f = p) := by
  obtain ⟨frac, hv, -, -, hquieted, hkeep⟩ := Format.unpack_of_isNaN hf hp h
  rw [hv]
  exact ⟨hquieted, fun hs => hquieted.trans (hkeep hs)⟩

theorem Value.isNaN_of_isSNaN {v : Value} (h : v.isSNaN f = true) : v.isNaN = true := by
  cases v with
  | nan => rfl
  | _ => exact Bool.noConfusion h

theorem Format.isNaN_of_isSNaN (h : f.isSNaN p = true) : f.isNaN p = true := (Bool.and_eq_true_iff.1 h).1

/-- The NaN an operation gives: a signalling one of rs2, then of rs1, then a quiet one of rs2, then of rs1 (45_fp.md
R808). -/
theorem Format.nanResult_eq (f : Format) (a b : Value) :
    f.nanResult a b =
      if b.isSNaN f then some { Computed.exact (b.quieted f) with nv := true }
      else if a.isSNaN f then some { Computed.exact (a.quieted f) with nv := true }
      else if b.isNaN then some (Computed.exact (b.quieted f))
      else if a.isNaN then some (Computed.exact (a.quieted f)) else none := by
  cases b with
  | nan =>
    cases a with
    | nan => rfl
    | _ => rfl
  | _ =>
    cases a with
    | nan neg frac =>
      cases hs : Value.isSNaN f (.nan neg frac) <;> simp only [Format.nanResult, hs] <;> rfl
    | _ => rfl

theorem Format.nanResult_unpack (hf : f.Sound) (hp : p < 2 * f.signBit) (hq : q < 2 * f.signBit) :
    f.nanResult (f.unpack p) (f.unpack q) =
      if f.isSNaN q then some { Computed.exact (q ||| f.quietBit) with nv := true }
      else if f.isSNaN p then some { Computed.exact (p ||| f.quietBit) with nv := true }
      else if f.isNaN q then some (Computed.exact q)
      else if f.isNaN p then some (Computed.exact p) else none := by
  rw [Format.nanResult_eq, Format.isSNaN_unpack hf hp, Format.isSNaN_unpack hf hq, f.isNaN_unpack, f.isNaN_unpack]
  split_ifs with hsq hsp hnq hnp
  · rw [(Format.quieted_unpack hf hq (Format.isNaN_of_isSNaN hsq)).1]
  · rw [(Format.quieted_unpack hf hp (Format.isNaN_of_isSNaN hsp)).1]
  · rw [(Format.quieted_unpack hf hq hnq).2 (Bool.eq_false_iff.2 hsq)]
  · rw [(Format.quieted_unpack hf hp hnp).2 (Bool.eq_false_iff.2 hsp)]
  · rfl

/-! ## Infinities and numbers -/

theorem Format.unpack_of_isInf (hf : f.Sound) (hp : p < 2 * f.signBit) (h : f.isInf p = true) :
    f.unpack p = .inf (f.negative p) ∧ f.infResult (f.negative p) = Computed.exact p := by
  have hmag := of_decide_eq_true h
  have hpos : 0 < f.infMag := Nat.zero_lt_of_lt (Format.one_lt_infMag hf)
  refine ⟨?_, ?_⟩
  · generalize hv : f.unpack p = v
    cases hv ▸ f.reads_unpack p with
    | inf => rfl
    | nan h | zero h | finite h => omega
  · rw [Format.infResult, ← hmag, f.pack_negative hp]

/-- What is neither a NaN nor an infinity is a number. -/
theorem Format.exists_number (hn : f.isNaN p = false) (hi : f.isInf p = false) : ∃ x, f.number p = some x := by
  have hle := of_decide_eq_false hn
  have hne := of_decide_eq_false hi
  rw [Format.number_eq, if_pos (by omega)]
  exact ⟨_, rfl⟩

theorem Value.IsNumber.eq_zero {a : Value} {na : Bool} {x : ℚ} (h : a.IsNumber na x) (hx : x = 0) : a = .zero na := by
  cases h with
  | zero => rfl
  | finite =>
    rw [signed_eq_zero] at hx
    exact absurd hx (by positivity)

section Values

variable {a : Value} {na : Bool} {x : ℚ} (ha : a.IsNumber na x) (m : RoundMode) (nb : Bool)
include ha

theorem Format.addValues_inf_number : f.addValues m (.inf nb) a = f.infResult nb := by cases ha <;> rfl
theorem Format.addValues_number_inf : f.addValues m a (.inf nb) = f.infResult nb := by cases ha <;> rfl
theorem Format.divValues_inf_number : f.divValues m (.inf nb) a = f.infResult (nb != na) := by cases ha <;> rfl
theorem Format.divValues_number_inf : f.divValues m a (.inf nb) = f.zeroResult (na != nb) := by cases ha <;> rfl

theorem Format.mulValues_inf_number :
    f.mulValues m (.inf nb) a = if x = 0 then f.invalid else f.infResult (nb != na) := by
  cases ha with
  | zero => rw [if_pos rfl]; rfl
  | finite => rw [if_neg (by rw [signed_eq_zero]; positivity)]; rfl

theorem Format.mulValues_number_inf :
    f.mulValues m a (.inf nb) = if x = 0 then f.invalid else f.infResult (na != nb) := by
  cases ha with
  | zero => rw [if_pos rfl]; rfl
  | finite => rw [if_neg (by rw [signed_eq_zero]; positivity)]; rfl

end Values

/-- Settles O52: a NaN result is that of `nanResult`; else the operation is on the infinities and numbers read. -/
theorem nansAndInfinities : Obligations.NansAndInfinities := by
  intro f hmem m p q hp hq
  have hf := sound_of_mem hmem
  have hnan := Format.nanResult_unpack hf hp hq
  refine ⟨fun op hop => ?_, fun hnp hnq => ?_⟩
  · obtain ⟨r, hr⟩ : ∃ r, op p q = (f.nanResult (f.unpack p) (f.unpack q)).getD r := by
      simp only [List.mem_cons, List.not_mem_nil, or_false] at hop
      obtain rfl | rfl | rfl | rfl := hop <;> exact ⟨_, rfl⟩
    rw [hr, hnan]
    refine ⟨fun hs => ?_, fun hs hs' => ?_, fun hs hn hs' => ?_, fun hn hn' hs => ?_⟩
    · simp [hs]
    · simp [hs, hs']
    · simp [hs, hn, hs']
    · have hsq : f.isSNaN q = false := by rw [Format.isSNaN, hn, Bool.false_and]
      simp [hn, hn', hs, hsq]
  · have hnone : f.nanResult (f.unpack p) (f.unpack q) = none :=
      Format.nanResult_of_no_nan ((f.isNaN_unpack p).trans hnp) ((f.isNaN_unpack q).trans hnq)
    simp only [Format.add, Format.sub, Format.mul, Format.div, hnone, Option.getD_none]
    refine ⟨fun hip hiq => ?_, fun hip hiq => ?_, fun hip hiq => ?_, fun hzp hzq => ?_⟩
    · obtain ⟨hvp, hep⟩ := Format.unpack_of_isInf hf hp hip
      obtain ⟨hvq, -⟩ := Format.unpack_of_isInf hf hq hiq
      rw [hvp, hvq, ← hep]
      refine ⟨rfl, ?_, rfl, rfl⟩
      cases f.negative p <;> cases f.negative q <;> rfl
    · obtain ⟨hvp, hep⟩ := Format.unpack_of_isInf hf hp hip
      obtain ⟨y, hy⟩ := Format.exists_number hnq hiq
      have hb := Format.isNumber_unpack hy
      rw [hvp, ← hep, hy, Format.addValues_inf_number hb, Format.addValues_inf_number hb.negate,
        Format.mulValues_inf_number hb, Format.divValues_inf_number hb]
      simp only [Option.some.injEq, true_and]
      exact ⟨rfl, rfl⟩
    · obtain ⟨hvq, heq⟩ := Format.unpack_of_isInf hf hq hiq
      obtain ⟨x, hx⟩ := Format.exists_number hnp hip
      have ha := Format.isNumber_unpack hx
      rw [hvq, ← heq, hx, Value.negate, Format.addValues_number_inf ha, Format.addValues_number_inf ha,
        Format.mulValues_number_inf ha, Format.divValues_number_inf ha]
      simp only [Option.some.injEq, true_and]
      exact ⟨rfl, rfl, congrArg Computed.exact (Nat.add_zero _)⟩
    · rw [(Format.isNumber_unpack hzp).eq_zero rfl, (Format.isNumber_unpack hzq).eq_zero rfl]
      rfl

end Sys2Proof.Float
end

section
/-!
PROOFS. The floating-point compares (45_fp.md R816 to R821): `FloatingPointCompares`.
-/

namespace Sys2Proof.Float

variable {f : Format} {a b : Nat}

/-! ## The order of patterns -/

/-- The number of a signed magnitude, so that +0 and -0 are one. -/
def Format.ofKey (f : Format) : Int → ℚ
  | .ofNat k => f.magnitude k
  | .negSucc k => -f.magnitude (k + 1)

theorem Format.ofKey_neg (f : Format) (k : Nat) : f.ofKey (-(k : Int)) = -f.magnitude k := by
  cases k with
  | zero => simp [Format.ofKey]
  | succ k => rfl

theorem Format.ofKey_strictMono (f : Format) : StrictMono f.ofKey := by
  refine strictMono_int_of_lt_succ fun z => ?_
  cases z with
  | ofNat k => exact Format.magnitude_lt.2 (Nat.lt_succ_self k)
  | negSucc k =>
    have hsucc : Int.negSucc k + 1 = -(k : Int) := by omega
    rw [hsucc, f.ofKey_neg]
    exact neg_lt_neg (Format.magnitude_lt.2 (Nat.lt_succ_self k))

/-- A pattern that is no NaN stands for the number of its key. -/
theorem Format.extended_eq_ofKey (hf : f.Sound) (h : f.isNaN a = false) : f.extended a = f.ofKey (f.orderKey a) := by
  have hle := of_decide_eq_false h
  have hkey : f.ofKey (f.orderKey a) = signed (f.negative a) (f.magnitude (a % f.signBit)) := by
    rw [Format.orderKey, ← f.negative_eq_testBit]
    cases f.negative a
    · rfl
    · exact f.ofKey_neg _
  rw [hkey, Format.extended, Format.number_eq]
  split
  · rfl
  next htop =>
    have hinf : a % f.signBit = f.infMag := by omega
    rw [hinf, Format.magnitude_infMag hf]
    rfl

theorem Format.anyNaN_eq (f : Format) (a b : Nat) : f.anyNaN a b = (f.isNaN a || f.isNaN b) := by
  rw [Format.anyNaN, f.isNaN_unpack, f.isNaN_unpack]

theorem Format.compare_eq (hf : f.Sound) (a b : Nat) :
    f.compare a b =
      if f.anyNaN a b then 3#2
      else if f.extended a = f.extended b then 0#2
      else if f.extended a < f.extended b then 1#2
      else 2#2 := by
  rw [Format.compare, ← Format.anyNaN, f.anyNaN_eq]
  split
  · rfl
  next hnan =>
    obtain ⟨ha, hb⟩ := Bool.or_eq_false_iff.1 (Bool.eq_false_iff.2 hnan)
    simp only [Format.extended_eq_ofKey hf ha, Format.extended_eq_ofKey hf hb, f.ofKey_strictMono.injective.eq_iff,
      f.ofKey_strictMono.lt_iff_lt]

theorem Format.anySNaN_eq (hf : f.Sound) (ha : a < 2 * f.signBit) (hb : b < 2 * f.signBit) :
    f.anySNaN a b = (f.isSNaN a || f.isSNaN b) := by
  rw [Format.anySNaN, Format.isSNaN_unpack hf ha, Format.isSNaN_unpack hf hb]

theorem toNat_lt_single (v : BitVec 32) : v.toNat < 2 * single.signBit := v.isLt
theorem toNat_lt_double (v : BitVec 64) : v.toNat < 2 * double.signBit := v.isLt

end Sys2Proof.Float

namespace Sys2Proof.Machine

open Sys2Proof.Float

variable {s : State}

theorem setFcc_eq (s : State) (n : FccSel) (v : BitVec 2) : setFcc s n v = s.setFsr (withFcc s.fsr n v) := by
  have hn : ∀ n : BitVec 2, n = 0#2 ∨ n = 1#2 ∨ n = 2#2 ∨ n = 3#2 := by decide
  obtain rfl | rfl | rfl | rfl := hn n <;> rfl

/-- Completion sets none of the fcc fields, and they do not bear on what it accrues. -/
theorem completed_withFcc (f : Fsr) (n : FccSel) (v : BitVec 2) (c : BitVec 5) :
    (withFcc f n v).completed c = { withFcc f n v with cexc := c, aexc := f.aexc ||| c, ftt := 0#3 } := by
  have haexc : (withFcc f n v).aexc = f.aexc := by unfold withFcc; split <;> rfl
  rw [Fsr.completed, haexc]

/-- Invalid is the only condition of a compare. -/
theorem ieeeOutcome_nv (tem : BitVec 5) (nv : Bool) :
    ieeeOutcome tem { Computed.exact 0 with nv } = (if nv then 0b10000#5 else 0#5, nv && tem.getLsbD 4) := by
  cases nv <;> rfl

/-- A compare writes its relation, or traps with cexc and ftt alone changed (45_fp.md R805, R817). -/
theorem eq_of_fpCompare (hf : s.fpEnabled = true) {n : FccSel} {v : BitVec 2} {nv : Bool} {r : Result}
    (hr : r = fpCompare s n v nv) :
    r =
      .next
        (if nv && s.fsr.tem.getLsbD 4 then
          takeTrap .fpExceptionIeee754 { s with fsr := { s.fsr with cexc := 0b10000#5, ftt := 1#3 } }
        else
          { s.advance with
            fsr :=
              { withFcc s.fsr n v with
                cexc := if nv then 0b10000#5 else 0#5
                aexc := if nv then s.fsr.aexc ||| 0b10000#5 else s.fsr.aexc
                ftt := 0#3 } }) := by
  rw [hr, fpCompare, withFp_of_enabled hf, fpDeliver, ieeeOutcome_nv, setFcc_eq, State.setFsr_fsr, completed_withFcc]
  cases nv with
  | false =>
    simp only [Bool.false_and, Bool.false_eq_true, if_false, BitVec.or_zero]
    rfl
  | true => by_cases htrap : s.fsr.tem.getLsbD 4 = true <;> simp only [Bool.true_and, if_true, htrap] <;> rfl

/-- Settles O54: each compare is `fpCompare` of the relation and of its own NaNs. -/
theorem floatingPointCompares : Obligations.FloatingPointCompares := by
  intro s n rs1 rs2 hf
  simp only [← Format.compare_eq sound_single, ← Format.compare_eq sound_double, ← Format.anyNaN_eq,
    ← Format.anySNaN_eq sound_single (toNat_lt_single _) (toNat_lt_single _),
    ← Format.anySNaN_eq sound_double (toNat_lt_double _) (toNat_lt_double _)]
  exact ⟨eq_of_fpCompare hf rfl, eq_of_fpCompare hf rfl, eq_of_fpCompare hf rfl, eq_of_fpCompare hf rfl⟩

end Sys2Proof.Machine
end

section
/-!
PROOFS. The conversions and FsMULd (45_fp.md R808, R826, R849, R857, R864, R866, R873): `FloatingPointConversions`.
-/

namespace Sys2Proof.Float

variable {f : Format} {m : RoundMode} {a b : Nat} {x y : ℚ}

/-! ## Integers and doubles rounded to a format -/

theorem Format.ofInt_rounds (hf : f.Sound) (m : RoundMode) {n : Int} (h : n ≠ 0) : Rounds f m n (f.ofInt m n) := by
  rw [Format.ofInt, if_neg h]
  refine Format.rounds_of_eq hf (Int.natAbs_pos.2 h) ?_
  rw [signed_natAbs, zpow_zero, mul_one]

theorem doubleToSingle_zero (h : (double.unpack a).IsNumber (double.negative a) 0) :
    doubleToSingle m a = Computed.exact (if double.negative a then 2 ^ 31 else 0) := by
  rw [doubleToSingle, h.eq_zero rfl]
  rfl

theorem doubleToSingle_rounds (h : (double.unpack a).IsNumber (double.negative a) x) (hx : x ≠ 0) :
    Rounds single m x (doubleToSingle m a) := by
  unfold doubleToSingle
  generalize double.unpack a = v at h
  cases h with
  | zero => exact absurd rfl hx
  | finite _ exp hsig => exact Format.rounds_of_eq sound_single hsig rfl

/-! ## Singles as exact doubles -/

/-- The significand and exponent of a finite pattern stay within the bits and the range of the format. -/
theorem Format.finite_bounds (hf : f.Sound) {neg : Bool} {sig : Nat} {exp : Int} (h : f.unpack a = .finite neg sig exp) :
    sig.log2 ≤ f.fracBits ∧ f.minExp - f.fracBits ≤ exp ∧ exp + sig.log2 ≤ f.bias := by
  cases h ▸ f.reads_unpack a with
  | finite hmag hpos hlt hexp hval =>
    refine ⟨Nat.le_of_lt_succ ((Nat.log2_lt hpos.ne').2 hlt), hexp, Int.le_of_lt_add_one ?_⟩
    have hstands : f.Stands sig exp (sig * 2 ^ exp) := .exact rfl
    obtain ⟨hlow, -⟩ := hstands.log2_bounds hpos
    refine (zpow_lt_zpow_iff_right₀ (one_lt_two : (1 : ℚ) < 2)).1 (hlow.trans_lt ?_)
    rw [← Format.magnitude_infMag hf, ← hval]
    exact Format.magnitude_lt.2 hmag

/-- `c` is the double of the number x, with its sign and without a condition. -/
def IsDouble (c : Computed) (neg : Bool) (x : ℚ) : Prop :=
  double.number c.bits = some x ∧ c = Computed.exact c.bits ∧ double.negative c.bits = neg ∧ c.bits < 2 ^ 64

theorem isDouble_zeroResult (neg : Bool) : IsDouble (double.zeroResult neg) neg 0 := by
  have hpos : 0 < double.signBit := Nat.two_pow_pos _
  refine ⟨?_, rfl, double.negative_pack neg hpos, double.pack_lt neg hpos⟩
  change double.number (double.pack neg 0) = some 0
  rw [Format.number_eq, double.pack_mod neg hpos, Format.magnitude_zero, signed_zero,
    if_pos (Nat.zero_lt_of_lt (Format.one_lt_infMag sound_double))]

theorem isDouble_round (m : RoundMode) (neg : Bool) {sig : Nat} {exp : Int} (hsig : 0 < sig) (hbits : sig.log2 ≤ 52)
    (hmin : -1022 ≤ exp) (hmax : exp + sig.log2 < 1023) :
    IsDouble (double.round m neg sig exp) neg (signed neg (sig * 2 ^ exp)) := by
  obtain ⟨bits, hround, hlt, hneg, hnumber⟩ := Format.round_exact sound_double hsig hbits hmin hmax m neg
  rw [hround]
  exact ⟨hnumber, rfl, hneg, hlt⟩

theorem singleToDouble_isDouble (h : single.number a = some x) :
    IsDouble (singleToDouble m a) (single.negative a) x := by
  have hnum := Format.isNumber_unpack h
  unfold singleToDouble
  generalize hv : single.unpack a = v at hnum
  cases hnum with
  | zero => exact isDouble_zeroResult _
  | finite _ exp hsig =>
    obtain ⟨hbits, hmin, hmax⟩ := Format.finite_bounds sound_single hv
    change _ ≤ 23 at hbits
    change (-126 : Int) - 23 ≤ exp at hmin
    change _ ≤ (127 : Int) at hmax
    exact isDouble_round m _ hsig (by omega) (by omega) (by omega)

theorem log2_mul_le {j k : Nat} (hj : 0 < j) (hk : 0 < k) : (j * k).log2 ≤ j.log2 + k.log2 + 1 := by
  refine Nat.le_of_lt_succ ((Nat.log2_lt (Nat.mul_pos hj hk).ne').2 ?_)
  have hpow : 2 ^ (j.log2 + k.log2 + 1).succ = 2 ^ (j.log2 + 1) * 2 ^ (k.log2 + 1) := by
    rw [← pow_add]
    congr 1
    omega
  exact hpow ▸ Nat.mul_lt_mul'' Nat.lt_log2_self Nat.lt_log2_self

theorem singleMulDouble_isDouble (hx : single.number a = some x) (hy : single.number b = some y) :
    IsDouble (singleMulDouble m a b) (single.negative a != single.negative b) (x * y) := by
  have ha := Format.isNumber_unpack hx
  have hb := Format.isNumber_unpack hy
  rw [singleMulDouble, Format.nanResult_of_no_nan ha.isNaN hb.isNaN]
  generalize hva : single.unpack a = va at ha
  generalize hvb : single.unpack b = vb at hb
  cases ha with
  | zero =>
    rw [zero_mul]
    cases hb <;> exact isDouble_zeroResult _
  | @finite _ sa ea hsa =>
    cases hb with
    | zero =>
      rw [mul_zero]
      exact isDouble_zeroResult _
    | @finite _ sb eb hsb =>
      obtain ⟨hbitsa, hmina, hmaxa⟩ := Format.finite_bounds sound_single hva
      obtain ⟨hbitsb, hminb, hmaxb⟩ := Format.finite_bounds sound_single hvb
      have hlog := log2_mul_le hsa hsb
      change _ ≤ 23 at hbitsa hbitsb
      change (-126 : Int) - 23 ≤ _ at hmina hminb
      change _ ≤ (127 : Int) at hmaxa hmaxb
      have hvalue : signed (single.negative a) (sa * 2 ^ ea) * signed (single.negative b) (sb * 2 ^ eb) =
          signed (single.negative a != single.negative b) ((sa * sb : Nat) * 2 ^ (ea + eb)) := by
        rw [signed_mul, zpow_add₀ two_ne_zero]
        push_cast
        congr 1
        ring
      rw [hvalue]
      exact isDouble_round m _ (Nat.mul_pos hsa hsb) (by omega) (by omega) (by omega)

/-! ## Floating point to integer -/

/-- The integer part of a nonnegative number of units, and whether there is more. -/
theorem floor_mul_zpow (sig : Nat) (exp : Int) :
    ⌊(sig : ℚ) * 2 ^ exp⌋ = ((if 0 ≤ exp then sig * 2 ^ exp.toNat else sig / 2 ^ (-exp).toNat : Nat) : Int) ∧
      ((if 0 ≤ exp then false else decide (sig % 2 ^ (-exp).toNat ≠ 0)) =
        decide ((⌊(sig : ℚ) * 2 ^ exp⌋ : ℚ) ≠ sig * 2 ^ exp)) := by
  by_cases h : 0 ≤ exp
  · have hint : (sig : ℚ) * 2 ^ exp = ((sig * 2 ^ exp.toNat : Nat) : Int) := by
      obtain ⟨k, rfl⟩ := Int.eq_ofNat_of_zero_le h
      simp
    rw [if_pos h, if_pos h, hint, Int.floor_intCast]
    exact ⟨rfl, by simp⟩
  · obtain ⟨k, hk⟩ := Int.eq_ofNat_of_zero_le (by omega : 0 ≤ -exp)
    obtain rfl : exp = -(k : Int) := by omega
    have hdiv : (sig : ℚ) * 2 ^ (-(k : Int)) = (sig : ℚ) / ((2 ^ k : Nat) : ℚ) := by
      rw [zpow_neg, zpow_natCast, ← div_eq_mul_inv]
      push_cast
      rfl
    have hfloor : ⌊(sig : ℚ) / ((2 ^ k : Nat) : ℚ)⌋ = ((sig / 2 ^ k : Nat) : Int) := by
      rw [Rat.floor_natCast_div_natCast, Int.natCast_div]
    have htoNat : (-(-(k : Int))).toNat = k := by omega
    rw [if_neg h, if_neg h, hdiv, hfloor, htoNat]
    refine ⟨rfl, decide_eq_decide.2 (not_congr ?_)⟩
    have hne : ((2 ^ k : Nat) : ℚ) ≠ 0 := by positivity
    rw [eq_div_iff hne, ← Nat.dvd_iff_mod_eq_zero, Nat.dvd_iff_div_mul_eq, Int.cast_natCast]
    exact_mod_cast Iff.rfl

/-- A number cut toward zero (45_fp.md R857). -/
def truncated (x : ℚ) : Int := if 0 ≤ x then ⌊x⌋ else ⌈x⌉

theorem truncated_signed (neg : Bool) (hy : 0 < y) : truncated (signed neg y) = if neg then -⌊y⌋ else ⌊y⌋ := by
  cases neg
  · exact if_pos hy.le
  · rw [signed_true, truncated, if_neg (by linarith), Int.ceil_neg, if_pos rfl]

theorem truncated_signed_ne (neg : Bool) (hy : 0 < y) :
    ((truncated (signed neg y) : ℚ) ≠ signed neg y) ↔ ((⌊y⌋ : ℚ) ≠ y) := by
  rw [truncated_signed neg hy]
  cases neg
  · exact Iff.rfl
  · rw [if_pos rfl, signed_true, Int.cast_neg, ne_eq, neg_inj]

/-- The result of a conversion that no integer fits. -/
def extreme (n : Nat) (neg : Bool) : Int := if neg then -(2 ^ (n - 1)) else 2 ^ (n - 1) - 1

theorem Format.toInt_of_none (hf : f.Sound) (n : Nat) (h : f.number a = none) : f.toInt n a = (extreme n (f.negative a), true, false) := by
  rw [Format.number_eq] at h
  unfold Format.toInt
  generalize hv : f.unpack a = v
  cases hv ▸ f.reads_unpack a with
  | nan | inf => rfl
  | zero hmag =>
    rw [hmag, if_pos (Nat.zero_lt_of_lt (Format.one_lt_infMag hf))] at h
    cases h
  | finite hmag => rw [if_pos hmag] at h; cases h

theorem Format.toInt_of_number (n : Nat) (h : f.number a = some x) :
    f.toInt n a =
      if -(2 ^ (n - 1)) ≤ truncated x ∧ truncated x < 2 ^ (n - 1) then
        (truncated x, false, decide ((truncated x : ℚ) ≠ x))
      else (extreme n (f.negative a), true, false) := by
  have hnum := Format.isNumber_unpack h
  unfold Format.toInt
  generalize f.unpack a = v at hnum
  cases hnum with
  | zero =>
    have hzero : truncated 0 = 0 := (if_pos le_rfl).trans Int.floor_zero
    have hpos : (0 : Int) < 2 ^ (n - 1) := by positivity
    rw [hzero, if_pos ⟨by omega, hpos⟩]
    simp
  | @finite _ sig exp hsig =>
    have hy : (0 : ℚ) < sig * 2 ^ exp := by positivity
    obtain ⟨hfloor, hinexact⟩ := floor_mul_zpow sig exp
    have ht := truncated_signed (f.negative a) hy
    simp only [decide_eq_decide.2 (truncated_signed_ne (f.negative a) hy), hinexact]
    rw [hfloor] at ht
    simp only [← ht]
    generalize truncated (signed (f.negative a) (sig * 2 ^ exp)) = t
    have hfits : (2 ^ (n - 1) ≤ t ∨ t ≤ -(2 ^ (n - 1) + 1)) ↔ ¬(-(2 ^ (n - 1)) ≤ t ∧ t < 2 ^ (n - 1)) := by omega
    simp only [hfits, ite_not]
    rfl

/-! ## NaNs and infinities of the conversions -/

/-- A pattern put together again at another place of the sign bit. -/
theorem Format.pack_negative_eq (g : Format) (hp : a < 2 * f.signBit) (mag : Nat) :
    g.pack (f.negative a) mag = a / f.signBit * g.signBit + mag := by
  have hdiv : a / f.signBit < 2 := (Nat.div_lt_iff_lt_mul (Nat.two_pow_pos _)).2 hp
  unfold Format.pack Format.negative
  obtain h | h := Nat.le_one_iff_eq_zero_or_eq_one.1 (Nat.le_of_lt_succ hdiv) <;> simp [h]

/-- The fraction of a NaN is the low bits of its pattern. -/
theorem Format.unpack_nan (hf : f.Sound) (hp : a < 2 * f.signBit) (h : f.isNaN a = true) :
    f.unpack a = .nan (f.negative a) (a % 2 ^ f.fracBits) ∧ decide (a % 2 ^ f.fracBits < f.quietBit) = f.isSNaN a := by
  obtain ⟨frac, hv, hfrac, hsnan, -⟩ := Format.unpack_of_isNaN hf hp h
  have hmag := of_decide_eq_true h
  have hlow : frac = a % 2 ^ f.fracBits := by
    have hinf := f.infMag_add
    have hlt : a % f.signBit < f.signBit := Nat.mod_lt _ (Nat.two_pow_pos _)
    have hsplit : a % f.signBit = 2 ^ f.fracBits * (2 ^ f.expBits - 1) + frac := by
      rw [Nat.mul_comm, ← Format.infMag]
      omega
    rw [(f.div_mod_fields a).2, hsplit, Nat.mul_add_mod, Nat.mod_eq_of_lt (by omega)]
  rw [hv, ← hlow]
  exact ⟨rfl, Bool.eq_iff_iff.2 (decide_eq_true_iff.trans hsnan)⟩

theorem widenNaN_eq (neg : Bool) {frac : Nat} (h : frac < 2 ^ 23) :
    widenNaN neg frac = double.pack neg (double.infMag + (frac ||| 2 ^ 22) * 2 ^ 29) := by
  have hor := or_two_pow 22 0 h
  rw [Nat.mul_zero, Nat.zero_add, Nat.zero_add] at hor
  rw [hor]
  rfl

/-- Widening makes a NaN quiet whether it was or not. -/
theorem widenNaN_or (neg : Bool) {frac : Nat} (h : frac < 2 ^ 23) : widenNaN neg (frac ||| 2 ^ 22) = widenNaN neg frac := by
  rw [widenNaN_eq neg (Nat.or_lt_two_pow h (by decide)), widenNaN_eq neg h, Nat.or_assoc, Nat.or_self]

theorem widenNaN_single (h : a < 2 ^ 32) :
    widenNaN (single.negative a) (a % 2 ^ 23) =
      a / 2 ^ 31 * 2 ^ 63 + 0x7FF0000000000000 + (a % 2 ^ 23 ||| 2 ^ 22) * 2 ^ 29 := by
  rw [widenNaN_eq _ (Nat.mod_lt _ (by decide)), double.pack_negative_eq (f := single) h, ← Nat.add_assoc]
  rfl

theorem singleToDouble_nan (m : RoundMode) (h : a < 2 ^ 32) (hn : single.isNaN a = true) :
    singleToDouble m a =
      { Computed.exact (a / 2 ^ 31 * 2 ^ 63 + 0x7FF0000000000000 + (a % 2 ^ 23 ||| 2 ^ 22) * 2 ^ 29) with
        nv := single.isSNaN a } := by
  obtain ⟨hv, hs⟩ := Format.unpack_nan sound_single h hn
  rw [singleToDouble, hv, ← hs, ← widenNaN_single h]
  rfl

theorem singleToDouble_inf (m : RoundMode) (h : a < 2 ^ 32) (hi : single.isInf a = true) :
    singleToDouble m a = Computed.exact ((if single.negative a then 2 ^ 63 else 0) + 0x7FF0000000000000) := by
  rw [singleToDouble, (Format.unpack_of_isInf sound_single h hi).1]
  rfl

theorem doubleToSingle_nan (m : RoundMode) (h : a < 2 ^ 64) (hn : double.isNaN a = true) :
    doubleToSingle m a =
      { Computed.exact (a / 2 ^ 63 * 2 ^ 31 + 0x7F800000 + (a % 2 ^ 52 / 2 ^ 29 ||| 2 ^ 22)) with
        nv := double.isSNaN a } := by
  obtain ⟨hv, hs⟩ := Format.unpack_nan sound_double h hn
  have hfrac : a % 2 ^ 52 / 2 ^ 29 < 2 ^ (22 + 1) := by omega
  have hor := or_two_pow 22 0 hfrac
  rw [Nat.mul_zero, Nat.zero_add, Nat.zero_add] at hor
  have hquieted : single.quieted (double.negative a) (a % 2 ^ 52 / 2 ^ 29) =
      a / 2 ^ 63 * 2 ^ 31 + 0x7F800000 + (a % 2 ^ 52 / 2 ^ 29 ||| 2 ^ 22) := by
    rw [hor, Nat.add_assoc]
    exact single.pack_negative_eq (f := double) h _
  rw [doubleToSingle, hv, ← hs, ← hquieted]
  rfl

theorem doubleToSingle_inf (m : RoundMode) (h : a < 2 ^ 64) (hi : double.isInf a = true) :
    doubleToSingle m a = Computed.exact (a / 2 ^ 63 * 2 ^ 31 + 0x7F800000) := by
  rw [doubleToSingle, (Format.unpack_of_isInf sound_double h hi).1]
  exact congrArg Computed.exact (single.pack_negative_eq (f := double) h single.infMag)

/-! ## FsMULd of NaNs and infinities -/

/-- The sign and the fraction of a NaN, read off its pattern, give the pattern of its double. -/
theorem widenNaN_of_pattern (h : a < 2 ^ 32) :
    widenNaN (a.testBit 31) (a % 2 ^ 23) =
      a / 2 ^ 31 * 2 ^ 63 + 0x7FF0000000000000 + (a % 2 ^ 23 ||| 2 ^ 22) * 2 ^ 29 := by
  rw [← widenNaN_single h, single.negative_eq_testBit]
  rfl

/-- The same of the NaN made quiet. -/
theorem widenNaN_of_quieted (h : a < 2 ^ 32) :
    widenNaN ((a ||| 2 ^ 22).testBit 31) ((a ||| 2 ^ 22) % 2 ^ 23) =
      a / 2 ^ 31 * 2 ^ 63 + 0x7FF0000000000000 + (a % 2 ^ 23 ||| 2 ^ 22) * 2 ^ 29 := by
  rw [← widenNaN_of_pattern h, Nat.or_mod_two_pow, Nat.mod_eq_of_lt (a := 2 ^ 22) (by decide),
    widenNaN_or _ (Nat.mod_lt _ (by decide)), Nat.testBit_or, Nat.testBit_two_pow_of_ne (by decide), Bool.or_false]

theorem nanResult_single (ha : a < 2 ^ 32) (hb : b < 2 ^ 32) :
    single.nanResult (single.unpack a) (single.unpack b) =
      if single.isSNaN b then some { Computed.exact (b ||| 2 ^ 22) with nv := true }
      else if single.isSNaN a then some { Computed.exact (a ||| 2 ^ 22) with nv := true }
      else if single.isNaN b then some (Computed.exact b)
      else if single.isNaN a then some (Computed.exact a) else none :=
  Format.nanResult_unpack sound_single ha hb

theorem singleMulDouble_nan {r : Computed} (h : single.nanResult (single.unpack a) (single.unpack b) = some r) :
    singleMulDouble m a b = { r with bits := widenNaN (r.bits.testBit 31) (r.bits % 2 ^ 23) } := by
  rw [singleMulDouble, h]

theorem singleMulDouble_no_nan (ha : single.isNaN a = false) (hb : single.isNaN b = false) :
    singleMulDouble m a b = double.mulValues m (single.unpack a) (single.unpack b) := by
  rw [singleMulDouble, Format.nanResult_of_no_nan ((single.isNaN_unpack a).trans ha) ((single.isNaN_unpack b).trans hb)]

/-- A NaN of rs2 gives the result, unless it is quiet and that of rs1 signals. -/
theorem singleMulDouble_nan_rs2 (ha : a < 2 ^ 32) (hb : b < 2 ^ 32) (hn : single.isNaN b = true)
    (hs : single.isSNaN b = true ∨ single.isSNaN a = false) :
    singleMulDouble m a b =
      { Computed.exact (b / 2 ^ 31 * 2 ^ 63 + 0x7FF0000000000000 + (b % 2 ^ 23 ||| 2 ^ 22) * 2 ^ 29) with
        nv := single.isSNaN b } := by
  have hnan := nanResult_single ha hb
  by_cases hsb : single.isSNaN b = true
  · rw [if_pos hsb] at hnan
    rw [singleMulDouble_nan hnan, hsb, ← widenNaN_of_quieted hb, Computed.exact, Computed.exact]
  · rw [if_neg hsb, if_neg (Bool.eq_false_iff.1 (hs.resolve_left hsb)), if_pos hn] at hnan
    rw [singleMulDouble_nan hnan, Bool.eq_false_iff.2 hsb, ← widenNaN_of_pattern hb, Computed.exact, Computed.exact]

theorem singleMulDouble_nan_rs1 (ha : a < 2 ^ 32) (hb : b < 2 ^ 32) (hn : single.isNaN a = true)
    (hs : single.isNaN b = false ∨ single.isSNaN b = false ∧ single.isSNaN a = true) :
    singleMulDouble m a b =
      { Computed.exact (a / 2 ^ 31 * 2 ^ 63 + 0x7FF0000000000000 + (a % 2 ^ 23 ||| 2 ^ 22) * 2 ^ 29) with
        nv := single.isSNaN a } := by
  have hnan := nanResult_single ha hb
  have hsb : ¬single.isSNaN b = true := fun hsb => by
    obtain hnb | ⟨hsb', -⟩ := hs
    · exact Bool.false_ne_true (hnb.symm.trans (Format.isNaN_of_isSNaN hsb))
    · exact Bool.false_ne_true (hsb'.symm.trans hsb)
  rw [if_neg hsb] at hnan
  by_cases hsa : single.isSNaN a = true
  · rw [if_pos hsa] at hnan
    rw [singleMulDouble_nan hnan, hsa, ← widenNaN_of_quieted ha, Computed.exact, Computed.exact]
  · have hnb : ¬single.isNaN b = true := Bool.eq_false_iff.1 (hs.resolve_right fun h => hsa h.2)
    rw [if_neg hsa, if_neg hnb, if_pos hn] at hnan
    rw [singleMulDouble_nan hnan, Bool.eq_false_iff.2 hsa, ← widenNaN_of_pattern ha, Computed.exact, Computed.exact]

theorem singleMulDouble_inf (ha : a < 2 ^ 32) (hb : b < 2 ^ 32) (hna : single.isNaN a = false)
    (hnb : single.isNaN b = false) (hi : single.isInf a = true ∨ single.isInf b = true) :
    singleMulDouble m a b =
      if single.number a = some 0 ∨ single.number b = some 0 then { Computed.exact (2 ^ 63 - 1) with nv := true }
      else Computed.exact
        ((if single.negative a != single.negative b then 2 ^ 63 else 0) + 0x7FF0000000000000) := by
  have hnone {c : Nat} (h : single.isInf c = true) : single.number c ≠ some 0 := by
    rw [Format.number_eq, if_neg (of_decide_eq_true h).not_lt]
    exact nofun
  rw [singleMulDouble_no_nan hna hnb]
  by_cases hia : single.isInf a = true
  · rw [(Format.unpack_of_isInf sound_single ha hia).1]
    by_cases hib : single.isInf b = true
    · rw [(Format.unpack_of_isInf sound_single hb hib).1, if_neg (not_or.2 ⟨hnone hia, hnone hib⟩)]
      rfl
    · obtain ⟨y, hy⟩ := Format.exists_number hnb (Bool.eq_false_iff.2 hib)
      rw [Format.mulValues_inf_number (Format.isNumber_unpack hy), hy]
      simp only [hnone hia, false_or, Option.some.injEq]
      rfl
  · have hib := hi.resolve_left hia
    obtain ⟨x, hx⟩ := Format.exists_number hna (Bool.eq_false_iff.2 hia)
    rw [(Format.unpack_of_isInf sound_single hb hib).1, Format.mulValues_number_inf (Format.isNumber_unpack hx), hx]
    simp only [hnone hib, or_false, Option.some.injEq]
    rfl

/-- Settles O53: a number rounds, exactly where it fits; what is no number goes by its sign and fraction. -/
theorem floatingPointConversions : Obligations.FloatingPointConversions := by
  intro m
  refine ⟨fun f hmem n => ⟨fun h => if_pos h, fun _ _ h => Format.ofInt_rounds (sound_of_mem hmem) m h⟩, ?_, ?_, ?_,
    ⟨?_, ?_, ?_⟩, ?_⟩
  · exact fun a x _ h => singleToDouble_isDouble h
  · exact fun a x _ h => ⟨fun h0 => doubleToSingle_zero (h0 ▸ Format.isNumber_unpack h),
      doubleToSingle_rounds (Format.isNumber_unpack h)⟩
  · intro a b x y _ _ hx hy
    obtain ⟨hnumber, hexact, hneg, -⟩ := singleMulDouble_isDouble (m := m) hx hy
    exact ⟨hnumber, hexact, hneg⟩
  · exact fun a h => ⟨singleToDouble_nan m h, singleToDouble_inf m h⟩
  · exact fun a h => ⟨doubleToSingle_nan m h, doubleToSingle_inf m h⟩
  · exact fun a b ha hb => ⟨singleMulDouble_nan_rs2 ha hb, singleMulDouble_nan_rs1 ha hb, singleMulDouble_inf ha hb⟩
  · exact fun f hmem n _ a _ => ⟨Format.toInt_of_none (sound_of_mem hmem) n, fun x => Format.toInt_of_number n⟩

end Sys2Proof.Float
end

section
/-!
PROOFS. Where a normal trap is delivered and what it sets (60_exceptions.md R1005, R1020 to R1040):
`TrapToPrivilegedMode`, `TrapToHyperprivilegedMode`; CWP at its handler (R1051): `WindowTrapsMoveCwp`; and RETRY
after it (41_control.md R527): `RetryUndoesTheTrap`.
-/

namespace Sys2Proof.Machine

variable {s : State} {e : Exc}

theorem ne_maxTL_of_lt {l : Fin 7} (h : l.val < 6) : l ≠ 6 := fun h6 => by
  rw [h6] at h
  exact absurd h (by decide)

/-! ## The destination of a trap -/

/-- Outside RED_state and below MAXTL - 1 a trap is a normal one (60_exceptions.md R1040). -/
theorem takeTrap_normal (hred : s.hpstate.red = false) (hl : s.tl.val < 5) (e : Exc) :
    takeTrap e s = s.normalTrap e := by
  have hmax : Config.maxTL = 6 := rfl
  rw [takeTrap, if_neg (by omega), if_neg (by rw [hred]; decide), if_neg (by omega)]

/-- The exception is delivered to privileged mode: a P row, detected below hyperprivileged mode and MAXPTL
(60_exceptions.md R1003, R1022). -/
abbrev State.DeliversToPrivileged (s : State) (e : Exc) : Prop :=
  e.privilegedRow = true ∧ s.hpstate.hpriv = false ∧ s.tl.val < 2

theorem Exc.toPrivileged_mode (e : Exc) (s : State) :
    e.toPrivileged s.mode = (e.privilegedRow && !s.hpstate.hpriv) := by
  have hmode : s.mode = .hyperprivileged ↔ s.hpstate.hpriv = true := by
    unfold State.mode
    cases s.hpstate.hpriv <;> cases s.pstate.priv <;> simp
  simp [Exc.toPrivileged, hmode]

/-- What a trap to privileged mode does (60_exceptions.md R1020, R1040). -/
theorem State.normalTrap_privileged (h : s.DeliversToPrivileged e) :
    s.normalTrap e =
      { s with
        tl := nextLevel s.tl
        traps := s.traps.set (trapIndex (nextLevel s.tl)).val (s.savedTrap e.tt) (trapIndex (nextLevel s.tl)).isLt
        gl := nextGlobalLevel s.gl 2
        pstate :=
          { tct := false, cle := s.pstate.tle, tle := s.pstate.tle, pef := true, am := false, priv := true,
            ie := false }
        win := { s.win with cwp := windowTrapCwp e.tt s.win }
        pc := privVector s.tba (decide (0 < s.tl.val)) e.tt
        npc := privVector s.tba (decide (0 < s.tl.val)) e.tt + 4#64 } := by
  obtain ⟨hrow, hhp, hl⟩ := h
  have hgw : decide (Config.maxPTL ≤ s.tl.val) = false := decide_eq_false (by simp only [Config.maxPTL]; omega)
  simp [State.normalTrap, Exc.toPrivileged_mode, hrow, hhp, hgw, Config.maxPGL]

/-- What a trap to hyperprivileged mode does; a P row that gets there from below is a guest watchdog (60_exceptions.md
R1022, R1040). -/
theorem State.normalTrap_hyper (h : ¬s.DeliversToPrivileged e) :
    s.normalTrap e =
      { s with
        tl := nextLevel s.tl
        traps := s.traps.set (trapIndex (nextLevel s.tl)).val (s.savedTrap e.tt) (trapIndex (nextLevel s.tl)).isLt
        gl := nextGlobalLevel s.gl 3
        pstate :=
          { tct := false, cle := false, tle := s.pstate.tle, pef := true, am := false, priv := false, ie := false }
        hpstate := { ibe := false, red := false, hpriv := true, tlz := s.hpstate.tlz }
        win := { s.win with cwp := windowTrapCwp e.tt s.win }
        pc :=
          if e.privilegedRow = true ∧ s.hpstate.hpriv = false then guestWatchdogVector s.htba
          else hyperVector s.htba e.tt
        npc :=
          (if e.privilegedRow = true ∧ s.hpstate.hpriv = false then guestWatchdogVector s.htba
            else hyperVector s.htba e.tt) + 4#64 } := by
  by_cases hp : e.privilegedRow = true ∧ s.hpstate.hpriv = false
  · have hgw : decide (Config.maxPTL ≤ s.tl.val) = true :=
      decide_eq_true (Nat.le_of_not_lt fun hl => h ⟨hp.1, hp.2, hl⟩)
    simp [State.normalTrap, Exc.toPrivileged_mode, hp, hgw, Config.maxGL]
  · have hnp : (e.privilegedRow && !s.hpstate.hpriv) = false := by simpa using hp
    rw [if_neg hp]
    simp [State.normalTrap, Exc.toPrivileged_mode, hnp, Config.maxGL]

theorem State.normalTrap_mode (s : State) (e : Exc) :
    (s.normalTrap e).mode = if s.DeliversToPrivileged e then .privileged else .hyperprivileged := by
  split
  next h => rw [State.normalTrap_privileged h]; simp [State.mode, h.2.1]
  next h => rw [State.normalTrap_hyper h]; rfl

/-! ## The trap stack and the vectors -/

theorem nextLevel_val {l : Fin 7} (h : l.val < 6) : (nextLevel l).val = l.val + 1 := Nat.min_eq_left h

/-- A trap writes the entry of its new level alone (60_exceptions.md R1040). -/
theorem State.savedTraps_other (h : s.tl.val < 6) (x : TrapEntry) {n : Fin 6} (hn : n.val ≠ s.tl.val) :
    (s.traps.set (trapIndex (nextLevel s.tl)).val x (trapIndex (nextLevel s.tl)).isLt).get n = s.traps.get n :=
  get_set_other _ _ _ (by simp only [trapIndex, nextLevel_val h]; omega)

theorem State.normalTrap_traps_other (h : s.tl.val < 6) (e : Exc) {n : Fin 6} (hn : n.val ≠ s.tl.val) :
    (s.normalTrap e).traps.get n = s.traps.get n :=
  s.savedTraps_other h _ hn

theorem toNat_privVector (tba : BitVec 49) (nested : Bool) (tt : TrapType) :
    (privVector tba nested tt).toNat = tba.toNat * 2 ^ 15 + nested.toNat * 2 ^ 14 + tt.toNat * 32 := by
  simp only [privVector, toNat_append_eq_add, BitVec.toNat_ofBool, BitVec.toNat_ofNat]
  omega

theorem toNat_hyperVector (htba : BitVec 50) (tt : TrapType) :
    (hyperVector htba tt).toNat = htba.toNat * 2 ^ 14 + tt.toNat * 32 := by
  simp only [hyperVector, toNat_append_eq_add, BitVec.toNat_ofNat]
  omega

theorem toNat_guestWatchdogVector (htba : BitVec 50) :
    (guestWatchdogVector htba).toNat = htba.toNat * 2 ^ 14 + 0x40 :=
  toNat_append_eq_add ..

/-! ## To privileged and to hyperprivileged mode -/

/-- Settles O16: the trap is a normal one to privileged mode, whose every field is known. -/
theorem trapToPrivilegedMode : Obligations.TrapToPrivilegedMode := by
  intro s e hred hhp hl hrow t
  have h : s.DeliversToPrivileged e := ⟨hrow, hhp, hl⟩
  have hnormal : t = s.normalTrap e := takeTrap_normal hred (by omega) e
  have hentry : t.trapEntry = s.savedTrap e.tt :=
    takeTrap_trapEntry (ne_maxTL_of_lt (by omega)) e
  have hmode : t.mode = .privileged := by rw [hnormal, State.normalTrap_mode, if_pos h]
  have hothers : ∀ n : Fin 6, n.val ≠ s.tl.val → t.traps.get n = s.traps.get n := fun n hn => by
    rw [hnormal, State.normalTrap_traps_other (by omega) e hn]
  have hpc : t.pc.toNat = s.tba.toNat * 2 ^ 15 + (if s.tl.val = 0 then 0 else 2 ^ 14) + e.tt.toNat * 32 := by
    rw [hnormal, State.normalTrap_privileged h, toNat_privVector]
    by_cases h0 : s.tl.val = 0 <;> simp [h0, Nat.pos_iff_ne_zero]
  refine ⟨?tl, ?gl, hmode, ?tpc, ?tnpc, ?trapType, ?htstate, ?ccr, ?asi, ?savedPstate, ?cwp, ?savedGl, ?pstate, hpc,
    ?npc,    hothers, ?rest⟩
  case tl => rw [hnormal]; exact nextLevel_val (by omega)
  case gl => rw [hnormal, State.normalTrap_privileged h]; simp only [nextGlobalLevel]; omega
  case cwp => rw [hentry]; exact BitVec.toNat_setWidth_of_le (by decide)
  case savedGl => rw [hentry]; exact Nat.mod_eq_of_lt (by omega)
  case pstate | npc | rest => rw [hnormal, State.normalTrap_privileged h]
  all_goals rw [hentry]; rfl

/-- The number and the mode of a row of the table are those of its exception (60_exceptions.md R1005, R1025). -/
theorem trapTable_sound : ∀ row ∈ trapTable,
    row.exc.tt.toNat = row.number ∧ row.exc.privilegedRow = row.privileged := by
  have hwindow : ∀ n ∈ List.range 8, ∀ other : Bool,
      (Exc.spill other (BitVec.ofNat 3 n)).tt.toNat = 0x080 + 0x20 * other.toNat + 4 * n ∧
      (Exc.fill other (BitVec.ofNat 3 n)).tt.toNat = 0x0C0 + 0x20 * other.toNat + 4 * n := by decide
  have hsoftware : ∀ n : BitVec 8, (1#1 ++ n : TrapType).toNat = 0x100 + n.toNat := fun n => by
    rw [toNat_append_eq_add]; rfl
  simp only [trapTable, List.forall_mem_append, List.forall_mem_map, List.forall_mem_flatMap]
  refine ⟨⟨⟨⟨by decide, fun n hn => ?_⟩, by decide⟩, fun n hn => ⟨?_, rfl⟩⟩, fun n hn => ⟨?_, rfl⟩⟩
  · obtain ⟨hspill, hfill⟩ := hwindow n hn false
    obtain ⟨hspillOther, hfillOther⟩ := hwindow n hn true
    simp [Exc.privilegedRow, hspill, hfill, hspillOther, hfillOther]
  all_goals
    have hn := List.mem_range.1 hn
    rw [Exc.tt, hsoftware, BitVec.toNat_ofNat]
    omega

/-- Settles O17: the trap is a normal one to hyperprivileged mode; the table is the model's, row by row. -/
theorem trapToHyperprivilegedMode : Obligations.TrapToHyperprivilegedMode := by
  refine ⟨?_, fun row hrow s hred hl => ?_⟩
  · intro s e hred hl hdest t
    have h : ¬s.DeliversToPrivileged e := by
      rintro ⟨hrow, hhp, h2⟩
      simp [hrow, hhp] at hdest
      omega
    have hnormal : t = s.normalTrap e := takeTrap_normal hred hl e
    have hhyper := hnormal.trans (State.normalTrap_hyper h)
    have hentry : t.trapEntry = s.savedTrap e.tt :=
      takeTrap_trapEntry (ne_maxTL_of_lt (by omega)) e
    have hmode : t.mode = .hyperprivileged := by rw [hnormal, State.normalTrap_mode, if_neg h]
    have hothers : ∀ n : Fin 6, n.val ≠ s.tl.val → t.traps.get n = s.traps.get n := fun n hn => by
      rw [hnormal, State.normalTrap_traps_other (by omega) e hn]
    have hpc : t.pc.toNat = s.htba.toNat * 2 ^ 14 +
        (if e.privilegedRow = true ∧ s.hpstate.hpriv = false then 0x40 else e.tt.toNat * 32) := by
      rw [hhyper]
      split
      · exact toNat_guestWatchdogVector _
      · exact toNat_hyperVector _ _
    refine ⟨?tl, ?gl, hmode, hentry, ?pstate, ?hpstate, hpc, ?npc, hothers, ?rest⟩
    case tl => rw [hnormal]; exact nextLevel_val (by omega)
    case gl => rw [hhyper]; simp only [nextGlobalLevel]; omega
    case pstate | hpstate | npc => rw [hhyper]
    case rest => rw [hhyper]; and_intros <;> rfl
  · obtain ⟨htt, hp⟩ := trapTable_sound row hrow
    have h6 : s.tl ≠ 6 := ne_maxTL_of_lt (by omega)
    refine ⟨by rw [takeTrap_trapEntry h6]; exact htt, ?_⟩
    rw [takeTrap_normal hred hl, State.normalTrap_mode, ← hp]

/-! ## CWP at the handler -/

theorem toNat_windowAdd (w : BitVec 3) (n : Nat) : (windowAdd w n).toNat = (w.toNat + n) % 8 := by
  simp [windowAdd, Config.nRegWindows]

/-- The trap types of clean_window, spill and fill are those WindowTrapCWP tells apart (60_exceptions.md R1025,
R1051). -/
theorem windowTrapCwp_tt (e : Exc) (w : WindowRegs) :
    windowTrapCwp e.tt w =
      match e with
      | .cleanWindow => windowAdd w.cwp 1
      | .spill _ _ => windowAdd w.cwp (w.cansave.toNat + 2)
      | .fill _ _ => windowAdd w.cwp 7
      | _ => w.cwp := by
  cases e with
  | spill other n =>
    have hspill : ∀ other n, (Exc.spill other n).tt ≠ 0x024#9 ∧ 0x080 ≤ (Exc.spill other n).tt.toNat ∧
        (Exc.spill other n).tt.toNat ≤ 0x0BF := by decide
    rw [windowTrapCwp, if_neg (hspill other n).1, if_pos (hspill other n).2]
  | fill other n =>
    have hfill : ∀ other n, (Exc.fill other n).tt ≠ 0x024#9 ∧ ¬(Exc.fill other n).tt.toNat ≤ 0x0BF ∧
        0x0C0 ≤ (Exc.fill other n).tt.toNat ∧ (Exc.fill other n).tt.toNat ≤ 0x0FF := by decide
    rw [windowTrapCwp, if_neg (hfill other n).1, if_neg fun h => (hfill other n).2.1 h.2, if_pos (hfill other n).2.2]
    rfl
  | interruptLevel n =>
    have hlevel : ∀ n, (Exc.interruptLevel n).tt ≠ 0x024#9 ∧ (Exc.interruptLevel n).tt.toNat < 0x080 := by decide
    obtain ⟨hne, hlt⟩ := hlevel n
    rw [windowTrapCwp, if_neg hne, if_neg (by omega), if_neg (by omega)]
  | trapInstruction n | htrapInstruction n =>
    have htt : 0x100 ≤ (1#1 ++ n : TrapType).toNat := by rw [toNat_append_eq_add]; exact Nat.le_add_right ..
    have hne : (1#1 ++ n : TrapType) ≠ 0x024#9 := fun h => by rw [h] at htt; exact absurd htt (by decide)
    rw [Exc.tt, windowTrapCwp, if_neg hne, if_neg (by omega), if_neg (by omega)]
  | _ => rfl

/-- Below MAXTL every trap, into RED_state too, moves CWP as its type says (60_exceptions.md R1040, R1041). -/
theorem takeTrap_cwp (h6 : s.tl ≠ 6) (e : Exc) : (takeTrap e s).win.cwp = windowTrapCwp e.tt s.win := by
  obtain ⟨h, -⟩ | ⟨-, _, ht⟩ | ⟨-, -, ht⟩ := takeTrap_cases e s
  · exact absurd h h6
  · rw [ht]; rfl
  · rw [ht]; rfl

/-- Settles O20: a window trap is told by its type, and TSTATE saves the old CWP. -/
theorem windowTrapsMoveCwp : Obligations.WindowTrapsMoveCwp := by
  intro s e hl
  have h6 := ne_maxTL_of_lt hl
  refine ⟨?_, ?_⟩
  · rw [takeTrap_trapEntry h6]
    exact BitVec.toNat_setWidth_of_le (by decide)
  · rw [takeTrap_cwp h6, windowTrapCwp_tt]
    cases e with
    | cleanWindow | spill | fill => exact toNat_windowAdd _ _
    | _ => rfl

/-! ## Back from the trap -/

@[simp] theorem PState.ofBits_bits (p : PState) : PState.ofBits p.bits = p := by
  obtain ⟨tct, cle, tle, pef, am, priv, ie⟩ := p
  revert tct cle tle pef am priv ie
  decide

@[simp] theorem HPState.ofBits_bits (h : HPState) : HPState.ofBits h.bits = h := by
  obtain ⟨ibe, red, hpriv, tlz⟩ := h
  revert ibe red hpriv tlz
  decide

theorem prevLevel_nextLevel {l : Fin 7} (h : l.val < 6) : prevLevel (nextLevel l) = l :=
  Fin.ext (by simp only [prevLevel, nextLevel_val h, Nat.add_sub_cancel])

/-- A trap is taken to a higher mode than nonprivileged (60_exceptions.md R1040). -/
theorem State.isUser_normalTrap (s : State) (e : Exc) : (s.normalTrap e).isUser = false := by
  by_cases h : s.DeliversToPrivileged e
  · rw [State.normalTrap_privileged h, State.isUser, Bool.not_true, Bool.and_false]
  · rw [State.normalTrap_hyper h]
    rfl

/-- A GL up to MAXPGL is restored whatever the modes (60_exceptions.md R1060). -/
theorem State.restoredGl_saved {t : State} {g : Fin 4} (h : t.trapEntry.tstate.gl = BitVec.ofNat 3 g.val)
    (hg : g.val ≤ 2) : t.restoredGl = g := by
  have hnat : t.trapEntry.tstate.gl.toNat = g.val := by rw [h]; exact Nat.mod_eq_of_lt (by omega)
  refine Fin.ext ?_
  simp only [State.restoredGl, hnat, Config.maxPGL]
  split <;> omega

/-- What RETRY restores after a normal trap is what the trap saved and changed. -/
theorem State.returnRetry_normalTrap (hl : s.tl.val < 5) (ham : s.pstate.am = false) (hg : s.gl.val ≤ 2)
    (hentry : (s.normalTrap e).trapEntry = s.savedTrap e.tt) :
    (s.normalTrap e).returnRetry = { s with traps := (s.normalTrap e).traps } := by
  have hgl : (s.normalTrap e).restoredGl = s.gl := State.restoredGl_saved (by rw [hentry]; rfl) hg
  have hmask : ∀ a, s.amMask a = a := fun a => by simp [State.amMask, ham]
  have hcwp : (s.win.cwp.setWidth 5).setWidth 3 = s.win.cwp :=
    (BitVec.setWidth_setWidth_of_le _ (by decide)).trans (BitVec.setWidth_eq _)
  simp only [State.returnRetry, State.returnFromTrapRestore, hentry, hgl]
  simp [State.savedTrap, hmask, hcwp, prevLevel_nextLevel (by omega : s.tl.val < 6)]

/-- Settles O21: RETRY restores the saved entry, and there is nothing else a normal trap changes. -/
theorem retryUndoesTheTrap : Obligations.RetryUndoesTheTrap := by
  intro s e hl hred ham hg
  have hentry := takeTrap_trapEntry (ne_maxTL_of_lt (by omega : s.tl.val < 6)) e
  rw [takeTrap_normal hred hl] at hentry ⊢
  have htl : (s.normalTrap e).tl ≠ 0 := fun h0 => by
    have hv := nextLevel_val (by omega : s.tl.val < 6)
    rw [State.normalTrap_tl] at h0
    rw [h0] at hv
    exact absurd hv (by simp)
  exact (trapReturn_returns (s.isUser_normalTrap e) htl _).trans
    (congrArg Host.Outcome.next (State.returnRetry_normalTrap hl ham hg hentry))

end Sys2Proof.Machine
end

section
/-!
PROOFS. The resets and RED_state (60_exceptions.md R1023, R1041 to R1047; 70_reset_and_hazards.md R1250 to R1255):
`PowerOnResetValues`, `EntriesIntoRedState`, `ErrorStateThenWatchdogReset`.
-/

namespace Sys2Proof.Machine

variable {s t : State} {e : Exc}

/-! ## A step that takes a reset (60_exceptions.md R1001) -/

theorem step_of_beforeFetch (h : beforeFetch s.count = some t) : step s = .next t := by
  simp only [step, h]

/-- Counting leaves the requests and error_state, so a step serves the highest-priority reset asked for. -/
theorem step_powerOnReset (h : s.requests.por = true) : step s = .next s.count.powerOnReset :=
  step_of_beforeFetch (if_pos h)

theorem step_warmReset (hpor : s.requests.por = false) (h : s.requests.wmr = true) :
    step s = .next s.count.warmReset :=
  step_of_beforeFetch ((if_neg (Bool.eq_false_iff.1 hpor)).trans (if_pos h))

theorem step_xirReset (hpor : s.requests.por = false) (hwmr : s.requests.wmr = false) (h : s.requests.xir = true) :
    step s = .next s.count.xirReset :=
  step_of_beforeFetch <| (if_neg (Bool.eq_false_iff.1 hpor)).trans <|
    (if_neg (Bool.eq_false_iff.1 hwmr)).trans (if_pos h)

/-- Without any reset asked for, the trap type kept in error_state or else an error or interrupt decides. -/
theorem beforeFetch_of_no_reset (hpor : s.requests.por = false) (hwmr : s.requests.wmr = false)
    (hxir : s.requests.xir = false) :
    beforeFetch s =
      match s.errorState with
      | some tt => some (s.watchdogReset tt)
      | none =>
        if s.requests.storeError then some s.takeStoreError
        else if s.requests.internalProcessorError then some s.takeIpe
        else if trapLevelZeroPending s then some (takeTrap .trapLevelZero s)
        else (disruptingException s).map fun e => takeTrap e s := by
  rw [beforeFetch_eq, hpor, hwmr, hxir]
  rfl

theorem step_watchdogReset {tt : TrapType} (hpor : s.requests.por = false) (hwmr : s.requests.wmr = false)
    (hxir : s.requests.xir = false) (h : s.errorState = some tt) : step s = .next (s.count.watchdogReset tt) := by
  have herror : s.count.errorState = some tt := h
  exact step_of_beforeFetch (by rw [beforeFetch_of_no_reset (s := s.count) hpor hwmr hxir, herror])

/-! ## Power-on reset -/

/-- Settles O7: a power-on reset gives `State.reset` back but for memory and the free values drawn. -/
theorem powerOnResetValues : Obligations.PowerOnResetValues := by
  unfold Obligations.PowerOnResetValues
  intro IsReset
  have hreset : IsReset State.reset := by
    and_intros <;> decide
  refine ⟨hreset, fun s h => ⟨_, step_powerOnReset h, hreset, rfl, rfl⟩, fun s r h => ?_⟩
  rw [State.hostRequest_por s h]
  exact ⟨rfl, hreset, rfl, rfl⟩

/-! ## Entry into RED_state -/

/-- The state that RED_state is entered with saves the old one at its new level (60_exceptions.md R1041). -/
theorem State.enterRed_trapEntry (s : State) (l : Fin 7) (tt : TrapType) (c : BitVec 3) (z : Bool) (o : BitVec 8) :
    (s.enterRed l tt c z o).trapEntry = s.savedTrap tt :=
  get_set_same _ (trapIndex l) _ (trapIndex l).isLt

theorem State.enterRed_traps_other (s : State) {l : Fin 7} (tt : TrapType) (c : BitVec 3) (z : Bool) (o : BitVec 8)
    {n : Fin 6} (hl : l ≠ 0) (hn : n.val + 1 ≠ l.val) : (s.enterRed l tt c z o).traps.get n = s.traps.get n := by
  have hpos : l.val ≠ 0 := fun h => hl (Fin.ext h)
  exact get_set_other _ _ (trapIndex l).isLt (by simp only [trapIndex]; omega)

theorem nextLevel_ne_zero (l : Fin 7) : nextLevel l ≠ 0 := by
  revert l
  decide

theorem takeTrap_red (h6 : s.tl ≠ 6) (h : s.tl.val = 5 ∨ s.hpstate.red = true) (e : Exc) :
    ∃ tlz, takeTrap e s = s.enterRed (nextLevel s.tl) e.tt (windowTrapCwp e.tt s.win) tlz 0xA0#8 := by
  obtain ⟨hl, -⟩ | ⟨-, ht⟩ | ⟨hl, hred, -⟩ := takeTrap_cases e s
  · exact absurd hl h6
  · exact ht
  · obtain h5 | hr := h
    · omega
    · exact absurd hr (Bool.eq_false_iff.1 hred)

theorem softwareReset_red (h6 : s.tl ≠ 6) :
    s.softwareReset = s.enterRed (nextLevel s.tl) 0x004#9 s.win.cwp false 0x80#8 :=
  if_neg fun h => h6 (Fin.ext h)

/-- An XIR at MAXTL resets too, since the configuration chooses no error_state there (D40). -/
theorem State.xirReset_eq (s : State) :
    s.xirReset =
      { { s with requests := { s.requests with xir := false } }.enterRed (nextLevel s.tl) (s.errorState.getD 0x003#9)
          s.win.cwp false 0x60#8 with errorState := none } :=
  if_neg fun h => Bool.false_ne_true h.2

/-- Settles O18: each entry is `enterRed` with its own level, trap type and vector offset. -/
theorem entriesIntoRedState : Obligations.EntriesIntoRedState := by
  refine ⟨fun s e hl h => ?_, fun s k => ⟨?_, ?_, ?_⟩, fun s hpor => ?_⟩
  · obtain ⟨tlz, ht⟩ := takeTrap_red (ne_maxTL_of_lt hl) h e
    simp only [ht]
    exact ⟨nextLevel_val hl, rfl, rfl, s.enterRed_trapEntry .., rfl, rfl, rfl, rfl, rfl⟩
  · exact fun hhp => if_neg (by rw [hhp]; decide)
  · intro hhp h6
    exact (hyperOnly_of_hpriv hhp).trans (congrArg _ (if_pos (congrArg Fin.val h6)))
  · intro hhp h6
    refine ⟨_, (hyperOnly_of_hpriv hhp).trans (congrArg _ (softwareReset_red h6)), ?_⟩
    have hlt : s.tl.val < 6 := by omega
    exact ⟨nextLevel_val hlt, rfl, s.enterRed_trapEntry .., rfl, rfl, rfl, rfl, rfl⟩
  · refine ⟨fun hwmr => ⟨_, step_warmReset hpor hwmr, ?_, rfl, rfl⟩,
      fun hwmr hxir => ⟨_, step_xirReset hpor hwmr hxir, ?_⟩⟩
    · exact ⟨rfl, rfl, State.enterRed_trapEntry s.count 6 0x001#9 s.win.cwp false 0x20#8, rfl, rfl, rfl, rfl, rfl,
        fun n hn => State.enterRed_traps_other s.count (l := 6) 0x001#9 s.win.cwp false 0x20#8 (by decide) hn, rfl⟩
    · have hgl : nextGlobalLevel s.gl 3 = ⟨min (s.gl.val + 1) 3, by omega⟩ :=
        Fin.ext (by simp only [nextGlobalLevel]; omega)
      rw [State.xirReset_eq]
      refine ⟨⟨rfl, hgl, ?_, rfl, rfl, rfl, rfl, rfl, fun n hn => ?_, rfl⟩, rfl, rfl⟩
      · exact State.enterRed_trapEntry s.count (nextLevel s.tl) _ s.win.cwp false 0x60#8
      · exact State.enterRed_traps_other s.count _ s.win.cwp false 0x60#8 (nextLevel_ne_zero s.tl) hn

/-- Settles O19: at MAXTL a trap does nothing else, and then the step finds error_state before any error or
interrupt. -/
theorem errorStateThenWatchdogReset : Obligations.ErrorStateThenWatchdogReset := by
  refine ⟨fun s e h6 => takeTrap_maxTL h6 e, fun s tt h hpor hwmr hxir => ?_⟩
  exact ⟨_, step_watchdogReset hpor hwmr hxir h, rfl, rfl, rfl, rfl, rfl, rfl,
    congrArg TrapEntry.tt (s.count.enterRed_trapEntry (nextLevel s.tl) tt (windowTrapCwp tt s.win) false 0x40#8), rfl⟩

end Sys2Proof.Machine
end

section
/-!
PROOFS. Decoding of the spec's examples: `SpecWordsDecode`; and one step after its fetch:
`StepRunsTheDecodedInstruction`.
-/

namespace Sys2Proof.Machine

/-- Settles O3: the decoder runs on each word. -/
theorem specWordsDecode : Obligations.SpecWordsDecode := by
  unfold Obligations.SpecWordsDecode
  and_intros <;> rfl

/-- Settles O4: with nothing taken before the fetch, the fetched word's instruction alone decides the step. -/
theorem stepRunsTheDecodedInstruction : Obligations.StepRunsTheDecodedInstruction := by
  intro s pa i hbefore hfetch hdecode
  have hword : decode (fetchWord s.count.mem pa) = .ok i := hdecode
  simp only [step, hbefore, runInstruction_eq, attemptInstruction, hfetch, hword]

end Sys2Proof.Machine
end

section
/-!
PROOFS. The logical operations on F registers, bit by bit (46_vis.md R925 to R956): `LogicalOperationsOnF`.
-/

namespace Sys2Proof.Machine

/-! ## VIS instructions with the FPU enabled -/

section Enabled

variable {s : State} {r : Result} {rd : RegField}

theorem writes_of_visDouble {v : Word} (hfp : s.fpEnabled = true) (hr : r = visDouble s rd v) :
    ∃ t, r = .next t ∧ WritesFD s.advance t rd v := by
  rw [hr, visDouble, withFpDest_of_enabled hfp, complete_eq, State.advance_writeFD]
  exact ⟨_, rfl, writesFD_writeFD ..⟩

theorem writes_of_visSingle {v : HWord} (hfp : s.fpEnabled = true) (hr : r = visSingle s rd v) :
    ∃ t, r = .next t ∧ WritesFS s.advance t rd v := by
  rw [hr, visSingle, withFpDest_of_enabled hfp, complete_eq, State.advance_writeFS]
  exact ⟨_, rfl, writesFS_writeFS ..⟩

end Enabled

/-! ## Operations that are one function of two bits -/

/-- At every width, `op` is `f` bit by bit. -/
def IsBitFunction (f : Bool → Bool → Bool) (op : (w : Nat) → BitVec w → BitVec w → BitVec w) : Prop :=
  ∀ (w : Nat) (x y : BitVec w) (k : Nat), k < w → (op w x y).getLsbD k = f (x.getLsbD k) (y.getLsbD k)

/-- What the statement says of one row: the two forms, and their function of two bits. -/
def LogicalRowHolds (s : State) (rd rs1 rs2 : RegField) (p : Instr × Instr × (Bool → Bool → Bool)) : Prop :=
  (∃ r t, exec p.1 s = .next t ∧ WritesFD s.advance t rd r ∧
    ∀ k, k < 64 → r.getLsbD k = p.2.2 ((s.readFD rs1).getLsbD k) ((s.readFD rs2).getLsbD k)) ∧
  ∃ r t, exec p.2.1 s = .next t ∧ WritesFS s.advance t rd r ∧
    ∀ k, k < 32 → r.getLsbD k = p.2.2 ((s.readFS rs1).getLsbD k) ((s.readFS rs2).getLsbD k)

theorem logicalRowHolds {f : Bool → Bool → Bool} {op : (w : Nat) → BitVec w → BitVec w → BitVec w}
    (hf : IsBitFunction f op) {i j : Instr} {s : State} {rd rs1 rs2 : RegField} (hfp : s.fpEnabled = true)
    (hi : exec i s = visDouble s rd (op 64 (s.readFD rs1) (s.readFD rs2)))
    (hj : exec j s = visSingle s rd (op 32 (s.readFS rs1) (s.readFS rs2))) :
    LogicalRowHolds s rd rs1 rs2 (i, j, f) := by
  obtain ⟨t, ht, hw⟩ := writes_of_visDouble hfp hi
  obtain ⟨u, hu, hv⟩ := writes_of_visSingle hfp hj
  exact ⟨⟨_, t, ht, hw, hf _ _ _⟩, ⟨_, u, hu, hv, hf _ _ _⟩⟩

/-- Settles O60: each of the sixteen operations is its bit function. -/
theorem logicalOperationsOnF : Obligations.LogicalOperationsOnF := by
  intro s rd rs1 rs2 hfp
  change ∀ p ∈ _, LogicalRowHolds s rd rs1 rs2 p
  simp only [List.forall_mem_cons]
  refine ⟨?zero, ?one, ?src1, ?src2, ?not1, ?not2, ?or, ?nor, ?and, ?nand, ?xor, ?xnor, ?ornot1, ?ornot2, ?andnot1,
    ?andnot2, List.forall_mem_nil _⟩
  case zero => exact logicalRowHolds (op := fun w _ _ => 0#w) (fun w x y k hk => by simp) hfp rfl rfl
  case one => exact logicalRowHolds (op := fun w _ _ => .allOnes w) (fun w x y k hk => by simp [hk]) hfp rfl rfl
  case src1 => exact logicalRowHolds (op := fun _ x _ => x) (fun w x y k hk => rfl) hfp rfl rfl
  case src2 => exact logicalRowHolds (op := fun _ _ y => y) (fun w x y k hk => rfl) hfp rfl rfl
  case not1 => exact logicalRowHolds (op := fun _ x _ => ~~~x) (fun w x y k hk => by simp [hk]) hfp rfl rfl
  case not2 => exact logicalRowHolds (op := fun _ _ y => ~~~y) (fun w x y k hk => by simp [hk]) hfp rfl rfl
  case or => exact logicalRowHolds (op := fun _ x y => x ||| y) (fun w x y k hk => by simp) hfp rfl rfl
  case nor => exact logicalRowHolds (op := fun _ x y => ~~~(x ||| y)) (fun w x y k hk => by simp [hk]) hfp rfl rfl
  case and => exact logicalRowHolds (op := fun _ x y => x &&& y) (fun w x y k hk => by simp) hfp rfl rfl
  case nand => exact logicalRowHolds (op := fun _ x y => ~~~(x &&& y)) (fun w x y k hk => by simp [hk]) hfp rfl rfl
  case xor => exact logicalRowHolds (op := fun _ x y => x ^^^ y) (fun w x y k hk => by simp) hfp rfl rfl
  case xnor =>
    exact logicalRowHolds (op := fun _ x y => ~~~(x ^^^ y)) (fun w x y k hk => by simp [hk, ← Bool.bne_eq_xor, bne]) hfp
      rfl rfl
  case ornot1 => exact logicalRowHolds (op := fun _ x y => ~~~x ||| y) (fun w x y k hk => by simp [hk]) hfp rfl rfl
  case ornot2 => exact logicalRowHolds (op := fun _ x y => x ||| ~~~y) (fun w x y k hk => by simp [hk]) hfp rfl rfl
  case andnot1 => exact logicalRowHolds (op := fun _ x y => ~~~x &&& y) (fun w x y k hk => by simp [hk]) hfp rfl rfl
  case andnot2 => exact logicalRowHolds (op := fun _ x y => x &&& ~~~y) (fun w x y k hk => by simp [hk]) hfp rfl rfl

end Sys2Proof.Machine
end

section
/-!
PROOFS. Partitioned compares, additions and subtractions, lane by lane (46_vis.md R903, R916 to R924):
`PartitionedArithmetic`.
-/

namespace Sys2Proof.Machine

/-! ## Lanes -/

section Lanes

variable {n j : Nat}

theorem extractLsb'_two (f : Nat → BitVec n) (hj : j < 2) : (f 1 ++ f 0).extractLsb' (n * j) n = f j := by
  match j with
  | 0 => exact BitVec.extractLsb'_append_eq_right
  | 1 => rw [Nat.mul_one, BitVec.extractLsb'_append_eq_left]

theorem extractLsb'_four (f : Nat → BitVec n) (hj : j < 4) :
    (f 3 ++ f 2 ++ f 1 ++ f 0).extractLsb' (n * j) n = f j := by
  match j with
  | 0 => exact BitVec.extractLsb'_append_eq_right
  | k + 1 =>
    rw [BitVec.extractLsb'_append_eq_of_le (Nat.le_mul_of_pos_right n k.succ_pos), Nat.mul_succ, Nat.add_sub_cancel]
    match k with
    | 0 => exact BitVec.extractLsb'_append_eq_right
    | k + 1 =>
      rw [BitVec.extractLsb'_append_eq_of_le (Nat.le_mul_of_pos_right n k.succ_pos), Nat.mul_succ, Nat.add_sub_cancel]
      exact extractLsb'_two (fun k => f (k + 2)) (by omega)

end Lanes

section Operands

variable {a b : Word} {x y : HWord} {j : Nat}

/-- Lane j of a partitioned operation is the operation on lane j. -/
theorem extractLsb'_lanes16 (op : BitVec 16 → BitVec 16 → BitVec 16) (h : 16 * j < 64) :
    (lanes16 op a b).extractLsb' (16 * j) 16 = op (a.extractLsb' (16 * j) 16) (b.extractLsb' (16 * j) 16) :=
  extractLsb'_four (fun j => op (a.extractLsb' (16 * j) 16) (b.extractLsb' (16 * j) 16)) (by omega)

theorem extractLsb'_lanes32 (op : HWord → HWord → HWord) (h : 32 * j < 64) :
    (lanes32 op a b).extractLsb' (32 * j) 32 = op (a.extractLsb' (32 * j) 32) (b.extractLsb' (32 * j) 32) :=
  extractLsb'_two (fun j => op (a.extractLsb' (32 * j) 32) (b.extractLsb' (32 * j) 32)) (by omega)

theorem extractLsb'_lanes16s (op : BitVec 16 → BitVec 16 → BitVec 16) (h : 16 * j < 32) :
    (lanes16s op x y).extractLsb' (16 * j) 16 = op (x.extractLsb' (16 * j) 16) (y.extractLsb' (16 * j) 16) :=
  extractLsb'_two (fun j => op (x.extractLsb' (16 * j) 16) (y.extractLsb' (16 * j) 16)) (by omega)

/-- The only 32-bit lane of a word is the word. -/
theorem extractLsb'_lanes32s (op : HWord → HWord → HWord) (h : 32 * j < 32) :
    (op x y).extractLsb' (32 * j) 32 = op (x.extractLsb' (32 * j) 32) (y.extractLsb' (32 * j) 32) := by
  obtain rfl : j = 0 := by omega
  simp only [Nat.mul_zero, BitVec.extractLsb'_eq_self]

theorem getLsbD_append_ofBool {m : Nat} (v : BitVec m) (x : Bool) (j : Nat) :
    (v ++ BitVec.ofBool x).getLsbD j = if j = 0 then x else v.getLsbD (j - 1) := by
  rw [BitVec.getLsbD_append]
  cases j with
  | zero => simp
  | succ k => simp

theorem getLsbD_twoBits (f : Nat → Bool) (j : Nat) :
    (BitVec.ofBool (f 1) ++ BitVec.ofBool (f 0)).getLsbD j = (decide (j < 2) && f j) := by
  rw [getLsbD_append_ofBool]
  match j with
  | 0 | 1 | k + 2 => simp

theorem getLsbD_fourBits (f : Nat → Bool) (j : Nat) :
    (BitVec.ofBool (f 3) ++ BitVec.ofBool (f 2) ++ BitVec.ofBool (f 1) ++ BitVec.ofBool (f 0)).getLsbD j =
      (decide (j < 4) && f j) := by
  rw [getLsbD_append_ofBool, getLsbD_append_ofBool, getLsbD_append_ofBool]
  match j with
  | 0 | 1 | 2 | 3 | k + 4 => simp

/-- Bit j of a partitioned compare is the relation on lane j, and 0 above the lanes. -/
theorem getLsbD_compare16 (rel : BitVec 16 → BitVec 16 → Bool) (hj : j < 64) :
    (compare16 rel a b).getLsbD j =
      (decide (16 * j < 64) && rel (a.extractLsb' (16 * j) 16) (b.extractLsb' (16 * j) 16)) := by
  have hbits := getLsbD_fourBits (fun j => rel (a.extractLsb' (16 * j) 16) (b.extractLsb' (16 * j) 16)) j
  have hlane : j < 4 ↔ 16 * j < 64 := by omega
  rw [compare16, BitVec.getLsbD_setWidth, decide_eq_true hj, Bool.true_and, ← decide_eq_decide.2 hlane]
  exact hbits

theorem getLsbD_compare32 (rel : HWord → HWord → Bool) (hj : j < 64) :
    (compare32 rel a b).getLsbD j =
      (decide (32 * j < 64) && rel (a.extractLsb' (32 * j) 32) (b.extractLsb' (32 * j) 32)) := by
  have hbits := getLsbD_twoBits (fun j => rel (a.extractLsb' (32 * j) 32) (b.extractLsb' (32 * j) 32)) j
  have hlane : j < 2 ↔ 32 * j < 64 := by omega
  rw [compare32, BitVec.getLsbD_setWidth, decide_eq_true hj, Bool.true_and, ← decide_eq_decide.2 hlane]
  exact hbits

end Operands

/-! ## Relations and operations of lanes are those of the exact integers -/

/-- `rel` is `r` of the signed values. -/
def IsSignedRelation (r : Int → Int → Bool) (rel : (w : Nat) → BitVec w → BitVec w → Bool) : Prop :=
  ∀ (w : Nat) (x y : BitVec w), rel w x y = r x.toInt y.toInt

theorem isSignedRelation_gt : IsSignedRelation (fun x y => decide (y < x)) fun _ x y => y.slt x :=
  fun _ _ _ => BitVec.slt_eq_decide

theorem isSignedRelation_le : IsSignedRelation (fun x y => decide (x ≤ y)) fun _ x y => x.sle y :=
  fun _ _ _ => BitVec.sle_eq_decide

theorem isSignedRelation_eq : IsSignedRelation (fun x y => decide (x = y)) fun _ x y => x == y := fun _ x y => by
  simp only [BitVec.toInt_inj, beq_eq_decide]

theorem isSignedRelation_ne : IsSignedRelation (fun x y => decide (x ≠ y)) fun _ x y => x != y := fun _ x y => by
  simp only [ne_eq, BitVec.toInt_inj, bne, beq_eq_decide, decide_not]

/-- `op` is the exact sum of x and k times y, modulo the width. -/
def IsSumModulo (k : Int) (op : (w : Nat) → BitVec w → BitVec w → BitVec w) : Prop :=
  ∀ (w : Nat) (x y : BitVec w), op w x y = BitVec.ofInt w (x.toInt + k * y.toInt)

theorem isSumModulo_add : IsSumModulo 1 fun _ x y => x + y := fun _ x y => by
  rw [Int.one_mul, BitVec.ofInt_add, BitVec.ofInt_toInt, BitVec.ofInt_toInt]

theorem isSumModulo_sub : IsSumModulo (-1) fun _ x y => x - y := fun _ x y => by
  rw [Int.neg_one_mul, ← Int.sub_eq_add_neg, ofInt_sub, BitVec.ofInt_toInt, BitVec.ofInt_toInt]

/-! ## The rows of the statement -/

section Rows

variable {s : State} {rd rs1 rs2 : RegField} {i : RegField → RegField → RegField → Instr}

/-- What the statement says of a compare with lanes of n bits. -/
def CompareRowHolds (s : State) (rd rs1 rs2 : RegField)
    (p : (RegField → RegField → RegField → Instr) × Nat × (Int → Int → Bool)) : Prop :=
  ∃ m t, exec (p.1 rd rs1 rs2) s = .next t ∧ WritesR s.advance t rd m ∧
    ∀ j, j < 64 → m.getLsbD j =
      (decide (p.2.1 * j < 64) &&
        p.2.2 ((s.readFD rs1).extractLsb' (p.2.1 * j) p.2.1).toInt ((s.readFD rs2).extractLsb' (p.2.1 * j) p.2.1).toInt)

variable {r : Int → Int → Bool} {rel : (w : Nat) → BitVec w → BitVec w → Bool}

theorem writes_of_visCompare {res : Result} {m : Word} (hfp : s.fpEnabled = true) (hr : res = visCompare s rd m) :
    ∃ t, res = .next t ∧ WritesR s.advance t rd m :=
  writes_of_writeBack (hr.trans (withFp_of_enabled hfp)) rfl rfl

theorem compareRowHolds_16 (hrel : IsSignedRelation r rel) (hfp : s.fpEnabled = true)
    (hi : exec (i rd rs1 rs2) s = visCompare s rd (compare16 (rel 16) (s.readFD rs1) (s.readFD rs2))) :
    CompareRowHolds s rd rs1 rs2 (i, 16, r) := by
  obtain ⟨t, ht, hw⟩ := writes_of_visCompare hfp hi
  exact ⟨_, t, ht, hw, fun j hj => by rw [getLsbD_compare16 _ hj, hrel]⟩

theorem compareRowHolds_32 (hrel : IsSignedRelation r rel) (hfp : s.fpEnabled = true)
    (hi : exec (i rd rs1 rs2) s = visCompare s rd (compare32 (rel 32) (s.readFD rs1) (s.readFD rs2))) :
    CompareRowHolds s rd rs1 rs2 (i, 32, r) := by
  obtain ⟨t, ht, hw⟩ := writes_of_visCompare hfp hi
  exact ⟨_, t, ht, hw, fun j hj => by rw [getLsbD_compare32 _ hj, hrel]⟩

/-- What the statement says of an addition or subtraction of doubles. -/
def DoubleRowHolds (s : State) (rd rs1 rs2 : RegField)
    (p : (RegField → RegField → RegField → Instr) × Nat × Int) : Prop :=
  ∃ r t, exec (p.1 rd rs1 rs2) s = .next t ∧ WritesFD s.advance t rd r ∧
    ∀ j, p.2.1 * j < 64 → r.extractLsb' (p.2.1 * j) p.2.1 =
      BitVec.ofInt p.2.1 (((s.readFD rs1).extractLsb' (p.2.1 * j) p.2.1).toInt +
        p.2.2 * ((s.readFD rs2).extractLsb' (p.2.1 * j) p.2.1).toInt)

/-- What the statement says of an addition or subtraction of singles. -/
def SingleRowHolds (s : State) (rd rs1 rs2 : RegField)
    (p : (RegField → RegField → RegField → Instr) × Nat × Int) : Prop :=
  ∃ r t, exec (p.1 rd rs1 rs2) s = .next t ∧ WritesFS s.advance t rd r ∧
    ∀ j, p.2.1 * j < 32 → r.extractLsb' (p.2.1 * j) p.2.1 =
      BitVec.ofInt p.2.1 (((s.readFS rs1).extractLsb' (p.2.1 * j) p.2.1).toInt +
        p.2.2 * ((s.readFS rs2).extractLsb' (p.2.1 * j) p.2.1).toInt)

variable {k : Int} {op : (w : Nat) → BitVec w → BitVec w → BitVec w}

theorem doubleRowHolds_16 (hop : IsSumModulo k op) (hfp : s.fpEnabled = true)
    (hi : exec (i rd rs1 rs2) s = visDouble s rd (lanes16 (op 16) (s.readFD rs1) (s.readFD rs2))) :
    DoubleRowHolds s rd rs1 rs2 (i, 16, k) := by
  obtain ⟨t, ht, hw⟩ := writes_of_visDouble hfp hi
  exact ⟨_, t, ht, hw, fun j hj => by rw [extractLsb'_lanes16 _ hj, hop]⟩

theorem doubleRowHolds_32 (hop : IsSumModulo k op) (hfp : s.fpEnabled = true)
    (hi : exec (i rd rs1 rs2) s = visDouble s rd (lanes32 (op 32) (s.readFD rs1) (s.readFD rs2))) :
    DoubleRowHolds s rd rs1 rs2 (i, 32, k) := by
  obtain ⟨t, ht, hw⟩ := writes_of_visDouble hfp hi
  exact ⟨_, t, ht, hw, fun j hj => by rw [extractLsb'_lanes32 _ hj, hop]⟩

theorem singleRowHolds_16 (hop : IsSumModulo k op) (hfp : s.fpEnabled = true)
    (hi : exec (i rd rs1 rs2) s = visSingle s rd (lanes16s (op 16) (s.readFS rs1) (s.readFS rs2))) :
    SingleRowHolds s rd rs1 rs2 (i, 16, k) := by
  obtain ⟨t, ht, hw⟩ := writes_of_visSingle hfp hi
  exact ⟨_, t, ht, hw, fun j hj => by rw [extractLsb'_lanes16s _ hj, hop]⟩

theorem singleRowHolds_32 (hop : IsSumModulo k op) (hfp : s.fpEnabled = true)
    (hi : exec (i rd rs1 rs2) s = visSingle s rd (op 32 (s.readFS rs1) (s.readFS rs2))) :
    SingleRowHolds s rd rs1 rs2 (i, 32, k) := by
  obtain ⟨t, ht, hw⟩ := writes_of_visSingle hfp hi
  exact ⟨_, t, ht, hw, fun j hj => by rw [extractLsb'_lanes32s _ hj, hop]⟩

end Rows

/-- Settles O59: each compare is its relation and each addition or subtraction its sum, in every lane. -/
theorem partitionedArithmetic : Obligations.PartitionedArithmetic := by
  intro s rd rs1 rs2 hfp
  change (∀ p ∈ _, CompareRowHolds s rd rs1 rs2 p) ∧ (∀ p ∈ _, DoubleRowHolds s rd rs1 rs2 p) ∧
    ∀ p ∈ _, SingleRowHolds s rd rs1 rs2 p
  simp only [List.forall_mem_cons]
  refine ⟨⟨?gt16, ?gt32, ?le16, ?le32, ?ne16, ?ne32, ?eq16, ?eq32, List.forall_mem_nil _⟩,
    ⟨?add16, ?add32, ?sub16, ?sub32, List.forall_mem_nil _⟩,
    ⟨?add16s, ?add32s, ?sub16s, ?sub32s, List.forall_mem_nil _⟩⟩
  case gt16 => exact compareRowHolds_16 isSignedRelation_gt hfp rfl
  case gt32 => exact compareRowHolds_32 isSignedRelation_gt hfp rfl
  case le16 => exact compareRowHolds_16 isSignedRelation_le hfp rfl
  case le32 => exact compareRowHolds_32 isSignedRelation_le hfp rfl
  case ne16 => exact compareRowHolds_16 isSignedRelation_ne hfp rfl
  case ne32 => exact compareRowHolds_32 isSignedRelation_ne hfp rfl
  case eq16 => exact compareRowHolds_16 isSignedRelation_eq hfp rfl
  case eq32 => exact compareRowHolds_32 isSignedRelation_eq hfp rfl
  case add16 => exact doubleRowHolds_16 isSumModulo_add hfp rfl
  case add32 => exact doubleRowHolds_32 isSumModulo_add hfp rfl
  case sub16 => exact doubleRowHolds_16 isSumModulo_sub hfp rfl
  case sub32 => exact doubleRowHolds_32 isSumModulo_sub hfp rfl
  case add16s => exact singleRowHolds_16 isSumModulo_add hfp rfl
  case add32s => exact singleRowHolds_32 isSumModulo_add hfp rfl
  case sub16s => exact singleRowHolds_16 isSumModulo_sub hfp rfl
  case sub32s => exact singleRowHolds_32 isSumModulo_sub hfp rfl

end Sys2Proof.Machine
end

section
/-!
PROOFS. Alignment, byte shuffle and SIAM (46_vis.md R882, R883, R887, R888, R902, R958): `AlignAndShuffle`.
-/

namespace Sys2Proof.Machine

/-! ## The aligned sum -/

section Align

variable {a b : Word} {m n : Nat}

theorem add_eq_ofNat_sum (a b : Word) : a + b = BitVec.ofNat 64 ((a.toNat + b.toNat) % 2 ^ 64) :=
  BitVec.eq_of_toNat_eq (by rw [BitVec.toNat_add, BitVec.toNat_ofNat, Nat.mod_mod])

theorem toNat_ofNat_of_lt (h : n < 2 ^ m) : (BitVec.ofNat m n).toNat = n := Nat.mod_eq_of_lt h

theorem extractLsb'_align (h : n < 2 ^ 64) : (BitVec.ofNat 64 n).extractLsb' 0 3 = BitVec.ofNat 3 (n % 8) := by
  rw [extractLsb'_zero_eq_ofNat, toNat_ofNat_of_lt h]
  exact BitVec.eq_of_toNat_eq (by simp only [BitVec.toNat_ofNat]; omega)

theorem neg_extractLsb'_align (h : n < 2 ^ 64) :
    -(BitVec.ofNat 64 n).extractLsb' 0 3 = BitVec.ofNat 3 (8 - n % 8) := by
  rw [extractLsb'_align h]
  exact BitVec.eq_of_toNat_eq (by simp only [BitVec.toNat_neg, BitVec.toNat_ofNat]; omega)

/-- The sum with its low three bits cleared. -/
theorem aligned_append_zero (h : n < 2 ^ 64) :
    (BitVec.ofNat 64 n).extractLsb' 3 61 ++ 0#3 = BitVec.ofNat 64 (n / 8 * 8) := by
  apply BitVec.eq_of_toNat_eq
  refine (toNat_append_zero ..).trans ?_
  rw [extractLsb'_eq_ofNat, toNat_ofNat_of_lt h]
  simp only [BitVec.toNat_ofNat]
  omega

/-- The address forms of ALIGNADDRESS write the aligned sum, and GSR.align as `align` makes it of the low bits. -/
theorem writes_of_visAlignAddress {s : State} {r : Result} {align : BitVec 3 → BitVec 3} {rd rs1 rs2 : RegField}
    {g : BitVec 3} (hfp : s.fpEnabled = true) (hr : r = visAlignAddress s align rd rs1 rs2)
    (hn : n = ((s.readR rs1).toNat + (s.readR rs2).toNat) % 2 ^ 64)
    (hg : align ((BitVec.ofNat 64 n).extractLsb' 0 3) = g) :
    ∃ t, r = .next t ∧
      WritesR { s.advance with gsr := { s.gsr with align := g } } t rd (BitVec.ofNat 64 (n / 8 * 8)) := by
  subst hn hg hr
  rw [visAlignAddress, withFp_of_enabled hfp, add_eq_ofNat_sum]
  exact writes_of_writeBack rfl rfl (aligned_append_zero (Nat.mod_lt _ (by decide)))

/-! ## Bytes of two doublewords -/

theorem toNat_byteOf128 (v : BitVec 128) (k : BitVec 4) :
    (byteOf128 v k).toNat = v.toNat / 256 ^ (15 - k.toNat) % 256 := by
  rw [byteOf128, extractLsb'_eq_ofNat, BitVec.toNat_ofNat, Nat.pow_mul]

/-- The doubleword whose byte k, byte 0 the most significant, is `f k`. -/
def eightBytes (f : Nat → Byte) : Word := f 0 ++ f 1 ++ f 2 ++ f 3 ++ f 4 ++ f 5 ++ f 6 ++ f 7

theorem toNat_eightBytes (f : Nat → Byte) {k : Nat} (hk : k < 8) :
    (eightBytes f).toNat / 256 ^ (7 - k) % 256 = (f k).toNat := by
  have hv : (eightBytes f).toNat =
      ((((((((f 0).toNat * 2 ^ 8 + (f 1).toNat) * 2 ^ 8 + (f 2).toNat) * 2 ^ 8 + (f 3).toNat) * 2 ^ 8 +
        (f 4).toNat) * 2 ^ 8 + (f 5).toNat) * 2 ^ 8 + (f 6).toNat) * 2 ^ 8 + (f 7).toNat) := by
    refine (toNat_append_eq_add ..).trans ?_
    simp only [toNat_append_eq_add]
  rw [hv]
  interval_cases k <;> omega

end Align

theorem siam_mode : ∀ mode : BitVec 3,
    mode.getLsbD 2 = decide (4 ≤ mode.toNat) ∧ mode.extractLsb' 0 2 = BitVec.ofNat 2 mode.toNat := by decide

/-- Byte k of the shuffle is the one that GSR.mask names in its k-th digit. -/
theorem toNat_shuffleBytes (v : BitVec 128) (mask : BitVec 32) {k : Nat} (hk : k < 8) :
    (shuffleBytes v mask).toNat / 256 ^ (7 - k) % 256 =
      v.toNat / 256 ^ (15 - mask.toNat / 16 ^ (7 - k) % 16) % 256 := by
  have hdigit : (mask.extractLsb' (4 * (7 - k)) 4).toNat = mask.toNat / 16 ^ (7 - k) % 16 := by
    rw [extractLsb'_eq_ofNat, BitVec.toNat_ofNat, Nat.pow_mul]
  have hbyte := toNat_eightBytes (fun k => byteOf128 v (mask.extractLsb' (4 * (7 - k)) 4)) hk
  rw [toNat_byteOf128, hdigit] at hbyte
  exact hbyte

/-- Settles O58. -/
theorem alignAndShuffle : Obligations.AlignAndShuffle := by
  intro s rd rs1 rs2 hfp sum bytes
  have hsum : sum < 2 ^ 64 := Nat.mod_lt _ (by decide)
  have hbytes : (s.readFD rs1 ++ s.readFD rs2).toNat = bytes := toNat_append_eq_add ..
  refine ⟨?address, ?little, ?bmask, ?faligndata, ?bshuffle, fun mode => ?siam⟩
  case address => exact writes_of_visAlignAddress (align := fun a => a) hfp rfl rfl (extractLsb'_align hsum)
  case little => exact writes_of_visAlignAddress (align := fun a => -a) hfp rfl rfl (neg_extractLsb'_align hsum)
  case bmask =>
    have hmask : (s.readR rs1 + s.readR rs2).extractLsb' 0 32 = BitVec.ofNat 32 sum := by
      rw [add_eq_ofNat_sum, extractLsb'_zero_eq_ofNat, toNat_ofNat_of_lt hsum]
    rw [← hmask]
    exact writes_of_writeBack (withFp_of_enabled hfp) rfl (add_eq_ofNat_sum ..)
  case faligndata =>
    rw [← hbytes, ← extractLsb'_eq_ofNat]
    exact writes_of_visDouble hfp rfl
  case bshuffle =>
    obtain ⟨t, ht, hw⟩ := writes_of_visDouble (r := exec (.bshuffle rd rs1 rs2) s) hfp rfl
    exact ⟨_, t, ht, hw, fun k hk => hbytes ▸ toNat_shuffleBytes _ _ hk⟩
  case siam =>
    obtain ⟨him, hirnd⟩ := siam_mode mode
    rw [← him, ← hirnd]
    exact withFp_of_enabled hfp

end Sys2Proof.Machine
end

section
/-!
PROOFS. Edge masks and array addresses (46_vis.md R884 to R886, R889 to R901): `EdgesAndArrays`.
-/

namespace Sys2Proof.Machine

/-! ## Edge masks -/

/-- What the statement says of one edge instruction, with and without condition codes. -/
def EdgeRowHolds (s : State) (rd rs1 rs2 : RegField)
    (p : (RegField → RegField → RegField → Instr) × (RegField → RegField → RegField → Instr) × Nat × Bool) : Prop :=
  let a := s.readR rs1
  let b := s.readR rs2
  let lanes := 8 / p.2.2.1
  ∃ mask : Word,
    (∀ j, j < 64 →
      let lane := if p.2.2.2 then j else lanes - 1 - j
      mask.getLsbD j =
        decide (j < lanes ∧ a.toNat % 8 / p.2.2.1 ≤ lane ∧
          ((if s.pstate.am then a.toNat % 2 ^ 32 / 8 = b.toNat % 2 ^ 32 / 8 else a.toNat / 8 = b.toNat / 8) →
            lane ≤ b.toNat % 8 / p.2.2.1))) ∧
    (∃ t, exec (p.2.1 rd rs1 rs2) s = .next t ∧ WritesR s.advance t rd mask) ∧
    ∃ t, exec (p.1 rd rs1 rs2) s = .next t ∧
      WritesR { s.advance with ccr := exactSubCC a b 0 (BitVec.ofInt 64 (a.toInt - b.toInt)) } t rd mask

section Edges

variable {z : EdgeSize} {j : Nat}

/-- How many bytes a partition of an edge mask stands for. -/
def EdgeSize.bytes : EdgeSize → Nat
  | .e8 => 1
  | .e16 => 2
  | .e32 => 4

theorem EdgeSize.lanes_eq (z : EdgeSize) : z.lanes = 8 / z.bytes := by cases z <;> rfl

theorem EdgeSize.lanes_le (z : EdgeSize) : z.lanes ≤ 8 := by cases z <;> decide

/-- The partition of an address is its place in the doubleword by the partition's size. -/
theorem EdgeSize.index_eq (z : EdgeSize) (a : Word) : z.index (a.extractLsb' 0 3) = a.toNat % 8 / z.bytes := by
  have hlow : (a.extractLsb' 0 3).toNat = a.toNat % 8 := BitVec.extractLsb'_toNat 0 3 a
  cases z with
  | e8 => exact hlow.trans (Nat.div_one _).symm
  | e16 | e32 => exact congrArg (· / _) hlow

theorem EdgeSize.index_lt (z : EdgeSize) (low : BitVec 3) : z.index low < z.lanes := by
  have hlow := low.isLt
  cases z <;> simp only [EdgeSize.index, EdgeSize.lanes] <;> omega

/-- The big-endian left mask has the partitions from the address on, the first one in the highest bit. -/
theorem getLsbD_edgeLeft (z : EdgeSize) (low : BitVec 3) (j : Nat) :
    (edgeLeft z low).getLsbD j = decide (j < z.lanes ∧ z.index low ≤ z.lanes - 1 - j) := by
  have hlanes := z.lanes_le
  rw [edgeLeft, BitVec.getLsbD_ofNat, Nat.testBit_two_pow_sub_one, ← Bool.decide_and, decide_eq_decide]
  omega

/-- The big-endian right mask has the partitions up to the address. -/
theorem getLsbD_edgeRight (z : EdgeSize) (low : BitVec 3) (hj : j < z.lanes) :
    (edgeRight z low).getLsbD j = decide (z.lanes - 1 - j ≤ z.index low) := by
  have hlanes := z.lanes_le
  have hindex := z.index_lt low
  have hpow : 0 < 2 ^ (z.lanes - 1 - z.index low) := by positivity
  have hlt : 2 ^ (z.lanes - 1 - z.index low) ≤ 2 ^ z.lanes := Nat.pow_le_pow_right (by decide) (by omega)
  have hbit := Nat.testBit_two_pow_sub_succ (x := 2 ^ (z.lanes - 1 - z.index low) - 1) (n := z.lanes) (by omega) j
  rw [Nat.sub_add_cancel hpow, Nat.testBit_two_pow_sub_one] at hbit
  rw [edgeRight, BitVec.getLsbD_ofNat, hbit, decide_eq_true hj, decide_eq_true (show j < 8 by omega), Bool.true_and,
    Bool.true_and, ← decide_not, decide_eq_decide]
  omega

/-- Reversing the n low bits moves bit n - 1 - j to j. -/
theorem getLsbD_reverseLow {n : Nat} (hn : n ≤ 8) (v : BitVec 8) (j : Nat) :
    (reverseLow v n).getLsbD j = (decide (j < n) && v.getLsbD (n - 1 - j)) := by
  induction n generalizing v with
  | zero => simp [reverseLow]
  | succ n ih =>
    have hlow (i : Nat) : (v &&& 1#8).getLsbD i = (decide (i = 0) && v.getLsbD 0) := by
      cases i with
      | zero => simp
      | succ i => simp
    rw [reverseLow, BitVec.getLsbD_or, ih (by omega), BitVec.getLsbD_shiftLeft, BitVec.getLsbD_ushiftRight, hlow]
    obtain hj | rfl | hj := Nat.lt_trichotomy j n
    · have hbit : 1 + (n - 1 - j) = n - j := by omega
      simp [hj, hj.le, hbit, Nat.lt_succ_of_lt hj]
    · simp [show j < 8 by omega]
    · simp [hj.not_gt, show ¬j < n + 1 by omega, show j - n ≠ 0 by omega]

/-- The lane that bit j of a mask stands for: counted from the highest bit, or from the lowest in the little forms. -/
def EdgeSize.lane (z : EdgeSize) (little : Bool) (j : Nat) : Nat := if little then j else z.lanes - 1 - j

/-- The left mask in either order: the lanes from the address on, and no bit above the lanes. -/
theorem getLsbD_leftLanes (z : EdgeSize) (little : Bool) (low : BitVec 3) (j : Nat) :
    (if little then reverseLow (edgeLeft z low) z.lanes else edgeLeft z low).getLsbD j =
      decide (j < z.lanes ∧ z.index low ≤ z.lane little j) := by
  cases little with
  | false => exact getLsbD_edgeLeft z low j
  | true =>
    simp only [if_true, getLsbD_reverseLow z.lanes_le, getLsbD_edgeLeft, ← Bool.decide_and, EdgeSize.lane,
      decide_eq_decide]
    omega

/-- The right mask in either order: the lanes up to the address. -/
theorem getLsbD_rightLanes (little : Bool) (low : BitVec 3) (hj : j < z.lanes) :
    (if little then reverseLow (edgeRight z low) z.lanes else edgeRight z low).getLsbD j =
      decide (z.lane little j ≤ z.index low) := by
  cases little with
  | false => exact getLsbD_edgeRight z low hj
  | true =>
    rw [if_pos rfl, getLsbD_reverseLow z.lanes_le, getLsbD_edgeRight z low (by omega), decide_eq_true hj, Bool.true_and,
      EdgeSize.lane, if_pos rfl, decide_eq_decide]
    omega

/-- Two addresses are in one doubleword, in the low word alone with PSTATE.am set. -/
theorem sameDoubleword_iff (am : Bool) (a b : Word) :
    (if am then a.extractLsb' 3 29 == b.extractLsb' 3 29 else a.extractLsb' 3 61 == b.extractLsb' 3 61) = true ↔
      if am then a.toNat % 2 ^ 32 / 8 = b.toNat % 2 ^ 32 / 8 else a.toNat / 8 = b.toNat / 8 := by
  cases am <;> simp only [if_true, if_false, Bool.false_eq_true, beq_iff_eq, ← BitVec.toNat_inj,
      BitVec.extractLsb'_toNat, Nat.shiftRight_eq_div_pow] <;> omega

/-- Bit j of an edge mask: its lane is at or after the left address, and in one doubleword at or before the right
one. -/
theorem getLsbD_edgeMask (s : State) (z : EdgeSize) (little : Bool) (a b : Word) (hj : j < 64) :
    (edgeMask s z little a b).getLsbD j =
      decide (j < z.lanes ∧ z.index (a.extractLsb' 0 3) ≤ z.lane little j ∧
        ((if s.pstate.am then a.toNat % 2 ^ 32 / 8 = b.toNat % 2 ^ 32 / 8 else a.toNat / 8 = b.toNat / 8) →
          z.lane little j ≤ z.index (b.extractLsb' 0 3))) := by
  have hand : ∀ (same : Bool) (l r : BitVec 8), (if same then l &&& r else l).getLsbD j =
      (l.getLsbD j && (!same || r.getLsbD j)) := fun same l r => by cases same <;> simp
  have hsame := sameDoubleword_iff s.pstate.am a b
  simp only [edgeMask, BitVec.getLsbD_setWidth, hand, getLsbD_leftLanes]
  by_cases hlane : j < z.lanes
  · rw [getLsbD_rightLanes _ _ hlane, Bool.eq_iff_iff]
    simp only [Bool.and_eq_true, Bool.or_eq_true, Bool.not_eq_true', ← Bool.not_eq_true, hsame, decide_eq_true_iff]
    tauto
  · simp [hlane]

theorem edgeRow (s : State) (rd rs1 rs2 : RegField) (z : EdgeSize) (little : Bool)
    {icc i : RegField → RegField → RegField → Instr} (hcc : exec (icc rd rs1 rs2) s = visEdgeCC s z little rd rs1 rs2)
    (hi : exec (i rd rs1 rs2) s = visEdge s z little rd rs1 rs2) :
    EdgeRowHolds s rd rs1 rs2 (icc, i, z.bytes, little) := by
  refine ⟨edgeMask s z little (s.readR rs1) (s.readR rs2), fun j hj => ?_, writes_of_writeBack hi rfl rfl,
    writes_of_writeBackCC hcc rfl ?_⟩
  · rw [getLsbD_edgeMask s z little _ _ hj, z.index_eq, z.index_eq, EdgeSize.lane, z.lanes_eq]
  · rw [subCC_eq_exactSubCC (c := false) (by simp), ofInt_sub, BitVec.ofInt_toInt, BitVec.ofInt_toInt]
    rfl

end Edges

/-! ## Array addresses -/

section Arrays

variable {v : Word} {x at_ : Nat}

/-- The word is `x`, which fits below bit `at_`. -/
def FillsBelow (at_ : Nat) (v : Word) (x : Nat) : Prop := v = BitVec.ofNat 64 x ∧ x < 2 ^ at_

theorem placeField_eq (a : Word) (lo n at_ : Nat) (h : n ≤ 64) :
    placeField a lo n at_ = BitVec.ofNat 64 (a.toNat / 2 ^ lo % 2 ^ n * 2 ^ at_) := by
  have hfield : a.toNat / 2 ^ lo % 2 ^ n < 2 ^ 64 :=
    (Nat.mod_lt _ (by positivity)).trans_le (Nat.pow_le_pow_right (by decide) h)
  rw [placeField, shiftLeft_eq_ofNat, extractLsb'_eq_ofNat, BitVec.toNat_setWidth, BitVec.toNat_ofNat,
    Nat.mod_eq_of_lt hfield]

theorem fillsBelow_placeField (a : Word) (lo n : Nat) (h : n ≤ 64) :
    FillsBelow n (placeField a lo n 0) (a.toNat / 2 ^ lo % 2 ^ n) :=
  ⟨by rw [placeField_eq a lo n 0 h, Nat.pow_zero, Nat.mul_one], Nat.mod_lt _ (by positivity)⟩

/-- A field placed above a word that fits below it adds. -/
theorem FillsBelow.or_placeField (hv : FillsBelow at_ v x) (a : Word) (lo n : Nat) (h : n ≤ 64) :
    FillsBelow (at_ + n) (v ||| placeField a lo n at_) (x + a.toNat / 2 ^ lo % 2 ^ n * 2 ^ at_) := by
  obtain ⟨rfl, hx⟩ := hv
  have hfield : a.toNat / 2 ^ lo % 2 ^ n < 2 ^ n := Nat.mod_lt _ (by positivity)
  have hor := Nat.shiftLeft_add_eq_or_of_lt hx (a.toNat / 2 ^ lo % 2 ^ n)
  rw [Nat.shiftLeft_eq] at hor
  refine ⟨?_, ?_⟩
  · rw [placeField_eq a lo n at_ h, BitVec.or_comm, ← BitVec.ofNat_or, ← hor, Nat.add_comm]
  · calc x + a.toNat / 2 ^ lo % 2 ^ n * 2 ^ at_ < (a.toNat / 2 ^ lo % 2 ^ n + 1) * 2 ^ at_ := by
          rw [Nat.succ_mul]
          omega
      _ ≤ 2 ^ n * 2 ^ at_ := Nat.mul_le_mul_right _ hfield
      _ = 2 ^ (at_ + n) := by rw [Nat.pow_add, Nat.mul_comm]

/-- The nine fields of the address follow each other, so that it is their sum. -/
theorem arrayAddress_eq (a : Word) {n : Nat} (hn : n ≤ 5) :
    let bits := fun lo n : Nat => a.toNat / 2 ^ lo % 2 ^ n
    arrayAddress a n = BitVec.ofNat 64
      (bits 11 2 + bits 33 2 * 2 ^ 2 + bits 55 1 * 2 ^ 4 + bits 13 4 * 2 ^ 5 + bits 35 4 * 2 ^ 9 + bits 56 4 * 2 ^ 13 +
        bits 17 n * 2 ^ 17 + bits 39 n * 2 ^ (17 + n) + bits 60 4 * 2 ^ (17 + 2 * n)) := by
  have hn64 : n ≤ 64 := by omega
  have htop : 17 + n + n = 17 + 2 * n := by omega
  have hlow := (((((fillsBelow_placeField a 11 2 (by decide)).or_placeField a 33 2 (by decide)).or_placeField a 55 1
    (by decide)).or_placeField a 13 4 (by decide)).or_placeField a 35 4 (by decide)).or_placeField a 56 4 (by decide)
  have hall := ((hlow.or_placeField a 17 n hn64).or_placeField a 39 n hn64).or_placeField a 60 4 (by decide)
  rw [htop] at hall
  exact hall.1

/-- What the statement says of one array instruction, whose elements have p.2 bytes. -/
def ArrayRowHolds (s : State) (rd rs1 rs2 : RegField) (p : (RegField → RegField → RegField → Instr) × Nat) : Prop :=
  let a := s.readR rs1
  let b := s.readR rs2
  (b.toNat ≤ 5 →
    let bits := fun lo n : Nat => a.toNat / 2 ^ lo % 2 ^ n
    let n := b.toNat
    let address :=
      bits 11 2 + bits 33 2 * 2 ^ 2 + bits 55 1 * 2 ^ 4 + bits 13 4 * 2 ^ 5 + bits 35 4 * 2 ^ 9 + bits 56 4 * 2 ^ 13 +
        bits 17 n * 2 ^ 17 + bits 39 n * 2 ^ (17 + n) + bits 60 4 * 2 ^ (17 + 2 * n)
    ∃ t, exec (p.1 rd rs1 rs2) s = .next t ∧ WritesR s.advance t rd (BitVec.ofNat 64 (address * p.2))) ∧
  (5 < b.toNat →
    ∃ v t, exec (p.1 rd rs1 rs2) s = .next t ∧ WritesR { s.advance with freeCount := s.freeCount + 1 } t rd v)

theorem arrayRow (s : State) (rd rs1 rs2 : RegField) (shift : Nat) {i : RegField → RegField → RegField → Instr}
    (hi : exec (i rd rs1 rs2) s = visArray s shift rd rs1 rs2) : ArrayRowHolds s rd rs1 rs2 (i, 2 ^ shift) := by
  refine ⟨fun h => ?_, fun h => ?_⟩
  · refine writes_of_writeBack (hi.trans (if_pos h)) rfl ?_
    rw [arrayAddress_eq _ h, shiftLeft_eq_ofNat, BitVec.toNat_ofNat]
    exact BitVec.eq_of_toNat_eq (by simp only [BitVec.toNat_ofNat, Nat.mod_mul_mod])
  · exact ⟨_, writes_of_writeBack (hi.trans (if_neg (Nat.not_le.2 h))) rfl rfl⟩

end Arrays

/-- Settles O57: each edge mask bit by bit, and each array address as the sum of its fields. -/
theorem edgesAndArrays : Obligations.EdgesAndArrays := by
  intro s rd rs1 rs2
  change (∀ p ∈ _, EdgeRowHolds s rd rs1 rs2 p) ∧ ∀ p ∈ _, ArrayRowHolds s rd rs1 rs2 p
  simp only [List.forall_mem_cons]
  refine ⟨⟨?edge8, ?edge8l, ?edge16, ?edge16l, ?edge32, ?edge32l, List.forall_mem_nil _⟩,
    ⟨?array8, ?array16, ?array32, List.forall_mem_nil _⟩⟩
  case edge8 => exact edgeRow s rd rs1 rs2 .e8 false rfl rfl
  case edge8l => exact edgeRow s rd rs1 rs2 .e8 true rfl rfl
  case edge16 => exact edgeRow s rd rs1 rs2 .e16 false rfl rfl
  case edge16l => exact edgeRow s rd rs1 rs2 .e16 true rfl rfl
  case edge32 => exact edgeRow s rd rs1 rs2 .e32 false rfl rfl
  case edge32l => exact edgeRow s rd rs1 rs2 .e32 true rfl rfl
  case array8 => exact arrayRow s rd rs1 rs2 0 rfl
  case array16 => exact arrayRow s rd rs1 rs2 1 rfl
  case array32 => exact arrayRow s rd rs1 rs2 2 rfl

end Sys2Proof.Machine
end

section
/-!
PROOFS. What a step does before it fetches, and the fetch (60_exceptions.md R1013, R1030; 61_interrupts_cmt.md R1155
to R1180; 22_mmu.md R1470, R1480, R1483): `TimersInterruptsAndFetch`.
-/

namespace Sys2Proof.Machine

/-! ## The timers count -/

/-- Moving by one, a counter reaches the enabled compare value if that is the next one. -/
theorem compareMatches_iff (c : BitVec 63) (r : CompareReg) :
    compareMatches 63 c 1 r = true ↔ r.intDis = false ∧ r.value = c + 1#63 := by
  have hnext : (r.value - c - 1#63).toNat % 2 ^ 63 < 1 ↔ r.value = c + 1#63 := by
    rw [Nat.mod_eq_of_lt (BitVec.isLt _)]
    bv_omega
  simp only [compareMatches, Bool.and_eq_true, Bool.not_eq_true', decide_eq_true_iff, hnext, r.value.isLt, true_and]

/-- The bits a count posts in SOFTINT: TM at 0, SM at 16. -/
theorem getLsbD_postedSoftint : ∀ (sm tm : Bool) (n : Nat), n < 17 →
    (BitVec.ofBool sm ++ BitVec.ofBool false ++ 0#14 ++ BitVec.ofBool tm).getLsbD n =
      (decide (n = 0) && tm || decide (n = 16) && sm) := by decide

/-- PIC counts nothing, so a count moves the two timers and posts their matches (D49, D53). -/
theorem State.count_eq (s : State) :
    s.count =
      { s with
        tick := { s.tick with counter := s.tick.counter + 1#63 }
        stick := { s.stick with counter := s.stick.counter + 1#63 }
        softint :=
          s.softint ||| (BitVec.ofBool (compareMatches 63 s.stick.counter 1 s.stickCmpr) ++ BitVec.ofBool false ++
            0#14 ++ BitVec.ofBool (compareMatches 63 s.tick.counter 1 s.tickCmpr))
        hsp := s.hsp || compareMatches 63 s.stick.counter 1 s.hstickCmpr } := by
  have hwrap (c : BitVec 32) : picWraps c 0 = false := decide_eq_false (by omega)
  simp [State.count, CounterReg.advanced, hwrap, Config.tickBits, Config.stickBits]

theorem State.count_softint (s : State) {n : Nat} (hn : n < 17) :
    s.count.softint.getLsbD n = true ↔
      s.softint.getLsbD n = true ∨
        n = 0 ∧ (s.tickCmpr.intDis = false ∧ s.tickCmpr.value = s.tick.counter + 1#63) ∨
        n = 16 ∧ (s.stickCmpr.intDis = false ∧ s.stickCmpr.value = s.stick.counter + 1#63) := by
  rw [State.count_eq, BitVec.getLsbD_or, getLsbD_postedSoftint _ _ n hn]
  simp only [Bool.or_eq_true, Bool.and_eq_true, decide_eq_true_iff, compareMatches_iff]

theorem State.count_hsp (s : State) :
    s.count.hsp = true ↔
      s.hsp = true ∨ s.hstickCmpr.intDis = false ∧ s.hstickCmpr.value = s.stick.counter + 1#63 := by
  rw [State.count_eq, Bool.or_eq_true, compareMatches_iff]

/-! ## The greatest pending interrupt level -/

section Levels

variable {s : State} {m n : Nat}

theorem pendingLevel_iff : pendingLevel s n = true ↔ levelPending s.softint n := by
  simp only [pendingLevel, Bool.or_eq_true, Bool.and_eq_true, beq_iff_eq]

theorem highestLevel_le (s : State) (m : Nat) : highestLevel s m ≤ m := by
  induction m with
  | zero => exact Nat.le_refl 0
  | succ m ih =>
    rw [highestLevel]
    split
    · exact Nat.le_refl _
    · exact Nat.le_succ_of_le ih

/-- The level found is pending, if one is found. -/
theorem levelPending_highestLevel (h : 0 < highestLevel s m) : levelPending s.softint (highestLevel s m) := by
  induction m with
  | zero => exact absurd h (Nat.lt_irrefl 0)
  | succ m ih =>
    rw [highestLevel] at h ⊢
    split at h
    next hp => exact pendingLevel_iff.1 (by rwa [if_pos hp])
    next hp =>
      rw [if_neg hp]
      exact ih h

/-- A pending level up to m is found unless a greater one is. -/
theorem le_highestLevel (hp : levelPending s.softint n) (hn : 0 < n) (h : n ≤ m) : n ≤ highestLevel s m := by
  induction m with
  | zero => omega
  | succ m ih =>
    rw [highestLevel]
    split
    · exact h
    next hm =>
      have hne : n ≠ m + 1 := fun he => hm (pendingLevel_iff.2 (he ▸ hp))
      exact ih (by omega)

/-- The request is the greatest pending level above PIL. -/
theorem intLevelRequest_eq (hn : s.pil.toNat < n ∧ n ≤ 15 ∧ levelPending s.softint n)
    (hmax : ∀ k, s.pil.toNat < k ∧ k ≤ 15 ∧ levelPending s.softint k → k ≤ n) : intLevelRequest s = n := by
  obtain ⟨hpil, hle, hp⟩ := hn
  have hge : n ≤ intLevelRequest s := le_highestLevel hp (by omega) hle
  exact Nat.le_antisymm
    (hmax _ ⟨by omega, highestLevel_le s 15, levelPending_highestLevel (show 0 < intLevelRequest s by omega)⟩) hge

theorem intLevelRequest_le_pil (h : ∀ k, ¬(s.pil.toNat < k ∧ k ≤ 15 ∧ levelPending s.softint k)) :
    ¬s.pil.toNat < intLevelRequest s := fun hlt =>
  h _ ⟨hlt, highestLevel_le s 15, levelPending_highestLevel (show 0 < intLevelRequest s by omega)⟩

end Levels

/-! ## What a step takes before it fetches -/

section Disrupting

variable {s : State}

theorem hstickDeliverable_iff :
    hstickDeliverable s = true ↔ s.hsp = true ∧ (s.hpstate.hpriv = false ∨ s.pstate.ie = true) := by
  simp [hstickDeliverable]

theorem privilegedInterruptsOpen_iff :
    privilegedInterruptsOpen s = true ↔ s.hpstate.hpriv = false ∧ s.pstate.ie = true := by
  simp [privilegedInterruptsOpen]

theorem trapLevelZeroPending_iff :
    trapLevelZeroPending s = true ↔ s.hpstate.tlz = true ∧ s.hpstate.hpriv = false ∧ s.tl = 0 := by
  simp [trapLevelZeroPending, and_assoc]

/-- With hstick_match delivered or not, the interrupts for privileged mode by their priority. -/
theorem disruptingException_open (hstick : hstickDeliverable s = false) (hopen : privilegedInterruptsOpen s = true) :
    disruptingException s =
      if s.queues.cpuMondoHead ≠ s.queues.cpuMondoTail then some .cpuMondo
      else if s.queues.devMondoHead ≠ s.queues.devMondoTail then some .devMondo
      else if s.pil.toNat < intLevelRequest s then some (.interruptLevel (BitVec.ofNat 4 (intLevelRequest s)))
      else if s.queues.resumableHead ≠ s.queues.resumableTail then some .resumableError
      else none := by
  rw [disruptingException, hstick, hopen]
  rfl

/-- Nothing is delivered while the interrupts are closed or none is pending. -/
theorem disruptingException_none (hstick : ¬hstickDeliverable s = true)
    (h : ¬(s.hpstate.hpriv = false ∧ s.pstate.ie = true) ∨
      ¬s.queues.cpuMondoHead ≠ s.queues.cpuMondoTail ∧ ¬s.queues.devMondoHead ≠ s.queues.devMondoTail ∧
        ¬s.queues.resumableHead ≠ s.queues.resumableTail ∧
        ∀ n, ¬(s.pil.toNat < n ∧ n ≤ 15 ∧ levelPending s.softint n)) : disruptingException s = none := by
  rw [disruptingException, if_neg hstick]
  obtain hclosed | ⟨hcpu, hdev, hresumable, hlevel⟩ := h
  · rw [Bool.eq_false_iff.2 (mt privilegedInterruptsOpen_iff.1 hclosed)]
    rfl
  · rw [if_neg hcpu, if_neg hdev, if_neg (intLevelRequest_le_pil hlevel), if_neg hresumable, ite_self]

/-- Without resets and errors, trap_level_zero comes before the disrupting exceptions. -/
theorem beforeFetch_of_no_error (hpor : s.requests.por = false) (hwmr : s.requests.wmr = false)
    (hxir : s.requests.xir = false) (herror : s.errorState = none) (hstore : s.requests.storeError = false)
    (hipe : s.requests.internalProcessorError = false) :
    beforeFetch s =
      if trapLevelZeroPending s then some (takeTrap .trapLevelZero s)
      else (disruptingException s).map fun e => takeTrap e s := by
  rw [beforeFetch_of_no_reset hpor hwmr hxir, herror, hstore, hipe]
  rfl

end Disrupting

/-! ## The fetch -/

section Fetch

variable {s : State} {e : Exc} {a : Word} {pa : Nat}

theorem step_of_nothing_before (h : beforeFetch s.count = none) : step s = attemptInstruction s.count := by
  simp only [step, h, runInstruction_eq]

theorem attemptInstruction_of_trap (h : fetchAddress s = .trap e) : attemptInstruction s = .next (raiseFetch s e) := by
  simp only [attemptInstruction, h]

/-- An injected error records nothing and is used up. -/
theorem raiseFetch_injected (s : State) :
    raiseFetch s .instructionAccessError =
      takeTrap .instructionAccessError
        { s with requests := { s.requests with instructionAccessError := false } } := by
  simp [raiseFetch, recordFetchFault, writesItag]

/-- A fetch that has its physical address takes the injected error, or reads the word there. -/
theorem fetch_of_fetchFinish (hf : fetchAddress s = fetchFinish s a pa) :
    if s.requests.instructionAccessError then
      attemptInstruction s =
        .next (takeTrap .instructionAccessError
          { s with requests := { s.requests with instructionAccessError := false } })
    else fetchAddress s = .word pa := by
  rw [fetchFinish_eq] at hf
  split
  next hinjected =>
    rw [if_pos hinjected] at hf
    rw [attemptInstruction_of_trap hf, raiseFetch_injected]
  next hinjected => rwa [if_neg hinjected] at hf

theorem takeTrap_requests (e : Exc) (s : State) : (takeTrap e s).requests = s.requests := by
  obtain ⟨-, ht⟩ | ⟨-, _, ht⟩ | ⟨-, -, ht⟩ := takeTrap_cases e s <;> rw [ht] <;> rfl

/-- A trap reads nothing of the IMMU's fault registers or the free values, and hands them on. -/
theorem takeTrap_fetchRecords (e : Exc) (s : State) (itag isfsr : Word) (k : Nat) :
    takeTrap e { s with mmu := { s.mmu with itagAccess := itag, isfsr := isfsr }, freeCount := k } =
      { takeTrap e s with
        mmu := { (takeTrap e s).mmu with itagAccess := itag, isfsr := isfsr }
        freeCount := k } := by
  unfold takeTrap
  split
  · rfl
  · split
    · rfl
    · split
      · rfl
      · rfl

theorem raiseFetch_maxTL (h6 : s.tl = 6) (hw : writesItag e = true) : raiseFetch s e = takeTrap e s := by
  have hne : e ≠ .instructionAccessError := by rintro rfl; cases hw
  simp only [raiseFetch, State.trapOf_eq, if_neg hne, if_pos (show s.tl.val = Config.maxTL by rw [h6]; rfl)]

theorem raiseFetch_below (h6 : s.tl ≠ 6) (hw : writesItag e = true) :
    raiseFetch s e =
      { takeTrap e s with
        mmu :=
          { (takeTrap e s).mmu with
            itagAccess := tagAccess (s.amMask s.pc) ((fetchContext s).setWidth 13), isfsr := s.freeWord }
        freeCount := s.freeCount + 1 } := by
  have hne : e ≠ .instructionAccessError := by rintro rfl; cases hw
  simp only [raiseFetch, State.trapOf_eq, if_neg hne,
    if_neg (show ¬s.tl.val = Config.maxTL from fun h => h6 (Fin.ext h)), recordFetchFault, if_pos hw]
  exact takeTrap_fetchRecords ..

/-- What a miss or a forbidden page leaves: the trap, and below MAXTL the address and context in the tag access
register. -/
theorem raiseFetch_records (hw : writesItag e = true) :
    Takes s (raiseFetch s e) e ∧ (raiseFetch s e).requests = s.requests ∧
      (raiseFetch s e).mmu =
        { (takeTrap e s).mmu with itagAccess := (raiseFetch s e).mmu.itagAccess, isfsr := (raiseFetch s e).mmu.isfsr } ∧
      if s.tl = 6 then (raiseFetch s e).mmu = s.mmu
      else (raiseFetch s e).mmu.itagAccess = tagAccess (s.amMask s.pc) ((fetchContext s).setWidth 13) := by
  by_cases h6 : s.tl = 6
  · rw [if_pos h6, Takes, raiseFetch_maxTL h6 hw, takeTrap_maxTL h6]
    exact ⟨rfl, rfl, rfl, rfl⟩
  · rw [if_neg h6, Takes, raiseFetch_below h6 hw]
    exact ⟨rfl, takeTrap_requests e s, rfl, rfl⟩

theorem tagAccess_eq (a : Word) (c : BitVec 16) :
    tagAccess a (c.setWidth 13) = BitVec.ofNat 64 (a.toNat / 2 ^ 13 * 2 ^ 13 + c.toNat % 2 ^ 13) := by
  obtain ⟨hpage, hlow⟩ := toNat_tagAccess a (c.setWidth 13)
  rw [BitVec.toNat_setWidth] at hlow
  apply BitVec.eq_of_toNat_eq
  rw [BitVec.toNat_ofNat]
  omega

/-! ## Where a fetch goes -/

theorem fetchAddress_physical (h : s.hpstate.hpriv = true ∨ s.hpstate.red = true) :
    fetchAddress s = fetchFinish s s.pc (s.pc.toNat % 2 ^ 56) := by
  have hk : fetchAddrKind s = .physical := by
    simp [fetchAddrKind, h.symm]
  simp only [fetchAddress, hk]
  rfl

theorem fetchAddrKind_translated (hhp : s.hpstate.hpriv = false) (hred : s.hpstate.red = false) :
    fetchAddrKind s =
      if s.mmu.immuEnable then AddrKind.virtualIn (if s.tl = 0 then .primary else .nucleus) else .real := by
  simp [fetchAddrKind, hhp, hred, State.implicitContext]

theorem toNat_fetchContext (hhp : s.hpstate.hpriv = false) (hred : s.hpstate.red = false) :
    (fetchContext s).toNat =
      if s.mmu.immuEnable = true ∧ s.tl = 0 then s.mmu.primaryContext.toNat else 0 := by
  rw [fetchContext, fetchAddrKind_translated hhp hred]
  by_cases hi : s.mmu.immuEnable = true <;> by_cases hl : s.tl = 0 <;> simp [hi, hl, contextId]

/-- A translated fetch looks its address up in the ITLB, as a virtual or a real one. -/
theorem fetchAddrKind_cases (hhp : s.hpstate.hpriv = false) (hred : s.hpstate.red = false) :
    (s.mmu.immuEnable = true ∧ ∃ c, fetchAddrKind s = .virtualIn c) ∨
      (s.mmu.immuEnable = false ∧ fetchAddrKind s = .real) := by
  rw [fetchAddrKind_translated hhp hred]
  cases s.mmu.immuEnable with
  | true => exact .inl ⟨rfl, _, rfl⟩
  | false => exact .inr ⟨rfl, rfl⟩

theorem fetchAddress_miss (hhp : s.hpstate.hpriv = false) (hred : s.hpstate.red = false)
    (h : tlbLookup s.mmu.itlb s.mmu (fetchAddrKind s) (s.amMask s.pc) = .miss) :
    fetchAddress s =
      .trap (if s.mmu.immuEnable then .fastInstructionAccessMMUMiss else .instructionRealTranslationMiss) := by
  obtain ⟨hi, c, hk⟩ | ⟨hi, hk⟩ := fetchAddrKind_cases hhp hred
  all_goals
    rw [hk] at h
    simp [fetchAddress, hk, h, hi]

/-- A page is fetched from unless it is privileged and the mode is not, not executable, or for nonfaulting loads
only. -/
theorem fetchAddress_hit (hhp : s.hpstate.hpriv = false) (hred : s.hpstate.red = false) {e : TlbEntry}
    (h : tlbLookup s.mmu.itlb s.mmu (fetchAddrKind s) (s.amMask s.pc) = .hit e) :
    fetchAddress s =
      if e.data.getLsbD 8 = true ∧ s.pstate.priv = false ∨ e.data.getLsbD 7 = false ∨ e.data.getLsbD 62 = true then
        .trap .instructionAccessException
      else fetchFinish s (s.amMask s.pc) (e.physicalAddr (s.amMask s.pc)) := by
  have hmode := State.mode_of_not_hpriv hhp
  obtain ⟨-, c, hk⟩ | ⟨-, hk⟩ := fetchAddrKind_cases hhp hred
  all_goals
    rw [hk] at h
    simp only [fetchAddress, hk, h, TlbEntry.privilegedPage, TlbEntry.executable, TlbEntry.nfo, Bool.or_eq_true,
      Bool.and_eq_true, decide_eq_true_iff, hmode, Bool.not_eq_true', or_assoc]

end Fetch

/-- Settles O23: the timers by `State.count_eq`, what is pending by the order of `beforeFetch`, the fetch by where its
address goes. -/
theorem timersInterruptsAndFetch : Obligations.TimersInterruptsAndFetch := by
  refine ⟨fun s => ?count, fun s hpor hwmr hxir herror => ?pending, fun s hbefore => ?fetch⟩
  case count =>
    exact ⟨congrArg State.tick s.count_eq, congrArg State.stick s.count_eq, fun n hn => s.count_softint hn, s.count_hsp,
      s.count_eq.trans (by rw [s.count_eq])⟩
  case pending =>
    intro u Trap Waits level levelZero hstick opened cpu dev resumable
    have hreset := beforeFetch_of_no_reset (s := u) hpor hwmr hxir
    rw [show u.errorState = none from herror] at hreset
    split
    next hstore => exact step_of_beforeFetch (hreset.trans (if_pos hstore))
    split
    next hstore hipe => exact step_of_beforeFetch (hreset.trans ((if_neg hstore).trans (if_pos hipe)))
    next hstore hipe =>
    have hbefore := beforeFetch_of_no_error (s := u) hpor hwmr hxir herror (Bool.eq_false_iff.2 hstore)
      (Bool.eq_false_iff.2 hipe)
    have htrap {e : Exc} (hz : ¬levelZero) (he : disruptingException u = some e) : Trap e := by
      rw [if_neg (mt trapLevelZeroPending_iff.1 hz), he] at hbefore
      exact step_of_beforeFetch hbefore
    refine ⟨fun hz => step_of_beforeFetch (hbefore.trans (if_pos (trapLevelZeroPending_iff.2 hz))),
      fun hz hh => htrap hz (if_pos (hstickDeliverable_iff.2 hh)), fun hz hh ho => ?_, fun hz hh hnone => ?_⟩
    · have hopen := disruptingException_open (Bool.eq_false_iff.2 (mt hstickDeliverable_iff.1 hh))
        (privilegedInterruptsOpen_iff.2 ho)
      refine ⟨fun hc => htrap hz (hopen.trans (if_pos hc)),
        fun hc hd => htrap hz (hopen.trans ((if_neg hc).trans (if_pos hd))), fun n hc hd hn hmax => htrap hz ?_,
        fun hc hd hl hr => htrap hz ?_⟩
      · have hlevel : intLevelRequest u = n := intLevelRequest_eq hn hmax
        rw [hopen, if_neg hc, if_neg hd, hlevel, if_pos hn.1]
      · rw [hopen, if_neg hc, if_neg hd, if_neg (intLevelRequest_le_pil hl), if_pos hr]
    · rw [hbefore, if_neg (mt trapLevelZeroPending_iff.1 hz),
        disruptingException_none (mt hstickDeliverable_iff.1 hh) hnone]
      rfl
  case fetch =>
    intro u a ctx kind Gives Traps
    have hstep : step s = attemptInstruction u := step_of_nothing_before hbefore
    have ha : u.amMask u.pc = a := u.amMask_eq u.pc
    have hgives {b : Word} {pa : Nat} (h : fetchAddress u = fetchFinish u b pa) : Gives pa := by
      have hf := fetch_of_fetchFinish h
      rwa [← hstep] at hf
    refine ⟨fun h => hgives (fetchAddress_physical h), fun hhp hred => ?_⟩
    have hkind : fetchAddrKind u = kind := fetchAddrKind_translated hhp hred
    have htraps {e : Exc} (hw : writesItag e = true) (h : fetchAddress u = .trap e) : Traps e := by
      obtain ⟨htakes, hrequests, hmmu, htag⟩ := raiseFetch_records (s := u) hw
      rw [tagAccess_eq, toNat_fetchContext hhp hred, ha] at htag
      exact ⟨_, hstep.trans (attemptInstruction_of_trap h), htakes, hrequests, hmmu, htag⟩
    rw [← hkind, ← ha]
    refine ⟨fun hmiss => htraps ?_ (fetchAddress_miss hhp hred hmiss), fun e hhit => ?_⟩
    · split <;> rfl
    · have hf := fetchAddress_hit hhp hred hhit
      split
      next hforbidden => exact htraps rfl (hf.trans (if_pos hforbidden))
      next hforbidden =>
        intro p hp hsize
        rw [if_neg hforbidden, TlbEntry.physicalAddr_eq_pageAddress hp hsize] at hf
        exact hgives hf

end Sys2Proof.Machine
end

section
/-!
PROOFS. No data access raises VA_watchpoint, the one exception delivered to privileged mode whose trap writes D-SFAR,
so that such a trap leaves the fault registers alone (22_mmu.md R1480; D44).
-/

namespace Sys2Proof.Machine

/-! ## The exceptions of a data access -/

section Access

variable {s : State} {a : Access} {e : Exc}

theorem Access.misaligned_ne_vaWatchpoint {ea : Word} (h : a.misaligned ea = some e) : e ≠ .vaWatchpoint := by
  unfold Access.misaligned at h
  split at h <;> repeat' split at h
  all_goals cases h <;> nofun

theorem Access.pageCheck_ne_vaWatchpoint {t : TlbEntry} (h : a.pageCheck s t = some e) : e ≠ .vaWatchpoint := by
  unfold Access.pageCheck at h
  repeat' split at h
  all_goals cases h <;> nofun

theorem Access.finish_ne_vaWatchpoint (pa : Nat) (little : Bool) : a.finish s pa little ≠ .trap .vaWatchpoint := by
  unfold Access.finish
  repeat' split
  all_goals nofun

theorem Access.translate_ne_vaWatchpoint (k : AddrKind) : a.translate s k ≠ .trap .vaWatchpoint := by
  unfold Access.translate
  split
  · nofun
  · split <;> nofun
  · split
    next hx => exact fun h => Access.pageCheck_ne_vaWatchpoint hx (by cases h; rfl)
    · exact Access.finish_ne_vaWatchpoint _ _

/-- No watchpoint is set (D44). -/
theorem dataAccess_ne_vaWatchpoint (s : State) (a : Access) : dataAccess s a ≠ .trap .vaWatchpoint := by
  have hlegal {r : AccessResult} (hr : r ≠ .trap .vaWatchpoint) :
      (if !a.legal then .trap .dataAccessException else r) ≠ .trap .vaWatchpoint := by
    split
    · nofun
    · exact hr
  unfold dataAccess
  split
  · split <;> nofun
  split
  next hx => exact fun h => Access.misaligned_ne_vaWatchpoint hx (by cases h; rfl)
  split
  · nofun
  split
  · split
    next hwatch => simp [Config.vaWatch] at hwatch
    · exact hlegal (Access.translate_ne_vaWatchpoint _)
  · exact hlegal (Access.translate_ne_vaWatchpoint _)
  · rw [Access.bypass_eq]
    exact hlegal (Access.finish_ne_vaWatchpoint _ _)
  · exact hlegal nofun

theorem privilegedRow_of_writesDsfar (h : writesDsfar e = true) (he : e ≠ .vaWatchpoint) : e.privilegedRow = false := by
  cases e <;> simp_all [writesDsfar, Exc.privilegedRow]

end Access

/-! ## Traps delivered to privileged mode -/

section Traps

variable {s : State} {e : Exc}

/-- A trap below MAXTL that leaves hpriv 0 is one to privileged mode. -/
theorem takeTrap_of_not_hpriv (h6 : s.tl ≠ 6) (hhp : (takeTrap e s).hpstate.hpriv = false) :
    s.DeliversToPrivileged e ∧ takeTrap e s = s.normalTrap e := by
  obtain ⟨h, -⟩ | ⟨-, _, ht⟩ | ⟨-, -, ht⟩ := takeTrap_cases e s
  · exact absurd h h6
  · rw [ht] at hhp
    cases hhp
  · refine ⟨Decidable.byContradiction fun hd => ?_, ht⟩
    rw [ht, State.normalTrap_hyper hd] at hhp
    cases hhp

theorem raiseData_hpstate (s : State) (a : Access) (e : Exc) : (raiseData s a e).hpstate = (takeTrap e s).hpstate :=
  (congrArg State.hpstate (raiseData_takes s a e) :)

/-- The traps to privileged mode of data accesses, VA_watchpoint apart, record nothing. -/
theorem raiseData_sameFaultRegisters (a : Access) (he : e ≠ .vaWatchpoint) (h6 : s.tl ≠ 6)
    (hhp : (raiseData s a e).hpstate.hpriv = false) : SameFaultRegisters s (raiseData s a e) := by
  rw [raiseData_hpstate] at hhp
  obtain ⟨⟨hrow, -, -⟩, -⟩ := takeTrap_of_not_hpriv h6 hhp
  have hfar : ¬writesDsfar e = true := fun h => by simp [privilegedRow_of_writesDsfar h he] at hrow
  have htag : ¬writesDtag e = true := fun h => hfar (writesDsfar_of_writesDtag h)
  obtain ⟨_, _, _, -, ht⟩ := raiseData_below h6 a e
  rw [ht]
  exact ⟨if_neg hfar, if_neg hfar, if_neg htag⟩

end Traps

/-! ## Every load, store and atomic -/

/-- Where the result `r` of an instruction in state `s` is a trap to privileged mode, the fault registers are as
before. -/
def RecordsNothingBelow (s : State) (r : Result) : Prop :=
  ∀ t, r = .next t → s.tl < t.tl → t.hpstate.hpriv = false → SameFaultRegisters s t

section Rules

variable {s u : State} {a : Access} {rd : RegField} {k : Result}

theorem ne_maxTL_of_lt_tl {l m : Fin 7} (h : l < m) : l ≠ 6 := by omega

theorem recordsNothing_complete (h : u.tl = s.tl) : RecordsNothingBelow s (complete u) := by
  rintro t ⟨⟩ hl -
  exact absurd hl (by rw [State.advance_tl, h]; exact lt_irrefl _)

theorem recordsNothing_raise (e : Exc) (h : u.mmu = s.mmu) : RecordsNothingBelow s (raise e u) := by
  rintro t ⟨⟩ - -
  obtain ⟨hfar, hsr, htag⟩ := takeTrap_sameFaultRegisters e u
  rw [h] at hfar hsr htag
  exact ⟨hfar, hsr, htag⟩

theorem recordsNothing_raiseData {e : Exc} (he : e ≠ .vaWatchpoint) :
    RecordsNothingBelow s (.next (raiseData s a e)) := by
  rintro t ⟨⟩ hl hhp
  refine raiseData_sameFaultRegisters a he (fun h6 => ?_) hhp
  rw [raiseData_maxTL h6] at hl
  exact absurd hl (lt_irrefl _)

theorem recordsNothing_ite {c : Prop} [Decidable c] {k' : Result} (hk : RecordsNothingBelow s k)
    (hk' : RecordsNothingBelow s k') : RecordsNothingBelow s (if c then k else k') := by
  split <;> assumption

theorem recordsNothing_withFp (hk : RecordsNothingBelow s k) : RecordsNothingBelow s (withFp s k) :=
  recordsNothing_ite hk (recordsNothing_raise _ rfl)

theorem recordsNothing_withFpDest {mark : State → State} (hm : (mark s).mmu = s.mmu) (hk : RecordsNothingBelow s k) :
    RecordsNothingBelow s (withFpDest s mark k) :=
  recordsNothing_ite hk (recordsNothing_raise _ hm)

/-! ## One rule for each way an access is made -/

theorem recordsNothing_withAccess {f : Nat → Bool → Result} {g : BitVec 8 → Word → Result}
    (hf : ∀ pa little, RecordsNothingBelow s (f pa little)) (hg : ∀ asi va, RecordsNothingBelow s (g asi va)) :
    RecordsNothingBelow s (withAccess s a f g) := by
  unfold withAccess
  split
  next he => exact recordsNothing_raiseData fun h => dataAccess_ne_vaWatchpoint s a (h ▸ he)
  · exact fun _ h => by cases h
  · exact hf _ _
  · exact hg _ _

theorem recordsNothing_loadValue {k : Word → Result} (hk : ∀ v, RecordsNothingBelow s (k v)) :
    RecordsNothingBelow s (loadValue s a k) := by
  refine recordsNothing_withAccess (fun _ _ => hk _) fun _ _ => ?_
  split
  · exact hk _
  · exact recordsNothing_raiseData nofun

theorem recordsNothing_storeValue {v : Word} {k : State → Result}
    (hk : ∀ u : State, u.tl = s.tl → RecordsNothingBelow s (k u)) : RecordsNothingBelow s (storeValue s a v k) := by
  refine recordsNothing_withAccess (fun _ _ => hk _ rfl) fun _ _ => ?_
  split
  next hw => exact hk _ (by rw [writeAsiReg_rest hw])
  · exact recordsNothing_raiseData nofun

theorem recordsNothing_loadParts {part : Nat} {k : (Nat → Word) → Result} (hk : ∀ p, RecordsNothingBelow s (k p)) :
    RecordsNothingBelow s (loadParts s a part k) :=
  recordsNothing_withAccess (fun _ _ => hk _) fun _ _ => recordsNothing_raiseData nofun

theorem recordsNothing_storeParts {part : Nat} {vs : List Word} :
    RecordsNothingBelow s (storeParts s a part vs complete) :=
  recordsNothing_withAccess (fun _ _ => recordsNothing_complete rfl) fun _ _ => recordsNothing_raiseData nofun

theorem recordsNothing_loadUnsigned : RecordsNothingBelow s (loadUnsigned s a rd) :=
  recordsNothing_loadValue fun _ => recordsNothing_complete (State.writeR_tl ..)

theorem recordsNothing_loadSigned : RecordsNothingBelow s (loadSigned s a rd) :=
  recordsNothing_loadValue fun _ => recordsNothing_complete (State.writeR_tl ..)

theorem recordsNothing_storeReg : RecordsNothingBelow s (storeReg s a rd) :=
  recordsNothing_storeValue fun _ h => recordsNothing_complete h

theorem recordsNothing_atomicReg {f : Word → Word} : RecordsNothingBelow s (atomicReg s a f rd) :=
  recordsNothing_withAccess (fun _ _ => recordsNothing_complete (State.writeR_tl ..)) fun _ _ =>
    recordsNothing_raiseData nofun

theorem recordsNothing_loadPair (part : Nat) : RecordsNothingBelow s (loadPair s a part rd) :=
  recordsNothing_ite (recordsNothing_raise _ rfl)
    (recordsNothing_loadParts fun _ => recordsNothing_complete (by simp [State.writePair]))

theorem recordsNothing_storePair : RecordsNothingBelow s (storePair s a rd) :=
  recordsNothing_ite (recordsNothing_raise _ rfl) recordsNothing_storeParts

theorem recordsNothing_loadSingle : RecordsNothingBelow s (loadSingle s a rd) :=
  recordsNothing_withFpDest rfl (recordsNothing_loadValue fun _ => recordsNothing_complete rfl)

theorem recordsNothing_loadDouble : RecordsNothingBelow s (loadDouble s a rd) :=
  recordsNothing_withFpDest (State.markDouble_mmu ..)
    (recordsNothing_loadValue fun _ => recordsNothing_complete (State.writeFD_tl ..))

theorem recordsNothing_storeSingle : RecordsNothingBelow s (storeSingle s a rd) :=
  recordsNothing_withFp (recordsNothing_storeValue fun _ h => recordsNothing_complete h)

theorem recordsNothing_storeDouble : RecordsNothingBelow s (storeDouble s a rd) :=
  recordsNothing_withFp (recordsNothing_storeValue fun _ h => recordsNothing_complete h)

theorem State.writeBlock_tl (s : State) (rd : RegField) (p : Nat → Word) : (s.writeBlock rd p).tl = s.tl :=
  List.foldlRecOn (motive := fun t : State => t.tl = s.tl) _ _ rfl fun _ h _ _ => by rw [State.writeFD_tl, h]

theorem recordsNothing_loadBlock : RecordsNothingBelow s (loadBlock s a rd) :=
  recordsNothing_ite (recordsNothing_raise _ rfl)
    (recordsNothing_withFpDest (State.markDouble_mmu ..)
      (recordsNothing_loadParts fun _ => recordsNothing_complete (State.writeBlock_tl ..)))

theorem recordsNothing_storeBlock : RecordsNothingBelow s (storeBlock s a rd) :=
  recordsNothing_ite (recordsNothing_raise _ rfl) (recordsNothing_withFp recordsNothing_storeParts)

end Rules

/-- A trap to privileged mode of an instruction that makes a data access leaves the fault registers alone. -/
theorem exec_recordsNothing {i : Instr} {s : State} {a : Access}
    (ha : i.loadAccess s = some a ∨ i.storeAccess s = some a) :
    RecordsNothingBelow s (exec i s) := by
  cases i <;> obtain ⟨⟨⟩⟩ | ⟨⟨⟩⟩ := ha
  case lduw | ldub | lduh | ldx | lduwa | lduba | lduha | ldxa => exact recordsNothing_loadUnsigned
  case ldsw | ldsb | ldsh | ldswa | ldsba | ldsha => exact recordsNothing_loadSigned
  case stw | stb | sth | stx | stwa | stba | stha | stxa => exact recordsNothing_storeReg
  case ldtw | ldtxa => exact recordsNothing_loadPair _
  case ldtwa => exact recordsNothing_ite (recordsNothing_loadPair _) (recordsNothing_loadPair _)
  case sttw | sttwa => exact recordsNothing_storePair
  case ldf | ldfa => exact recordsNothing_loadSingle
  case lddf | ldshortf => exact recordsNothing_loadDouble
  case lddfa => exact recordsNothing_ite recordsNothing_loadBlock recordsNothing_loadDouble
  case ldblockf => exact recordsNothing_loadBlock
  case stf | stfa => exact recordsNothing_storeSingle
  case stdf | stshortf | stpartialf => exact recordsNothing_storeDouble
  case stdfa =>
    exact recordsNothing_ite (recordsNothing_raise _ rfl)
      (recordsNothing_ite recordsNothing_storeBlock recordsNothing_storeDouble)
  case stblockf => exact recordsNothing_storeBlock
  case ldfsr | ldxfsr =>
    exact recordsNothing_withFp (recordsNothing_loadValue fun _ => recordsNothing_complete rfl)
  case stfsr | stxfsr =>
    exact recordsNothing_withFp
      (recordsNothing_storeValue fun u h => recordsNothing_complete ((State.clearFtt_tl u).trans h))
  case ldstub | ldstuba => exact recordsNothing_atomicReg (f := fun _ => 0xFF#64)
  case swap rd _ _ | swapa rd _ _ => exact recordsNothing_atomicReg (f := fun _ => s.readR rd)
  case casa | casxa => exact recordsNothing_atomicReg

/-- So does a trap to privileged mode of any instruction. -/
theorem exec_sameFaultRegisters {i : Instr} {s t : State} (h : exec i s = .next t) (hl : s.tl < t.tl)
    (hhp : t.hpstate.hpriv = false) : SameFaultRegisters s t := by
  obtain hsame | ⟨⟨rd, rs1, o, rfl⟩, -⟩ | ⟨a, ha, -⟩ := (exec_effect h).faultRegisters
  · exact hsame
  · exact exec_recordsNothing (.inr rfl) t h hl hhp
  · exact exec_recordsNothing ha t h hl hhp

end Sys2Proof.Machine
end

section
/-!
PROOFS. What the lower modes cannot change (60_exceptions.md R1002, R1040, R1060): `LowerModesAreConfined`.
-/

namespace Sys2Proof.Machine

variable {i : Instr} {s t u : State}

/-! ## A register behind an ASI that a lower mode may use -/

/-- DataAccess answers a register only for an ASI that the mode may use (20_memory.md R1308). -/
theorem dataAccess_register_permitted {a : Access} {asi n : BitVec 8} {va : Word} (hasi : a.asi = some n)
    (h : dataAccess s a = .register asi va) : asi = n ∧ asiPermitted s.mode n := by
  unfold dataAccess at h
  rw [hasi] at h
  split at h
  · cases h
  split at h
  · cases h
  split at h
  · cases h
  next hp =>
  have hpermitted : asiPermitted s.mode n := by
    rw [← asiPrivileged_iff]
    simpa [Access.privileged, hasi] using hp
  split at h
  · split at h <;> [cases h; split at h <;> [cases h; exact absurd h (Access.translate_ne_register _ _ _ _)]]
  · split at h <;> [cases h; exact absurd h (Access.translate_ne_register _ _ _ _)]
  · split at h
    · cases h
    · rw [Access.bypass_eq] at h
      exact absurd h (Access.finish_ne_register _ _ _ _ _)
  · split at h
    · cases h
    · cases h
      exact ⟨rfl, hpermitted⟩

/-- No register is behind an ASI that nonprivileged code may use. -/
theorem writeAsiReg_asi_lt {asi : BitVec 8} {va v : Word} (h : writeAsiReg s asi va v = some u) : asi.toNat < 0x80 := by
  unfold writeAsiReg at h
  split at h
  case h_9 => cases h
  all_goals omega

/-- The queue tails are hyperprivileged code's to write (D54). -/
theorem Queues.write_tails {q q' : Queues} {va v : Word} (h : q.write false va v = some q') :
    q' = { q with
      cpuMondoHead := q'.cpuMondoHead, devMondoHead := q'.devMondoHead, resumableHead := q'.resumableHead
      nonresumableHead := q'.nonresumableHead } := by
  unfold Queues.write at h
  split at h <;> cases h <;> rfl

/-- Privileged code reaches the scratchpad, the context registers and the queue heads (21_asi.md R1420,
61_interrupts_cmt.md R1180, R1201). -/
theorem writeAsiReg_privileged {asi : BitVec 8} {va v : Word} (hhp : s.hpstate.hpriv = false)
    (hasi : asi.toNat < 0x30) (h : writeAsiReg s asi va v = some u) :
    u = { s with
      scratchpad := u.scratchpad
      queues :=
        { s.queues with
          cpuMondoHead := u.queues.cpuMondoHead, devMondoHead := u.queues.devMondoHead
          resumableHead := u.queues.resumableHead, nonresumableHead := u.queues.nonresumableHead }
      mmu :=
        { s.mmu with primaryContext := u.mmu.primaryContext, secondaryContext := u.mmu.secondaryContext } } := by
  unfold writeAsiReg at h
  split at h
  case h_1 =>
    obtain ⟨_, -, rfl⟩ := Option.map_eq_some_iff.1 h
    rfl
  case h_2 => split at h <;> cases h <;> rfl
  case h_3 =>
    rw [hhp] at h
    obtain ⟨q, hq, rfl⟩ := Option.map_eq_some_iff.1 h
    exact congrArg (fun q => ({ s with queues := q } : State)) (Queues.write_tails hq)
  case h_9 => cases h
  all_goals omega

/-! ## What a trap to privileged mode leaves -/

/-- What a trap to privileged mode does to the state that only hyperprivileged mode may change: it saves HPSTATE at
the new level. -/
structure TrapsToPrivileged (s t : State) : Prop where
  hpstate : t.hpstate = s.hpstate
  immuEnable : t.mmu.immuEnable = s.mmu.immuEnable
  dmmuEnable : t.mmu.dmmuEnable = s.mmu.dmmuEnable
  htstate : ∀ n : Fin 6, (t.traps.get n).htstate ≠ (s.traps.get n).htstate →
    n.val = s.tl.val ∧ (t.traps.get n).htstate = s.hpstate.bits

theorem takeTrap_trapsToPrivileged {e : Exc} (h6 : s.tl ≠ 6) (hhp : (takeTrap e s).hpstate.hpriv = false) :
    TrapsToPrivileged s (takeTrap e s) := by
  obtain ⟨hd, ht⟩ := takeTrap_of_not_hpriv h6 hhp
  have hl : s.tl.val < 6 := by omega
  have hentry : (takeTrap e s).trapEntry = s.savedTrap e.tt := takeTrap_trapEntry h6 e
  rw [ht] at hentry ⊢
  refine ⟨?_, ?_, ?_, fun n hn => ?_⟩
  · rw [State.normalTrap_privileged hd]
  · rw [State.normalTrap_privileged hd]
  · rw [State.normalTrap_privileged hd]
  · have hlevel : n.val = s.tl.val :=
      Decidable.byContradiction fun h => hn (by rw [State.normalTrap_traps_other hl e h])
    have hindex : n = trapIndex (nextLevel s.tl) :=
      Fin.ext (by simp only [trapIndex, nextLevel_val hl, hlevel, Nat.add_sub_cancel])
    rw [hindex]
    exact ⟨hindex ▸ hlevel, congrArg TrapEntry.htstate hentry⟩

/-- The only traps that keep a lower mode below MAXTL are those to privileged mode. -/
theorem Traps.trapsToPrivileged (h : Traps i s t) (hl : s.tl < t.tl) (hhp : t.hpstate.hpriv = false) :
    TrapsToPrivileged s t := by
  cases h with
  | @raised u hu e =>
    have hsame := hu.rest
    have h6 : u.tl ≠ 6 := by
      rw [hsame]
      exact ne_maxTL_of_lt_tl hl
    obtain ⟨hhpstate, hi, hd, hht⟩ := takeTrap_trapsToPrivileged h6 hhp
    rw [hsame] at hhpstate hi hd hht ⊢
    exact ⟨hhpstate, hi, hd, hht⟩
  | @dataFault a _ e =>
    have h6 : s.tl ≠ 6 := ne_maxTL_of_lt_tl hl
    rw [raiseData_hpstate] at hhp
    obtain ⟨hhpstate, hi, hd, hht⟩ := takeTrap_trapsToPrivileged h6 hhp
    have htraps : (raiseData s a e).traps = (takeTrap e s).traps := (congrArg State.traps (raiseData_takes s a e) :)
    refine ⟨by rw [raiseData_hpstate, hhpstate], ?_, ?_, ?_⟩
    · rw [raiseData_mmu, hi]
    · rw [raiseData_mmu, hd]
    · rwa [htraps]
  | reset _ _ hp =>
    rw [softwareReset_red (ne_maxTL_of_lt_tl hl)] at hhp
    cases hhp

/-- Delivering a trap, or taking a reset, leaves nonprivileged mode. -/
theorem takeTrap_isUser {e : Exc} (h6 : s.tl ≠ 6) : (takeTrap e s).isUser = false := by
  obtain ⟨h, -⟩ | ⟨-, _, ht⟩ | ⟨-, -, ht⟩ := takeTrap_cases e s
  · exact absurd h h6
  · rw [ht]
    rfl
  · rw [ht, State.isUser_normalTrap]

theorem raiseData_isUser (s : State) (a : Access) (e : Exc) : (raiseData s a e).isUser = (takeTrap e s).isUser :=
  (congrArg State.isUser (raiseData_takes s a e) :)

theorem Traps.isUser (h : Traps i s t) (hl : s.tl < t.tl) : t.isUser = false := by
  have h6 : s.tl ≠ 6 := ne_maxTL_of_lt_tl hl
  cases h with
  | @raised u hu e =>
    refine takeTrap_isUser ?_
    rw [hu.rest]
    exact h6
  | @dataFault a _ e => rw [raiseData_isUser, takeTrap_isUser h6]
  | reset =>
    rw [softwareReset_red h6]
    rfl

/-! ## Nonprivileged code -/

/-- The part of a state that only a higher mode changes: what nonprivileged code can write is blanked. -/
def State.aboveUser (s : State) : State :=
  { s.kept with
    pc := State.reset.pc, npc := State.reset.npc, asi := State.reset.asi, pic := State.reset.pic
    errorState := none, requests := State.reset.requests
    win :=
      { s.win with
        cwp := State.reset.win.cwp, cansave := State.reset.win.cansave, canrestore := State.reset.win.canrestore } }

theorem State.aboveUser_of_kept (h : t.kept = s.kept) : t.aboveUser = s.aboveUser :=
  (congrArg State.aboveUser h : t.kept.aboveUser = s.kept.aboveUser)

theorem State.aboveUser_of_moves (h : u.Moves t) : t.aboveUser = u.aboveUser :=
  (congrArg State.aboveUser h.rest).trans rfl

theorem Effect.aboveUser (h : Effect s i t) (hs : s.isUser = true) (ht : t.isUser = true) :
    t.aboveUser = s.aboveUser := by
  have hno {p : Prop} (hp : s.isUser = false) : p := absurd hs (Bool.eq_false_iff.1 hp)
  have hhyper {p : Prop} (hp : s.hpstate.hpriv = true) : p := hno (State.isUser_of_hpriv hp)
  cases h with
  | completes hu hm => exact (State.aboveUser_of_moves hm).trans (State.aboveUser_of_kept hu.kept)
  | movesWindow _ hw hu hm =>
    refine (State.aboveUser_of_moves hm).trans ((State.aboveUser_of_kept hu.kept).trans ?_)
    rw [hw]
    rfl
  | traps htr =>
    obtain ⟨hl, -⟩ | ⟨-, heq⟩ := htr.rises
    · exact absurd ht (Bool.eq_false_iff.1 (htr.isUser hl))
    · rw [heq]
      rfl
  | stxaRegister _ _ _ hd hw =>
    obtain ⟨rfl, hpermitted⟩ := dataAccess_register_permitted rfl hd
    have hlt := writeAsiReg_asi_lt hw
    have hhp : s.hpstate.hpriv = false := Bool.eq_false_iff.2 fun hp => hhyper hp
    rw [State.mode_nonprivileged_iff.2 ⟨hhp, hs⟩] at hpermitted
    obtain h | h | ⟨h, -⟩ := hpermitted
    · omega
    · cases h
    · cases h
  | wrasi | wrfprs | wrpic => rfl
  | saved hp | restored hp | done hp _ | retry hp _ | wrpcr _ _ _ hp | wrsoftint_set _ _ _ hp => exact hno hp
  | wrsoftint_clr _ _ _ hp | wrsoftint _ _ _ hp | wrtick_cmpr _ _ _ hp | wrstick_cmpr _ _ _ hp => exact hno hp
  | wrpr _ _ _ _ hp => exact hno hp
  | wrstick _ _ _ hp | wrhpr _ _ _ _ hp => exact hhyper hp

/-! ## Privileged code -/

/-- The part of a state that privileged code cannot change. -/
def State.abovePrivileged (s : State) : State :=
  { State.reset with
    htba := s.htba, hsp := s.hsp, hstickCmpr := s.hstickCmpr, tick := s.tick, stick := s.stick
    hyperScratchpad := s.hyperScratchpad, strandIntrId := s.strandIntrId, cmt := s.cmt
    mmu :=
      { s.mmu with
        primaryContext := State.reset.mmu.primaryContext, secondaryContext := State.reset.mmu.secondaryContext }
    queues :=
      { State.reset.queues with
        cpuMondoTail := s.queues.cpuMondoTail, devMondoTail := s.queues.devMondoTail
        resumableTail := s.queues.resumableTail, nonresumableTail := s.queues.nonresumableTail } }

theorem State.abovePrivileged_of_kept (h : t.kept = s.kept) : t.abovePrivileged = s.abovePrivileged :=
  (congrArg State.abovePrivileged h : t.kept.abovePrivileged = s.kept.abovePrivileged)

theorem State.abovePrivileged_of_moves (h : u.Moves t) : t.abovePrivileged = u.abovePrivileged :=
  (congrArg State.abovePrivileged h.rest).trans rfl

/-- What privileged code keeps: `State.abovePrivileged`, HPSTATE but for DONE and RETRY, and every HTSTATE but the one a
trap saves HPSTATE in. -/
structure PrivilegedConfined (i : Instr) (s t : State) : Prop where
  above : t.abovePrivileged = s.abovePrivileged
  hpstate : t.hpstate ≠ s.hpstate → i = .done ∨ i = .retry
  htstate : ∀ n : Fin 6, (t.traps.get n).htstate ≠ (s.traps.get n).htstate →
    s.tl < t.tl ∧ n.val = s.tl.val ∧ (t.traps.get n).htstate = s.hpstate.bits

theorem PrivilegedConfined.of_eq (ha : t.abovePrivileged = s.abovePrivileged) (hh : t.hpstate = s.hpstate)
    (ht : t.traps = s.traps) : PrivilegedConfined i s t where
  above := ha
  hpstate h := absurd hh h
  htstate n h := absurd (by rw [ht]) h

theorem PrivilegedConfined.of_kept {w : WindowRegs} (hk : u.kept = (s.setWin w).kept) (hm : u.Moves t) :
    PrivilegedConfined i s t := by
  refine .of_eq ((State.abovePrivileged_of_moves hm).trans ((State.abovePrivileged_of_kept hk).trans rfl)) ?_ ?_
  · rw [hm.rest]
    exact (congrArg State.hpstate hk :)
  · rw [hm.rest]
    exact (congrArg State.traps hk :)

theorem State.setTrapEntry_htstate (s : State) {e : TrapEntry} (he : e.htstate = s.trapEntry.htstate) (n : Fin 6) :
    ((s.setTrapEntry e).traps.get n).htstate = (s.traps.get n).htstate := by
  by_cases hn : (trapIndex s.tl).val = n.val
  · obtain rfl : trapIndex s.tl = n := Fin.ext hn
    rw [State.setTrapEntry, get_set_same]
    exact he
  · exact congrArg TrapEntry.htstate (get_set_other _ _ (trapIndex s.tl).isLt hn)

theorem prWrite_htstate (s : State) (v : Word) (pr : PrivReg) (n : Fin 6) :
    ((prWrite s v pr).traps.get n).htstate = (s.traps.get n).htstate := by
  cases pr with
  | tpc | tnpc | tstate | tt => exact s.setTrapEntry_htstate (by rfl) n
  | _ => rfl

theorem prWrite_tick {pr : PrivReg} (h : pr ≠ .tick) (v : Word) : (prWrite s v pr).tick = s.tick := by
  cases pr with
  | tick => exact absurd rfl h
  | _ => rfl

/-- With the enables and the fault registers as before, a trap leaves the MMU as it was. -/
theorem Traps.mmu (h : Traps i s t) (hd : TrapsToPrivileged s t) (hf : SameFaultRegisters s t) : t.mmu = s.mmu := by
  obtain ⟨hfar, hsr, htag⟩ := hf
  calc t.mmu =
        { t.trapKept.mmu with
          immuEnable := t.mmu.immuEnable, dmmuEnable := t.mmu.dmmuEnable, dsfar := t.mmu.dsfar, dsfsr := t.mmu.dsfsr
          dtagAccess := t.mmu.dtagAccess } := rfl
    _ = s.mmu := by
      rw [h.kept, hd.immuEnable, hd.dmmuEnable, hfar, hsr, htag]
      rfl

theorem Traps.confined (h : Traps i s t) (hhp : t.hpstate.hpriv = false)
    (hf : s.tl < t.tl → SameFaultRegisters s t) : PrivilegedConfined i s t := by
  obtain ⟨hl, -⟩ | ⟨-, heq⟩ := h.rises
  · have hd := h.trapsToPrivileged hl hhp
    refine ⟨?_, fun hne => absurd hd.hpstate hne, fun n hn => ⟨hl, hd.htstate n hn⟩⟩
    calc t.abovePrivileged =
          { t.trapKept.abovePrivileged with mmu := ({ s with mmu := t.mmu } : State).abovePrivileged.mmu } := rfl
      _ = s.abovePrivileged := by
        rw [h.kept, h.mmu hd (hf hl)]
        rfl
  · rw [heq]
    exact .of_eq rfl rfl rfl

theorem exec_confined (hs : s.mode = .privileged) (h : exec i s = .next t) (hhp : t.hpstate.hpriv = false) :
    PrivilegedConfined i s t := by
  have hshp : s.hpstate.hpriv = false := (State.mode_privileged_iff.1 hs).1
  have hhyper {p : Prop} (hp : s.hpstate.hpriv = true) : p := absurd hp (Bool.eq_false_iff.1 hshp)
  cases exec_effect h with
  | completes hu hm => exact .of_kept (w := s.win) hu.kept hm
  | movesWindow _ _ hu hm => exact .of_kept hu.kept hm
  | traps htr => exact htr.confined hhp fun hl => exec_sameFaultRegisters h hl hhp
  | stxaRegister _ _ _ hd hw =>
    obtain ⟨rfl, hpermitted⟩ := dataAccess_register_permitted rfl hd
    have hlt := writeAsiReg_asi_lt hw
    rw [hs] at hpermitted
    obtain h | h | ⟨-, h⟩ := hpermitted
    · omega
    · cases h
    · rw [writeAsiReg_privileged hshp h hw]
      exact .of_eq rfl rfl rfl
  | done | retry => exact ⟨rfl, fun _ => by simp, fun n hn => absurd rfl hn⟩
  | wrpr pr _ _ v _ ht =>
    have htick : (prWrite s v pr).tick = s.tick := prWrite_tick (fun h => hhyper (ht h)) v
    refine ⟨?_, fun h => absurd ?_ h, fun n hn => absurd (prWrite_htstate s v pr n) hn⟩
    · rw [prWrite_rest, htick]
      rfl
    · rw [prWrite_rest]
      rfl
  | saved | restored | wrasi | wrfprs | wrpcr | wrpic | wrsoftint_set => exact .of_eq rfl rfl rfl
  | wrsoftint_clr | wrsoftint | wrtick_cmpr | wrstick_cmpr => exact .of_eq rfl rfl rfl
  | wrstick _ _ _ hp | wrhpr _ _ _ _ hp => exact hhyper hp

theorem State.fields_of_aboveUser (h : t.aboveUser = s.aboveUser) :
    t.pstate = s.pstate ∧ t.hpstate = s.hpstate ∧ t.tl = s.tl ∧ t.gl = s.gl ∧ t.traps = s.traps ∧ t.tba = s.tba ∧
    t.htba = s.htba ∧ t.hsp = s.hsp ∧ t.pil = s.pil ∧ t.softint = s.softint ∧ t.tick = s.tick ∧ t.stick = s.stick ∧
    t.tickCmpr = s.tickCmpr ∧ t.stickCmpr = s.stickCmpr ∧ t.hstickCmpr = s.hstickCmpr ∧ t.pcr = s.pcr ∧
    t.mmu = s.mmu ∧ t.scratchpad = s.scratchpad ∧ t.hyperScratchpad = s.hyperScratchpad ∧ t.queues = s.queues ∧
    t.strandIntrId = s.strandIntrId ∧ t.cmt = s.cmt ∧ t.win.wstateNormal = s.win.wstateNormal ∧
    t.win.wstateOther = s.win.wstateOther ∧ t.win.cleanwin = s.win.cleanwin ∧ t.win.otherwin = s.win.otherwin := by
  simp only [State.aboveUser, State.kept, State.mk.injEq, WindowRegs.mk.injEq] at h
  simp only [h, and_self]

theorem State.fields_of_abovePrivileged (h : t.abovePrivileged = s.abovePrivileged) :
    t.htba = s.htba ∧ t.hsp = s.hsp ∧ t.hstickCmpr = s.hstickCmpr ∧ t.tick = s.tick ∧ t.stick = s.stick ∧
    t.hyperScratchpad = s.hyperScratchpad ∧ t.strandIntrId = s.strandIntrId ∧ t.cmt = s.cmt ∧
    t.mmu =
      { s.mmu with primaryContext := t.mmu.primaryContext, secondaryContext := t.mmu.secondaryContext } ∧
    t.queues.cpuMondoTail = s.queues.cpuMondoTail ∧ t.queues.devMondoTail = s.queues.devMondoTail ∧
    t.queues.resumableTail = s.queues.resumableTail ∧ t.queues.nonresumableTail = s.queues.nonresumableTail := by
  have hmmu := congrArg (fun u : State =>
    { u.mmu with primaryContext := t.mmu.primaryContext, secondaryContext := t.mmu.secondaryContext }) h
  exact ⟨(congrArg State.htba h :), (congrArg State.hsp h :), (congrArg State.hstickCmpr h :),
    (congrArg State.tick h :), (congrArg State.stick h :), (congrArg State.hyperScratchpad h :),
    (congrArg State.strandIntrId h :), (congrArg State.cmt h :), hmmu, (congrArg (fun u => u.queues.cpuMondoTail) h :),
    (congrArg (fun u => u.queues.devMondoTail) h :), (congrArg (fun u => u.queues.resumableTail) h :),
    (congrArg (fun u => u.queues.nonresumableTail) h :)⟩

/-- Settles O10: nonprivileged code by `Effect.aboveUser`, privileged code by `exec_confined`. -/
theorem lowerModesAreConfined : Obligations.LowerModesAreConfined := by
  refine ⟨fun i s t hs h ht => State.fields_of_aboveUser ((exec_effect h).aboveUser hs ht), fun i s t hs h hhp => ?_⟩
  obtain ⟨habove, hhpstate, hhtstate⟩ := exec_confined hs h hhp
  obtain ⟨hhtba, hhsp, hcmpr, htick, hstick, hscratch, hid, hcmt, hmmu, hcpu, hdev, hresumable, hnonresumable⟩ :=
    State.fields_of_abovePrivileged habove
  exact ⟨hhtba, hhsp, hcmpr, htick, hstick, hscratch, hid, hcmt, hmmu, hcpu, hdev, hresumable, hnonresumable, hhpstate,
    hhtstate⟩

end Sys2Proof.Machine
end
